-- ==== Sys2Proof/Word.lean ====
section
/-! DEFINITION. The one word type of this block: the byte of its frames.
Angles, speeds, times and counts are exact integers in the spec (R2, R4), so they are `Int` and `Nat`. -/

namespace Sys2Proof

/-- A byte of a frame (R172, R183). -/
abbrev Byte := BitVec 8

end Sys2Proof
end

