-- ==== Sys2Proof/Config.lean ====
section
/-! DEFINITION. The fixed sizes the spec gives the part, and its one free value. -/

namespace Sys2Proof.Config

/-- Report records held plus slots reserved never exceed this (R130). -/
def reportSlots : Nat := 32

/-- REPLY frames awaiting sending (R174). -/
def replyPlaces : Nat := 8

/-- Frames in the controller port's receive buffer (R174). -/
def receivePlaces : Nat := 4

/-- Samples in the angle history of one axis (R124). -/
def historyPlaces : Nat := 128

/-- Entries of the target table (R20). -/
def entries : Nat := 64

/-- The countdown value of a one-shot entry that has expired (R28). -/
def spentMarker : Nat := 4294967295

/-- Site time is a count below this (R175). -/
def siteTimeModulus : Nat := 281474976710656

/-- The number put into a field of `bytes` bytes when the value `x` does not fit the field.
The spec states no result there, so nothing constrains it (log entry 14). -/
opaque misfit (bytes : Nat) (x : Int) : Nat

end Sys2Proof.Config
end

