-- ==== Sys2Proof/Syntax.lean ====
section
/-! DEFINITION. The commands and events of the Holmara P64, one constructor of `Instr` for each row of
spec/opcode_table.json, with the operands each row's frame or event carries (R183 and the chapters). -/

namespace Sys2Proof

/-- The two axes, in code order (chapter 11, code values). -/
inductive Axis where
  | h | v
  deriving DecidableEq, Repr

/-- The three ports (00_scope.md, Ports). -/
inductive Port where
  | axis | sensor | controller
  deriving DecidableEq, Repr

/-- Kind of a target entry, in the order in which LOAD TARGET lists them. -/
inductive TargetKind where
  | monitor | control | track | noKind
  deriving DecidableEq, Repr

/-- The definition half of a target entry (chapter 2, definition fields). -/
structure Definition where
  kind : TargetKind
  enable : Bool
  priority : Nat
  periodic : Bool
  period : Nat
  offset : Nat
  hz : Int
  v : Int
  d0 : Int
  dtol : Int
  prism : Int
  w : Int
  ilo : Nat
  ihi : Nat
  dwell : Nat
  deriving DecidableEq, Repr

/-- A definition as LOAD TARGET carries it: the coded bytes may hold values that their fields do not
allow (R21, R183). -/
structure TargetLoad where
  kind : Nat
  enable : Nat
  priority : Nat
  periodic : Nat
  period : Nat
  offset : Nat
  hz : Int
  v : Int
  d0 : Int
  dtol : Int
  prism : Int
  w : Int
  ilo : Nat
  ihi : Nat
  dwell : Nat
  deriving DecidableEq, Repr

/-- The numeric station parameters (R7 and the table of section 1.2), in LOAD STATION order. -/
structure StationNumbers where
  vmaxH : Nat
  vmaxV : Nat
  accH : Nat
  accV : Nat
  vMin : Int
  vMax : Int
  settleWin : Int
  settleN : Nat
  settleTimeout : Nat
  acqFrames : Nat
  lockN : Nat
  lockTol : Int
  lossN : Nat
  aimTol : Int
  centreLimit : Nat
  ambig : Int
  ambigLimit : Nat
  searchLegs : Nat
  spotSilence : Nat
  rangeTimeout : Nat
  shotRetry : Nat
  angleSilenceExp : Nat
  tiltLimit : Int
  tiltStale : Nat
  levelN : Nat
  levelOkN : Nat
  coll : Int
  trun : Int
  index : Int
  orient : Int
  missLimit : Nat
  backoffBase : Nat
  backoffCap : Nat
  controlTol : Int
  feedDiv : Nat
  trackInterval : Nat
  jogLease : Nat
  deriving DecidableEq, Repr

/-- The station parameter block the part holds (R5, R7). -/
structure Station where
  n : StationNumbers
  compEnable : Bool
  criticalEnable : Bool
  deriving DecidableEq, Repr

/-- The station parameters as LOAD STATION carries them, the two on/off bytes as received. -/
structure StationLoad where
  n : StationNumbers
  compEnable : Nat
  criticalEnable : Nat
  deriving DecidableEq, Repr

/-- One row of the zenith factor table (R8). -/
structure ZRow where
  s : Int
  k : Int
  deriving DecidableEq, Repr

/-- Sources of the speed derating unit, in table order (R143). -/
inductive DerateSource where
  | instrTemp | driveHTemp | driveVTemp | tiltJitter
  deriving DecidableEq, Repr

/-- Fraction modes of a derate group (R144). -/
inductive FractionMode where
  | f8 | fn
  deriving DecidableEq, Repr

/-- Definition of a derate group (R144). -/
structure DerateDef where
  enable : Bool
  source : DerateSource
  high : Int
  low : Int
  n : Nat
  mode : FractionMode
  deriving DecidableEq, Repr

/-- A derate definition as LOAD DERATE carries it (R146). -/
structure DerateLoad where
  enable : Nat
  source : Nat
  high : Int
  low : Int
  n : Nat
  mode : Nat
  deriving DecidableEq, Repr

/-- Drive fault causes other than none (chapter 11, code values). -/
inductive DriveFault where
  | stall | overcurrent | overtemp | encoder
  deriving DecidableEq, Repr

/-- What a DRIVE_STATUS frame says: a FAULT carries a cause and a READY carries none (R153). -/
inductive DriveStatus where
  | ready
  | fault (cause : DriveFault)
  deriving DecidableEq, Repr

/-- Status of a RANGE frame (R120). -/
inductive RangeStatus where
  | ok | weak | noisy | multi | noReturn
  deriving DecidableEq, Repr

/-- One spot of a SPOT frame (R101). -/
structure Spot where
  dx : Int
  dy : Int
  intensity : Nat
  deriving DecidableEq, Repr

/-- What SCS reads back from the cell of the slot being burned (R170). -/
inductive CellRead where
  | value (x : Int)
  | unreadable
  deriving DecidableEq, Repr

/-- A transmitter's event: the first byte of a frame, or the last (R181, R182). -/
inductive SendMoment where
  | begins | ends
  deriving DecidableEq, Repr

/-- What every controller request has: when its last byte arrives, in µs of the present control period
(log entry 5), and its tag (R172). -/
structure Hdr where
  us : Nat
  tag : Byte
  deriving DecidableEq, Repr

/-- The part's commands and events: one constructor for each row of spec/opcode_table.json. -/
inductive Instr where
  -- inputs and frames received
  | coldReset
  | haltLineAsserted (us : Nat)
  | periodExpiry (cell : CellRead)
  | angleFrame (us : Nat) (axis : Axis) (raw : Int) (age : Nat)
  | driveStatusFrame (us : Nat) (axis : Axis) (status : DriveStatus) (temp : Int)
  | spotFrame (us : Nat) (age : Nat) (spots : List Spot)
  | rangeFrame (us : Nat) (shotId : Nat) (age : Nat) (distance : Int) (strength : Nat) (status : RangeStatus)
  | tiltFrame (us : Nat) (tl : Int) (tc : Int) (overrange : Bool) (temp : Int)
  | badFrame (us : Nat) (port : Port) (bytes : List Byte)
  | controllerFrameArrival (us : Nat) (kind : Byte) (tag : Byte) (payload : List Byte)
  -- requests of the controller port
  | unknownRequest (h : Hdr)
  | loadTarget (h : Hdr) (entry : Nat) (load : TargetLoad)
  | loadStation (h : Hdr) (load : StationLoad)
  | loadZenith (h : Hdr) (first : Nat) (last : Nat) (rows : List ZRow)
  | loadSector (h : Hdr) (axis : Nat) (sector : Nat) (mark : Nat) (value : Int)
  | loadDerate (h : Hdr) (group : Nat) (load : DerateLoad)
  | start (h : Hdr)
  | stop (h : Hdr)
  | aim (h : Hdr) (entry : Nat)
  | pause (h : Hdr)
  | halt (h : Hdr)
  | resume (h : Hdr)
  | clear (h : Hdr)
  | abandon (h : Hdr)
  | jog (h : Hdr) (speedH : Int) (speedV : Int)
  | park (h : Hdr)
  | settime (h : Hdr) (t : Nat)
  | suspend (h : Hdr) (entry : Nat)
  | restore (h : Hdr) (entry : Nat)
  | key (h : Hdr) (k : Nat)
  | burn (h : Hdr) (axis : Nat) (sector : Nat) (value : Int)
  | restart (h : Hdr)
  | queryStatus (h : Hdr)
  | queryTarget (h : Hdr) (entry : Nat)
  | queryContext (h : Hdr)
  | queryNotices (h : Hdr)
  | querySector (h : Hdr) (axis : Nat)
  | queryQueue (h : Hdr)
  -- events of the part itself
  | countdownExpiry (entry : Nat)
  | retryTimerExpiry (entry : Nat)
  | settleTimeout
  | detectorSilence
  | rangeTimeout
  | trackTimerExpiry
  | dwellExpiry
  | leaseExpiry
  | burnCompletion (cell : CellRead)
  | tiltStaleSet
  | sourceStale (source : DerateSource)
  | encoderSilence (axis : Axis)
  | restartTimeout
  | axisArrival (axis : Axis)
  | settleCompletion (time : Int)
  | stopCompletion
  | captureComplete (rawH : Int) (rawV : Int)
  | dispatch
  | automaticResume
  | levelLoss
  | levelRegained
  -- transmitters
  | replySent (moment : SendMoment)
  | alertSent (moment : SendMoment)
  | obsSent (moment : SendMoment)
  | directionSent (moment : SendMoment)
  | haltLineReleased (us : Nat)
  | siteTimeWrap
  | driveFrameSent (axis : Axis) (moment : SendMoment)
  | shotFrameSent (moment : SendMoment)
  deriving DecidableEq, Repr

end Sys2Proof
end

