-- ==== Sys2Proof/Decode.lean ====
section
/-! DEFINITION. Commands spelled by the bits of the table: spec/opcode_table.json gives bits to none of its rows, so no word
spells a command. The bytes that the ports carry are read in Machine/Wire.lean and Machine/Operands.lean (R172, R176, R183). -/

namespace Sys2Proof

/-- The command that a word spells by the table's bits. No row of the table has bits. -/
def decodeTableWord (_nbits _w : Nat) : Option Instr := none

end Sys2Proof
end

