-- ==== Sys2Proof/Machine/State.lean ====
section
/-! DEFINITION. The state of the Holmara P64, block by block as 00_scope.md lists what each block owns,
with the queue of waiting commands, the reasons a step can stop, and the state after a cold reset. -/

namespace Sys2Proof.Machine

open Sys2Proof

/-- No command of this block stops with a fault: every row of the table has an effect in every state. -/
inductive Fault where
  deriving DecidableEq, Repr

/-- Why a command may be refused. -/
inductive Refusal where
  /-- Raised by an arm of `exec` whose command has no meaning yet. Safe: the machine stops there. -/
  | notModelled (mnemonic : String)
  deriving DecidableEq, Repr

/-- One value for each axis. -/
structure PerAxis (α : Type) where
  h : α
  v : α
  deriving DecidableEq, Repr

/-- The value of one axis. -/
def PerAxis.get {α : Type} (x : PerAxis α) : Axis → α
  | .h => x.h
  | .v => x.v

/-- Replace the value of one axis. -/
def PerAxis.set {α : Type} (x : PerAxis α) (a : Axis) (y : α) : PerAxis α :=
  match a with
  | .h => { x with h := y }
  | .v => { x with v := y }

/-! ### Site clock (STC) -/

/-- Site time (R175) and how many µs of the present control period have passed (R1). -/
structure Stc where
  siteTime : Nat
  periodUs : Nat
  deriving DecidableEq, Repr

/-! ### Link interface (LIF) -/

/-- Receiver bytes not yet made into a frame (none: HUNT; some, from a sync byte on: FRAME; R172) and the
link error counts of the three ports (R173). -/
structure Link where
  rxAxis : List Byte
  rxSensor : List Byte
  rxController : List Byte
  errAxis : Nat
  errSensor : Nat
  errController : Nat
  deriving DecidableEq, Repr

/-- A controller-port frame that has arrived, as its request (log entry 7). -/
inductive Buffered where
  | request (i : Instr)
  | wrongLength (h : Hdr)
  deriving DecidableEq, Repr

/-- A frame in the receive buffer, with its arrival stamp (R174, R175). -/
structure BufferedFrame where
  frame : Buffered
  stamp : Nat
  deriving DecidableEq, Repr

/-- Result codes, in code order (chapter 11). -/
inductive ResultCode where
  | done | state | range | busy | fixed | burning | lockout | unknown
  deriving DecidableEq, Repr

/-- A REPLY frame: tag, result code and body (R176). -/
structure Reply where
  tag : Byte
  code : ResultCode
  body : List Byte
  deriving DecidableEq, Repr

/-- The controller port's receive buffer and reply queue, oldest first (R174). -/
structure Requests where
  buffer : List BufferedFrame
  replies : List Reply
  deriving DecidableEq, Repr

/-- The 16 notice kinds, in summary order (R177). -/
inductive NoticeKind where
  | suspended | stationDrift | crowded | mismatch | unsettled | detectorSilent | rangerSilent | levelLoss
  | levelRegained | driveFault | lockout | burnDone | burnFailed | overrun | derate | linkError
  deriving DecidableEq, Repr

/-- One record of the notice summary (R177). -/
structure NoticeRecord where
  pending : Bool
  count : Nat
  lastTarget : Option Nat
  deriving DecidableEq, Repr

/-- The notice summary, one record for each kind in order, and the alert slot (R177, R178). -/
structure Notices where
  records : List NoticeRecord
  alertWaits : Bool
  deriving DecidableEq, Repr

/-- The flags of an observation record (chapter 7). -/
structure RecordFlags where
  suspect : Bool
  limited : Bool
  tiltStale : Bool
  retried : Bool
  oneOff : Bool
  follow : Bool
  control : Bool
  deriving DecidableEq, Repr

/-- The deviations of a CONTROL record (R129). -/
structure Deviations where
  dHz : Int
  dV : Int
  dD : Option Int
  deriving DecidableEq, Repr

/-- An observation record (section 7.4). -/
structure ObsRecord where
  sequence : Nat
  target : Nat
  siteTime : Nat
  hz : Int
  v : Int
  distance : Int
  strength : Nat
  attempts : Nat
  flags : RecordFlags
  deviations : Option Deviations
  followIndex : Option Nat
  deriving DecidableEq, Repr

/-- A DIRECTION frame (R132). -/
structure Direction where
  siteTime : Nat
  hz : Int
  v : Int
  deriving DecidableEq, Repr

/-- The report queue, oldest first (R130), the sequence number of the next record (R128), the feed count
and the direction slot (R132). -/
structure Reports where
  queue : List ObsRecord
  nextSequence : Nat
  feedCount : Nat
  direction : Option Direction
  deriving DecidableEq, Repr

/-- Mode of a DRIVE frame, in code order. -/
inductive DriveMode where
  | hold | position
  deriving DecidableEq, Repr

/-- A DRIVE frame (R96). -/
structure DriveFrame where
  axis : Axis
  mode : DriveMode
  position : Int
  speed : Int
  deriving DecidableEq, Repr

/-- The frame the controller-port transmitter is sending (R181). -/
inductive Sending where
  | reply (r : Reply)
  | alert (pending : List Bool)
  | obs (r : ObsRecord)
  | direction (d : Direction)
  deriving DecidableEq, Repr

/-- The three transmitters (R181, R182): the frame being sent on each port, the DRIVE slot of each axis, and
the SHOT frames queued, oldest first. -/
structure Transmit where
  controller : Option Sending
  axis : Option DriveFrame
  sensor : Option Nat
  slots : PerAxis (Option DriveFrame)
  shots : List Nat
  deriving DecidableEq, Repr

/-! ### Target table (TTB) -/

/-- The eight entry states, in code order (section 2.2). -/
inductive EntryState where
  | empty | disabled | armed | due | active | backoff | spent | suspended
  deriving DecidableEq, Repr

/-- The nine outcomes, in code order (R31, chapter 11). -/
inductive Verdict where
  | done | partialDone | obscured | crowded | mismatch | unsettled | nosensor | norange | abandoned
  deriving DecidableEq, Repr

/-- Last observation summary of an entry (R31). -/
structure Summary where
  siteTime : Nat
  hz : Int
  v : Int
  distance : Int
  deriving DecidableEq, Repr

/-- One target entry: definition and run-time fields (chapter 2). -/
structure Entry where
  definition : Definition
  state : EntryState
  countdown : Nat
  retry : Option Nat
  misses : Nat
  overruns : Nat
  deferred : Bool
  pendingDef : Option Definition
  lastOutcome : Option Verdict
  lastSummary : Option Summary
  deriving DecidableEq, Repr

/-! ### Observation scheduler (OSC) -/

/-- The operating mode, in code order (R41). -/
inductive OperatingMode where
  | stopped | running
  deriving DecidableEq, Repr

/-- A number in the due queue with its two keys (R45). -/
structure QueueItem where
  target : Nat
  priority : Nat
  seq : Nat
  deriving DecidableEq, Repr

/-- State of the scheduler (chapter 3). -/
structure Osc where
  mode : OperatingMode
  queue : List QueueItem
  counter : Nat
  detectorReady : Bool
  suspect : Bool
  deriving DecidableEq, Repr

/-! ### Pointing engine (PEN) and shot handling -/

/-- How a pointing began, in code order (section 4.1). -/
inductive PointingKind where
  | scheduled | oneOff
  deriving DecidableEq, Repr

/-- The phases of a pointing in flight, in order after IDLE (section 4.1). -/
inductive Phase where
  | slew | settle | acquire | searchMove | look | locking | centre | measure | follow
  deriving DecidableEq, Repr

/-- Where the current lock attempt began (section 4.1). -/
inductive LockSource where
  | acquire
  | search (leg : Nat)
  deriving DecidableEq, Repr

/-- The pointing record (section 4.1). The pending shot id is the id of the shot in hand (R117). -/
structure Pointing where
  target : Nat
  kind : PointingKind
  phase : Phase
  frozenCopy : Definition
  searchLeg : Nat
  legsCompleted : Nat
  ox : Int
  oy : Int
  source : LockSource
  limited : Bool
  settleTime : Option Int
  settleTimer : Nat
  silence : Nat
  attempts : Nat
  reservation : Bool
  onAim : Bool
  followCount : Nat
  dwell : Option Nat
  track : Option Nat
  frozen : Bool
  /-- which axes have arrived in the present SLEW or SEARCH_MOVE (R62) -/
  arrived : PerAxis Bool
  deriving DecidableEq, Repr

/-- The range result stored in AWAITING_ANGLES, with the axis values found so far (R126). -/
structure Capture where
  time : Int
  distance : Int
  strength : Nat
  found : PerAxis (Option Int)
  deriving DecidableEq, Repr

/-- What the shot in hand waits for (section 7.1). -/
inductive ShotStage where
  | awaitingRange (timer : Nat)
  | awaitingAngles (c : Capture)
  deriving DecidableEq, Repr

/-- The shot in hand. -/
structure Shot where
  id : Nat
  stage : ShotStage
  deriving DecidableEq, Repr

/-- The pointing engine: the pointing in flight and shot handling (R59, section 7.1). -/
structure Pen where
  pointing : Option Pointing
  nextShotId : Nat
  shot : Option Shot
  retriesClosed : Bool
  lateRanges : Nat
  deriving DecidableEq, Repr

/-! ### Spot qualifier (SQU) -/

/-- A spot offset (section 6.1). -/
structure Offset where
  dx : Int
  dy : Int
  deriving DecidableEq, Repr

/-- The last chosen candidate (R105). -/
structure Candidate where
  at_ : Offset
  time : Int
  deriving DecidableEq, Repr

/-- State of the spot qualifier (section 6.1). -/
structure Squ where
  acquire : Nat
  lock : Nat
  loss : Nat
  ambiguity : Nat
  centre : Nat
  previous : Option Offset
  last : Option Candidate
  deriving DecidableEq, Repr

/-! ### Angle reduction unit (ARU) -/

/-- The latest tilt sample (R11). -/
structure TiltSample where
  tl : Int
  tc : Int
  overrange : Bool
  deriving DecidableEq, Repr

/-- State of the angle reduction unit beside the station constants (sections 1.3 and 1.4). -/
structure Aru where
  zenith : List ZRow
  tilt : Option TiltSample
  tiltAge : Nat
  tiltStale : Bool
  jitterSteps : List Nat
  jitter : Nat
  deriving DecidableEq, Repr

/-! ### Shot capture unit (SCU) -/

/-- A stored encoder sample (R124). -/
structure Sample where
  time : Int
  raw : Int
  deriving DecidableEq, Repr

/-- The two angle histories, oldest first (R124). The newest raw value is the latest raw sample (R98). -/
structure Scu where
  history : PerAxis (List Sample)
  deriving DecidableEq, Repr

/-! ### Axis profile generator (APG) -/

/-- Direction of motion. -/
inductive Dir where
  | plus | minus
  deriving DecidableEq, Repr

/-- Motion states (section 5.1). -/
inductive Motion where
  | still | moving | braking | held
  deriving DecidableEq, Repr

/-- Requesters of a setpoint or stop (section 5.1). -/
inductive Requester where
  | pointing | jog | diversion | nobody
  deriving DecidableEq, Repr

/-- A setpoint handed while HELD (R88). -/
structure Waiting where
  setpoint : Int
  requester : Requester
  deriving DecidableEq, Repr

/-- The record of one axis (section 5.1). -/
structure AxisRec where
  p : Option Int
  s : Nat
  dir : Dir
  setpoint : Option Int
  motion : Motion
  vmax : Nat
  acc : Nat
  requester : Requester
  waiting : Option Waiting
  /-- signed speed of the step taken at the latest period expiry, for its DRIVE frame (R96) -/
  stepSpeed : Int
  deriving DecidableEq, Repr

/-- A settle test in progress: what it took at its start, and the two in-window counts (R95). -/
structure SettleTest where
  setpoint : PerAxis Int
  win : Int
  n : Nat
  count : PerAxis Nat
  deriving DecidableEq, Repr

/-- State of the axis profile generator. -/
structure Apg where
  axes : PerAxis AxisRec
  settle : Option SettleTest
  deriving DecidableEq, Repr

/-! ### Drive selector (DSL) -/

/-- Drive sources (R133). -/
inductive Source where
  | hold | aim | jog | park
  deriving DecidableEq, Repr

/-- The jog state (R136): the lease is present in LEASED, the jog speeds until the jog has stopped (R140). -/
inductive Jog where
  | none
  | leased (lease : Nat) (speed : PerAxis Int)
  | stopping (speed : PerAxis Int)
  deriving DecidableEq, Repr

/-- State of the drive selector. -/
structure Dsl where
  selected : PerAxis Source
  jog : Jog
  /-- put into HOLD by the restart timeout, no period expiry since (R133) -/
  restartHold : PerAxis Bool
  deriving DecidableEq, Repr

/-! ### Speed derating unit (SDU) -/

/-- A temperature source (R143). -/
structure TempSource where
  value : Option Int
  age : Nat
  stale : Bool
  deriving DecidableEq, Repr

/-- A derate group (R144). -/
structure DerateGroup where
  definition : DerateDef
  active : Bool
  deriving DecidableEq, Repr

/-- State of the speed derating unit. TILT_JITTER is the jitter ARU holds (R143). -/
structure Sdu where
  instrTemp : TempSource
  driveTemp : PerAxis TempSource
  groups : List DerateGroup
  deriving DecidableEq, Repr

/-! ### Diversion controller (DVC) -/

/-- The six diversion states, in code order (section 9.1). -/
inductive DvcState where
  | run | stopping | held | critical | halted | lockout
  deriving DecidableEq, Repr

/-- The causes (R147). -/
inductive Cause where
  | none | pause | level | restart | halt
  | drive (axis : Axis) (fault : DriveFault)
  | silence (axis : Axis)
  deriving DecidableEq, Repr

/-- Resume mode, in code order (R147). -/
inductive ResumeMode where
  | command | auto
  deriving DecidableEq, Repr

/-- The pointing part of a context, as PEN hands it over (R81, R148). -/
structure PointingPart where
  kind : PointingKind
  frozenCopy : Definition
  phase : Phase
  searchLeg : Nat
  legsCompleted : Nat
  ox : Int
  oy : Int
  attempts : Nat
  followCount : Nat
  dwell : Option Nat
  deriving DecidableEq, Repr

/-- A saved context (R148). -/
structure Context where
  target : Option Nat
  part : Option PointingPart
  cause : Cause
  recoverable : Bool
  savedAt : Nat
  deriving DecidableEq, Repr

/-- The critical record: a context and what DVC held before the fault (R148). -/
structure CriticalRecord where
  context : Context
  priorState : DvcState
  priorCause : Cause
  priorResume : Option ResumeMode
  cleared : Bool
  deriving DecidableEq, Repr

/-- State of the level monitor (R151). -/
inductive LevelState where
  | level | lost
  deriving DecidableEq, Repr

/-- A drive report (R153). -/
inductive DriveReport where
  | none | ready
  | fault (cause : DriveFault)
  deriving DecidableEq, Repr

/-- State of the diversion controller. -/
structure Dvc where
  state : DvcState
  cause : Cause
  resumeMode : Option ResumeMode
  ordinary : Option Context
  critical : Option CriticalRecord
  restartTimer : Option Nat
  level : LevelState
  beyond : Nat
  within : Nat
  report : PerAxis DriveReport
  silenceAge : PerAxis Nat
  lockoutFaults : Nat
  /-- an ANGLE sample has been accepted since CRITICAL was entered (R157) -/
  fresh : PerAxis Bool
  /-- the HALT input line is asserted (R156) -/
  haltLine : Bool
  deriving DecidableEq, Repr

/-! ### Sector correction store (SCS) -/

/-- A fixed slot (R166). -/
inductive Slot where
  | blank
  | fixed (value : Int)
  | spoiled
  deriving DecidableEq, Repr

/-- The burn in progress (R169). -/
structure Burn where
  axis : Axis
  sector : Nat
  value : Int
  timer : Nat
  deriving DecidableEq, Repr

/-- State of the sector correction store. -/
structure Scs where
  soft : PerAxis (List (Option Int))
  slots : PerAxis (List Slot)
  guard : Nat
  burn : Option Burn
  deriving DecidableEq, Repr

/-! ### The part -/

/-- Everything the spec gives the part, and the queue of the commands that wait, first in, first out. -/
structure State where
  stc : Stc
  link : Link
  requests : Requests
  notices : Notices
  reports : Reports
  transmit : Transmit
  entries : List Entry
  osc : Osc
  pen : Pen
  squ : Squ
  station : Station
  aru : Aru
  scu : Scu
  apg : Apg
  dsl : Dsl
  sdu : Sdu
  dvc : Dvc
  scs : Scs
  pending : List Instr
  deriving DecidableEq, Repr

/-! ### Cold values -/

/-- The definition of an EMPTY entry: kind NONE and zeros (R20). -/
def zeroDefinition : Definition :=
  { kind := .noKind, enable := false, priority := 0, periodic := false, period := 0, offset := 0, hz := 0, v := 0,
    d0 := 0, dtol := 0, prism := 0, w := 0, ilo := 0, ihi := 0, dwell := 0 }

/-- An entry at cold reset (R20). -/
def emptyEntry : Entry :=
  { definition := zeroDefinition, state := .empty, countdown := 0, retry := none, misses := 0, overruns := 0,
    deferred := false, pendingDef := none, lastOutcome := none, lastSummary := none }

/-- The cold station values (section 1.2, R7). -/
def coldStation : Station :=
  { n :=
      { vmaxH := 8192, vmaxV := 8192, accH := 64, accV := 64, vMin := 1048576, vMax := 7340032, settleWin := 40,
        settleN := 5, settleTimeout := 1500, acqFrames := 2, lockN := 3, lockTol := 200, lossN := 4, aimTol := 30,
        centreLimit := 20, ambig := 600, ambigLimit := 8, searchLegs := 12, spotSilence := 500, rangeTimeout := 800,
        shotRetry := 2, angleSilenceExp := 13, tiltLimit := 1000, tiltStale := 200, levelN := 3, levelOkN := 10,
        coll := 0, trun := 0, index := 0, orient := 0, missLimit := 6, backoffBase := 2000, backoffCap := 120000,
        controlTol := 60, feedDiv := 0, trackInterval := 200, jogLease := 250 },
    compEnable := true, criticalEnable := true }

/-- A notice record after a clearing (R177). -/
def clearRecord : NoticeRecord := { pending := false, count := 0, lastTarget := none }

/-- The notice summary after a clearing (R177). -/
def clearNotices : Notices := { records := List.replicate 16 clearRecord, alertWaits := false }

/-- SQU with every counter 0 and both positions absent (R100). -/
def zeroSqu : Squ :=
  { acquire := 0, lock := 0, loss := 0, ambiguity := 0, centre := 0, previous := none, last := none }

/-- An axis record at cold reset (R83). -/
def coldAxis : AxisRec :=
  { p := none, s := 0, dir := .plus, setpoint := none, motion := .held, vmax := 8192, acc := 64, requester := .nobody,
    waiting := none, stepSpeed := 0 }

/-- A temperature source at cold reset (R143). -/
def coldTemp : TempSource := { value := none, age := 0, stale := true }

/-- A derate group at cold reset (R144). -/
def coldGroup : DerateGroup :=
  { definition := { enable := false, source := .instrTemp, high := 0, low := 0, n := 0, mode := .f8 }, active := false }

/-- The same value for both axes. -/
def both {α : Type} (x : α) : PerAxis α := { h := x, v := x }

/-- The volatile state at cold reset, over fixed slots, a HALT line and a queue that the reset does not touch
(R20, R59, R83, R100, R117, R124, R130, R135, R136, R143, R144, R147, R151, R153, R164, R167, R172 to R177, R181,
R182 and the cold columns of the chapters' tables). -/
def coldState (slots : PerAxis (List Slot)) (haltLine : Bool) (pending : List Instr) : State :=
  { stc := { siteTime := 0, periodUs := 0 },
    link := { rxAxis := [], rxSensor := [], rxController := [], errAxis := 0, errSensor := 0, errController := 0 },
    requests := { buffer := [], replies := [] },
    notices := clearNotices,
    reports := { queue := [], nextSequence := 0, feedCount := 0, direction := none },
    transmit := { controller := none, axis := none, sensor := none, slots := both none, shots := [] },
    entries := List.replicate 64 emptyEntry,
    osc := { mode := .stopped, queue := [], counter := 0, detectorReady := true, suspect := false },
    pen := { pointing := none, nextShotId := 0, shot := none, retriesClosed := false, lateRanges := 0 },
    squ := zeroSqu,
    station := coldStation,
    aru :=
      { zenith := List.replicate 33 { s := 4096, k := 0 }, tilt := none, tiltAge := 0, tiltStale := true,
        jitterSteps := [], jitter := 0 },
    scu := { history := both [] },
    apg := { axes := both coldAxis, settle := none },
    dsl := { selected := both .hold, jog := .none, restartHold := both false },
    sdu := { instrTemp := coldTemp, driveTemp := both coldTemp, groups := List.replicate 4 coldGroup },
    dvc :=
      { state := .run, cause := .none, resumeMode := none, ordinary := none, critical := none, restartTimer := none,
        level := .level, beyond := 0, within := 0, report := both .none, silenceAge := both 0, lockoutFaults := 0,
        fresh := both false, haltLine := haltLine },
    scs := { soft := both (List.replicate 32 none), slots := slots, guard := 0, burn := none },
    pending := pending }

/-- The machine right after its first power-up: the cold values, every fixed slot BLANK and the HALT line
inactive (log entry 10), no command waiting. -/
def State.reset : State := coldState (both (List.replicate 32 .blank)) false []

end Sys2Proof.Machine
end

