-- ==== Sys2Proof/Machine/Arith.lean ====
section
/-! DEFINITION. The exact integer arithmetic of chapter 1 (R2 to R4) and the saturating counts. -/

namespace Sys2Proof.Machine

open Sys2Proof

/-- The value in 0–16,777,215 congruent to `x` (R2). -/
def mod24 (x : Int) : Int := x % 16777216

/-- Signed wrap difference d(a, b) (R3). -/
def wrapDiff (a b : Int) : Int :=
  let m := mod24 (a - b)
  if 8388608 ≤ m then m - 16777216 else m

/-- round(x/d) for a divisor above 0, halves toward plus infinity (R4). -/
def roundDiv (x d : Int) : Int := (2 * x + d) / (2 * d)

/-- The sector of a value, taken mod 2^24 (R2, R15). -/
def sectorOf (x : Int) : Nat := (mod24 x / 524288).toNat

/-- `x` clamped into `lo`–`hi`. -/
def clampTo (lo hi x : Int) : Int := if x < lo then lo else if hi < x then hi else x

/-- A capture time as a site time, mod 2^48 (R128, R132). -/
def siteMod (x : Int) : Nat := (x % 281474976710656).toNat

/-- A count that goes up by one and stays at `top` once it is there. -/
def satSucc (top n : Nat) : Nat := min (n + 1) top

/-- The magnitude test |x| ≤ limit that the windows and tolerances use. -/
def withinTol (limit x : Int) : Bool := decide (-limit ≤ x ∧ x ≤ limit)

end Sys2Proof.Machine
end

