-- ==== Sys2Proof/Machine/Wire.lean ====
section
/-! DEFINITION. Frames as bytes: the envelope and its CRC (R172), the field encoding (R183), and the payloads of
the frames the part sends (section 11.6). -/

namespace Sys2Proof.Machine

open Sys2Proof

/-! ### Numbers in bytes, most significant byte first (R183) -/

/-- The `n` bytes of `x` mod 256^n. -/
def natBytes : Nat → Nat → List Byte
  | 0, _ => []
  | n + 1, x => natBytes n (x / 256) ++ [BitVec.ofNat 8 x]

/-- An unsigned field of `n` bytes; a value that does not fit gives a free number (log entry 14). -/
def putNat (n x : Nat) : List Byte :=
  if x < 256 ^ n then natBytes n x else natBytes n (Config.misfit n x)

/-- A signed field of `n` bytes in two's complement. -/
def putInt (n : Nat) (x : Int) : List Byte :=
  if -(256 ^ n : Int) ≤ 2 * x ∧ 2 * x < (256 ^ n : Int) then natBytes n (x % (256 ^ n : Int)).toNat
  else natBytes n (Config.misfit n x)

/-- An angle field: 3 bytes, an unsigned value. -/
def putAngle (x : Int) : List Byte :=
  if 0 ≤ x then putNat 3 x.toNat else natBytes 3 (Config.misfit 3 x)

/-- An unsigned field whose value is held as an integer. -/
def putUInt (n : Nat) (x : Int) : List Byte :=
  if 0 ≤ x then putNat n x.toNat else natBytes n (Config.misfit n x)

/-- An on/off or yes/no field. -/
def putBool (b : Bool) : List Byte := [if b then 1 else 0]

/-- An optional field: a presence byte, and the field when it is present. -/
def putOption {α : Type} (f : α → List Byte) : Option α → List Byte
  | none => [0]
  | some x => 1 :: f x

/-- The unsigned number that bytes spell. -/
def getNat (bs : List Byte) : Nat := bs.foldl (fun acc b => acc * 256 + b.toNat) 0

/-- The two's complement number that bytes spell. -/
def getInt (bs : List Byte) : Int :=
  if 2 * getNat bs < 256 ^ bs.length then (getNat bs : Int) else (getNat bs : Int) - (256 ^ bs.length : Nat)

/-- The `len` bytes from position `at_` of a payload. -/
def field (bs : List Byte) (at_ len : Nat) : List Byte := (bs.drop at_).take len

/-! ### The envelope (R172) -/

/-- One bit of the CRC x^16 + x^12 + x^5 + 1. -/
def crcBit (crc : BitVec 16) : BitVec 16 :=
  if crc.msb then (crc <<< 1) ^^^ 0x1021#16 else crc <<< 1

/-- One byte of the CRC, most significant bit first. -/
def crcByte (crc : BitVec 16) (b : Byte) : BitVec 16 :=
  (List.range 8).foldl (fun c _ => crcBit c) (crc ^^^ ((b.setWidth 16) <<< 8))

/-- The CRC of kind, tag, length and payload, from 0xFFFF, with no final inversion. -/
def crc16 (bs : List Byte) : BitVec 16 := bs.foldl crcByte 0xFFFF#16

/-- A frame without its envelope. -/
structure Frame where
  kind : Byte
  tag : Byte
  payload : List Byte
  deriving DecidableEq, Repr

/-- A frame as it stands on the link. -/
def Frame.wire (f : Frame) : List Byte :=
  let inner := f.kind :: f.tag :: BitVec.ofNat 8 f.payload.length :: f.payload
  0xA5 :: inner ++ natBytes 2 (crc16 inner).toNat

/-- What a port receiver makes of its bytes. -/
inductive RxEvent where
  /-- a frame discarded for a bad CRC or an impossible length -/
  | discarded
  /-- a frame whose CRC is correct -/
  | good (f : Frame)
  deriving DecidableEq, Repr

/-- A receiver at work on the bytes it holds (R172): it passes over bytes other than the sync in HUNT, discards an
impossible length at that byte and a bad CRC at the last CRC byte, and returns to HUNT at the byte after the discarded
frame's sync. It answers its events and the bytes it still holds. Each turn takes a byte, so as many turns as bytes
are enough. -/
def rxScan : Nat → List Byte → List RxEvent × List Byte
  | 0, bs => ([], bs)
  | _ + 1, [] => ([], [])
  | n + 1, b :: rest =>
    if b ≠ 0xA5 then rxScan n rest
    else
      match rest with
      | kind :: tag :: len :: body =>
        if 240 < len.toNat then
          let r := rxScan n rest
          (.discarded :: r.1, r.2)
        else if body.length < len.toNat + 2 then ([], b :: rest)
        else
          let payload := body.take len.toNat
          if natBytes 2 (crc16 (kind :: tag :: len :: payload)).toNat = (body.drop len.toNat).take 2 then
            let r := rxScan n (body.drop (len.toNat + 2))
            (.good { kind := kind, tag := tag, payload := payload } :: r.1, r.2)
          else
            let r := rxScan n rest
            (.discarded :: r.1, r.2)
      | _ => ([], b :: rest)

/-! ### Codes (chapter 11, code values; R183) -/

/-- Position of an axis. -/
def axisCode : Axis → Byte
  | .h => 0
  | .v => 1

/-- The axis an axis byte names. -/
def axisOfCode : Nat → Option Axis
  | 0 => some .h
  | 1 => some .v
  | _ => none

/-- The target kind a kind byte names. -/
def kindOfCode : Nat → Option TargetKind
  | 0 => some .monitor
  | 1 => some .control
  | 2 => some .track
  | 3 => some .noKind
  | _ => none

/-- Position of a target kind. -/
def kindCode : TargetKind → Byte
  | .monitor => 0
  | .control => 1
  | .track => 2
  | .noKind => 3

/-- An on/off byte. -/
def boolOfCode : Nat → Option Bool
  | 0 => some false
  | 1 => some true
  | _ => none

/-- The derate source a source byte names. -/
def sourceOfCode : Nat → Option DerateSource
  | 0 => some .instrTemp
  | 1 => some .driveHTemp
  | 2 => some .driveVTemp
  | 3 => some .tiltJitter
  | _ => none

/-- The fraction mode a mode byte names. -/
def modeOfCode : Nat → Option FractionMode
  | 0 => some .f8
  | 1 => some .fn
  | _ => none

/-- Position of a result code. -/
def ResultCode.code : ResultCode → Byte
  | .done => 0
  | .state => 1
  | .range => 2
  | .busy => 3
  | .fixed => 4
  | .burning => 5
  | .lockout => 6
  | .unknown => 7

/-- Position of an operating mode. -/
def OperatingMode.code : OperatingMode → Byte
  | .stopped => 0
  | .running => 1

/-- Position of a diversion state. -/
def DvcState.code : DvcState → Byte
  | .run => 0
  | .stopping => 1
  | .held => 2
  | .critical => 3
  | .halted => 4
  | .lockout => 5

/-- Position of a phase in the list that begins with IDLE. -/
def Phase.code : Phase → Byte
  | .slew => 1
  | .settle => 2
  | .acquire => 3
  | .searchMove => 4
  | .look => 5
  | .locking => 6
  | .centre => 7
  | .measure => 8
  | .follow => 9

/-- Position of an entry state. -/
def EntryState.code : EntryState → Byte
  | .empty => 0
  | .disabled => 1
  | .armed => 2
  | .due => 3
  | .active => 4
  | .backoff => 5
  | .spent => 6
  | .suspended => 7

/-- Position of an outcome. -/
def Verdict.code : Verdict → Byte
  | .done => 0
  | .partialDone => 1
  | .obscured => 2
  | .crowded => 3
  | .mismatch => 4
  | .unsettled => 5
  | .nosensor => 6
  | .norange => 7
  | .abandoned => 8

/-- Position of a pointing kind. -/
def PointingKind.code : PointingKind → Byte
  | .scheduled => 0
  | .oneOff => 1

/-- Position of a drive fault cause, after none. -/
def faultCode : DriveFault → Byte
  | .stall => 1
  | .overcurrent => 2
  | .overtemp => 3
  | .encoder => 4

/-- The three bytes of a cause: kind, axis, DRIVE cause. -/
def Cause.bytes : Cause → List Byte
  | .none => [0, 0, 0]
  | .pause => [1, 0, 0]
  | .level => [2, 0, 0]
  | .restart => [3, 0, 0]
  | .halt => [4, 0, 0]
  | .drive a f => [5, axisCode a, faultCode f]
  | .silence a => [6, axisCode a, 0]

/-- The two bytes of a drive report. -/
def DriveReport.bytes : DriveReport → List Byte
  | .none => [0, 0]
  | .ready => [1, 0]
  | .fault c => [2, faultCode c]

/-- Position of a resume mode. -/
def ResumeMode.code : ResumeMode → Byte
  | .command => 0
  | .auto => 1

/-- Position of a level state. -/
def LevelState.code : LevelState → Byte
  | .level => 0
  | .lost => 1

/-- The slot state byte and the fixed value of a slot. -/
def Slot.bytes : Slot → List Byte
  | .blank => 0 :: putInt 2 0
  | .fixed x => 1 :: putInt 2 x
  | .spoiled => 2 :: putInt 2 0

/-- Position of a DRIVE mode. -/
def DriveMode.code : DriveMode → Byte
  | .hold => 0
  | .position => 1

/-! ### Payloads sent -/

/-- The 38 definition bytes of LOAD TARGET. -/
def definitionBytes (d : Definition) : List Byte :=
  kindCode d.kind :: putBool d.enable ++ putNat 1 d.priority ++ putBool d.periodic ++ putNat 4 d.period
    ++ putNat 4 d.offset ++ putAngle d.hz ++ putAngle d.v ++ putUInt 4 d.d0 ++ putUInt 4 d.dtol ++ putInt 2 d.prism
    ++ putUInt 2 d.w ++ putNat 2 d.ilo ++ putNat 2 d.ihi ++ putNat 4 d.dwell

/-- The OBS flags byte, SUSPECT in its most significant bit (section 11.6). -/
def RecordFlags.byte (f : RecordFlags) : Byte :=
  BitVec.ofNat 8
    ((if f.suspect then 128 else 0) + (if f.limited then 64 else 0) + (if f.tiltStale then 32 else 0)
      + (if f.retried then 16 else 0) + (if f.oneOff then 8 else 0) + (if f.follow then 4 else 0)
      + (if f.control then 2 else 0))

/-- The payload of an OBS frame. -/
def ObsRecord.payload (r : ObsRecord) : List Byte :=
  putNat 2 r.sequence ++ putNat 1 r.target ++ putNat 6 r.siteTime ++ putAngle r.hz ++ putAngle r.v
    ++ putUInt 4 r.distance ++ putNat 1 r.strength ++ putNat 1 r.attempts ++ [r.flags.byte]
    ++ (match r.deviations with
        | none => []
        | some d => putInt 3 d.dHz ++ putInt 3 d.dV ++ putOption (putInt 4) d.dD)
    ++ (match r.followIndex with
        | none => []
        | some i => putNat 2 i)

/-- The two pending-flag bytes of an ALERT, the first kind in the most significant bit. -/
def pendingBytes (flags : List Bool) : List Byte :=
  natBytes 2 (flags.foldl (fun acc b => 2 * acc + (if b then 1 else 0)) 0)

/-- The frame a controller-port transmission sends. -/
def Sending.frame : Sending → Frame
  | .reply r => { kind := 0x20, tag := r.tag, payload := r.code.code :: r.body }
  | .obs r => { kind := 0x21, tag := 0, payload := r.payload }
  | .alert flags => { kind := 0x22, tag := 0, payload := pendingBytes flags }
  | .direction d => { kind := 0x23, tag := 0, payload := putNat 6 d.siteTime ++ putAngle d.hz ++ putAngle d.v }

/-- The frame of a DRIVE command. -/
def DriveFrame.frame (f : DriveFrame) : Frame :=
  { kind := 0x38, tag := 0, payload := axisCode f.axis :: f.mode.code :: putAngle f.position ++ putInt 2 f.speed }

/-- The frame of a SHOT. -/
def shotFrame (id : Nat) : Frame := { kind := 0x48, tag := 0, payload := putNat 1 id }

end Sys2Proof.Machine
end

