-- ==== Sys2Proof/Machine/Operands.lean ====
section
/-! DEFINITION. The operands of requests and frames: their range checks (R6, R7, R21, R146) and the layouts in which
frames carry them (R172, R176, R183, section 11.6). -/

namespace Sys2Proof.Machine

open Sys2Proof

/-! ### Range checks -/

/-- `lo ≤ x ≤ hi` for counts. -/
def natIn (lo hi x : Nat) : Bool := decide (lo ≤ x ∧ x ≤ hi)

/-- `lo ≤ x ≤ hi` for integers. -/
def intIn (lo hi x : Int) : Bool := decide (lo ≤ x ∧ x ≤ hi)

/-- Every numeric station parameter in its range, and the two cross-conditions (R6, R7). -/
def stationInRange (n : StationNumbers) : Bool :=
  natIn 1 16383 n.vmaxH && natIn 1 16383 n.vmaxV && natIn 1 1023 n.accH && natIn 1 1023 n.accV
    && intIn 262144 8126464 n.vMin && intIn 262144 8126464 n.vMax && decide (n.vMin < n.vMax)
    && intIn 0 65535 n.settleWin && natIn 1 255 n.settleN && natIn 1 5000 n.settleTimeout
    && natIn 1 8 n.acqFrames && natIn 1 8 n.lockN && intIn 0 65535 n.lockTol && natIn 1 16 n.lossN
    && intIn 0 65535 n.aimTol && natIn 1 64 n.centreLimit && intIn 0 65535 n.ambig && natIn 1 32 n.ambigLimit
    && natIn 1 24 n.searchLegs && natIn 1 2000 n.spotSilence && natIn 1 5000 n.rangeTimeout && natIn 0 3 n.shotRetry
    && natIn 10 17 n.angleSilenceExp && intIn 0 8191 n.tiltLimit && natIn 20 1000 n.tiltStale && natIn 1 255 n.levelN
    && natIn 1 255 n.levelOkN && intIn (-32767) 32767 n.coll && intIn (-32767) 32767 n.trun
    && intIn (-65535) 65535 n.index && intIn 0 16777215 n.orient && natIn 1 15 n.missLimit
    && natIn 1 65535 n.backoffBase && natIn 1 3600000 n.backoffCap && decide (n.backoffBase ≤ n.backoffCap)
    && intIn 0 65535 n.controlTol && natIn 0 999 n.feedDiv && natIn 1 5000 n.trackInterval && natIn 1 2000 n.jogLease

/-- The station block a LOAD STATION carries, when it passes the range check. -/
def stationOfLoad (l : StationLoad) : Option Station :=
  match boolOfCode l.compEnable, boolOfCode l.criticalEnable with
  | some c, some k => if stationInRange l.n then some { n := l.n, compEnable := c, criticalEnable := k } else none
  | _, _ => none

/-- Every field of a MONITOR, CONTROL or TRACK definition in its range, with the cross-conditions (R21 step 4). -/
def definitionInRange (d : Definition) : Bool :=
  natIn 0 3 d.priority && natIn 100 86400000 d.period && natIn 0 d.period d.offset && intIn 0 16777215 d.hz
    && intIn 262144 8126464 d.v && intIn 0 30000000 d.d0 && intIn 1 100000 d.dtol && intIn (-1000) 1000 d.prism
    && intIn 256 65535 d.w && natIn 0 4095 d.ilo && natIn 0 4095 d.ihi && natIn 0 d.ihi d.ilo
    && (decide (d.kind ≠ .track) || natIn 1000 600000 d.dwell)

/-- The definition a LOAD TARGET carries, when it passes steps 3 and 4 of R21. -/
def definitionOfLoad (l : TargetLoad) : Option Definition :=
  match kindOfCode l.kind, boolOfCode l.enable, boolOfCode l.periodic with
  | some k, some e, some p =>
    let d : Definition :=
      { kind := k, enable := e, priority := l.priority, periodic := p, period := l.period, offset := l.offset,
        hz := l.hz, v := l.v, d0 := l.d0, dtol := l.dtol, prism := l.prism, w := l.w, ilo := l.ilo, ihi := l.ihi,
        dwell := l.dwell }
    if k = .noKind || definitionInRange d then some d else none
  | _, _, _ => none

/-- The definition a LOAD DERATE carries, when it passes the checks of R146. -/
def derateOfLoad (l : DerateLoad) : Option DerateDef :=
  match boolOfCode l.enable, sourceOfCode l.source, modeOfCode l.mode with
  | some e, some src, some m =>
    if l.n ≤ 7 ∧ l.low < l.high ∧ -32768 ≤ l.low ∧ l.high ≤ 32767 then
      some { enable := e, source := src, high := l.high, low := l.low, n := l.n, mode := m }
    else none
  | _, _, _ => none

/-- A correction value in −2,048–2,047 (R164, R166). -/
def correctionInRange (x : Int) : Bool := intIn (-2048) 2047 x

/-! ### Frames of the axis and sensor ports -/

/-- What the layout check makes of a frame whose CRC is correct (R172). -/
inductive Layout where
  /-- a kind the port does not receive: discarded and not counted -/
  | notReceived
  /-- an impossible length, or a byte outside the values its field allows: discarded and counted -/
  | impossible
  /-- the frame has arrived -/
  | arrived (i : Instr)
  deriving DecidableEq, Repr

/-- A layout check's finding from the frame's command, if it has one. -/
def layoutOf : Option Instr → Layout
  | none => .impossible
  | some i => .arrived i

/-- ANGLE: axis 1; raw angle 3; age 2. -/
def parseAngle (us : Nat) (bs : List Byte) : Option Instr :=
  if bs.length = 6 then
    (axisOfCode (getNat (field bs 0 1))).map fun a => .angleFrame us a (getNat (field bs 1 3)) (getNat (field bs 4 2))
  else none

/-- The drive status that the status byte and the cause byte spell together (R153). -/
def driveStatusOfCode : Nat → Nat → Option DriveStatus
  | 0, 0 => some .ready
  | 1, 1 => some (.fault .stall)
  | 1, 2 => some (.fault .overcurrent)
  | 1, 3 => some (.fault .overtemp)
  | 1, 4 => some (.fault .encoder)
  | _, _ => none

/-- DRIVE_STATUS: axis 1; status 1; fault cause 1; temperature signed 2. -/
def parseDriveStatus (us : Nat) (bs : List Byte) : Option Instr :=
  if bs.length = 5 then
    match axisOfCode (getNat (field bs 0 1)), driveStatusOfCode (getNat (field bs 1 1)) (getNat (field bs 2 1)) with
    | some a, some st => some (.driveStatusFrame us a st (getInt (field bs 3 2)))
    | _, _ => none
  else none

/-- The spots of a SPOT payload: dx signed 3, dy signed 3, intensity 2 each. -/
def parseSpots : Nat → List Byte → List Spot
  | 0, _ => []
  | n + 1, bs =>
    { dx := getInt (field bs 0 3), dy := getInt (field bs 3 3), intensity := getNat (field bs 6 2) }
      :: parseSpots n (bs.drop 8)

/-- SPOT: age 2; count 1; then the spots. -/
def parseSpot (us : Nat) (bs : List Byte) : Option Instr :=
  let count := getNat (field bs 2 1)
  if bs.length = 3 + 8 * count then some (.spotFrame us (getNat (field bs 0 2)) (parseSpots count (bs.drop 3))) else none

/-- The range status a status byte names. -/
def rangeStatusOfCode : Nat → Option RangeStatus
  | 0 => some .ok
  | 1 => some .weak
  | 2 => some .noisy
  | 3 => some .multi
  | 4 => some .noReturn
  | _ => none

/-- RANGE: shot id 1; age 2; distance 4; strength 1; status 1. -/
def parseRange (us : Nat) (bs : List Byte) : Option Instr :=
  if bs.length = 9 then
    (rangeStatusOfCode (getNat (field bs 8 1))).map fun st =>
      .rangeFrame us (getNat (field bs 0 1)) (getNat (field bs 1 2)) (getNat (field bs 3 4)) (getNat (field bs 7 1)) st
  else none

/-- TILT: tl signed 2; tc signed 2; overrange 1; instrument temperature signed 2. -/
def parseTilt (us : Nat) (bs : List Byte) : Option Instr :=
  if bs.length = 7 then
    (boolOfCode (getNat (field bs 4 1))).map fun o =>
      .tiltFrame us (getInt (field bs 0 2)) (getInt (field bs 2 2)) o (getInt (field bs 5 2))
  else none

/-- Layout check of a frame of the axis port. -/
def axisLayout (us : Nat) (f : Frame) : Layout :=
  if f.kind = 0x30 then layoutOf (parseAngle us f.payload)
  else if f.kind = 0x31 then layoutOf (parseDriveStatus us f.payload)
  else .notReceived

/-- Layout check of a frame of the sensor port. -/
def sensorLayout (us : Nat) (f : Frame) : Layout :=
  if f.kind = 0x40 then layoutOf (parseSpot us f.payload)
  else if f.kind = 0x41 then layoutOf (parseRange us f.payload)
  else if f.kind = 0x42 then layoutOf (parseTilt us f.payload)
  else .notReceived

/-! ### Requests of the controller port (R176) -/

/-- The station parameters in the order and sizes of LOAD STATION, selector first. -/
def parseStation (bs : List Byte) : StationLoad :=
  let u := fun at_ len => getNat (field bs at_ len)
  { n :=
      { vmaxH := u 1 2, vmaxV := u 3 2, accH := u 5 2, accV := u 7 2, vMin := u 9 3, vMax := u 12 3,
        settleWin := u 15 2, settleN := u 17 1, settleTimeout := u 18 2, acqFrames := u 20 1, lockN := u 21 1,
        lockTol := u 22 2, lossN := u 24 1, aimTol := u 25 2, centreLimit := u 27 1, ambig := u 28 2,
        ambigLimit := u 30 1, searchLegs := u 31 1, spotSilence := u 32 2, rangeTimeout := u 34 2, shotRetry := u 36 1,
        angleSilenceExp := u 37 1, tiltLimit := u 38 2, tiltStale := u 40 2, levelN := u 42 1, levelOkN := u 43 1,
        coll := getInt (field bs 45 2), trun := getInt (field bs 47 2), index := getInt (field bs 49 3),
        orient := u 52 3, missLimit := u 55 1, backoffBase := u 56 2, backoffCap := u 58 4, controlTol := u 62 2,
        feedDiv := u 65 2, trackInterval := u 67 2, jogLease := u 69 2 },
    compEnable := u 44 1, criticalEnable := u 64 1 }

/-- The definition in the order and sizes of LOAD TARGET, after the selector and the entry number. -/
def parseTarget (bs : List Byte) : TargetLoad :=
  let u := fun at_ len => getNat (field bs at_ len)
  { kind := u 2 1, enable := u 3 1, priority := u 4 1, periodic := u 5 1, period := u 6 4, offset := u 10 4,
    hz := u 14 3, v := u 17 3, d0 := u 20 4, dtol := u 24 4, prism := getInt (field bs 28 2), w := u 30 2,
    ilo := u 32 2, ihi := u 34 2, dwell := u 36 4 }

/-- The rows of LOAD ZENITH: S signed 2, K signed 2 each. -/
def parseRows : Nat → List Byte → List ZRow
  | 0, _ => []
  | n + 1, bs => { s := getInt (field bs 0 2), k := getInt (field bs 2 2) } :: parseRows n (bs.drop 4)

/-- A request whose payload must have `len` bytes. -/
def sized (h : Hdr) (bs : List Byte) (len : Nat) (i : Instr) : Buffered :=
  if bs.length = len then .request i else .wrongLength h

/-- A LOAD frame (kind 0x10) by its table selector. The length of LOAD ZENITH is judged by R9: bytes that do not make
whole rows give no rows, which R9 refuses as a wrong number of pairs. LOAD SECTOR carries its sector number after the
axis (R165), which makes six bytes (log entry 16). -/
def parseLoad (h : Hdr) (bs : List Byte) : Buffered :=
  let u := fun at_ len => getNat (field bs at_ len)
  match u 0 1 with
  | 1 => sized h bs 40 (.loadTarget h (u 1 1) (parseTarget bs))
  | 2 => sized h bs 71 (.loadStation h (parseStation bs))
  | 3 =>
    let rows := if 3 ≤ bs.length ∧ (bs.length - 3) % 4 = 0 then parseRows ((bs.length - 3) / 4) (bs.drop 3) else []
    .request (.loadZenith h (u 1 1) (u 2 1) rows)
  | 4 => sized h bs 6 (.loadSector h (u 1 1) (u 2 1) (u 3 1) (getInt (field bs 4 2)))
  | 5 =>
    sized h bs 10
      (.loadDerate h (u 1 1)
        { enable := u 2 1, source := u 3 1, high := getInt (field bs 4 2), low := getInt (field bs 6 2), n := u 8 1,
          mode := u 9 1 })
  | _ => .request (.unknownRequest h)

/-- A COMMAND frame (kind 0x11) by its command code. -/
def parseCommand (h : Hdr) (bs : List Byte) : Buffered :=
  let u := fun at_ len => getNat (field bs at_ len)
  match u 0 1 with
  | 1 => sized h bs 1 (.start h)
  | 2 => sized h bs 1 (.stop h)
  | 3 => sized h bs 2 (.aim h (u 1 1))
  | 4 => sized h bs 1 (.pause h)
  | 5 => sized h bs 1 (.halt h)
  | 6 => sized h bs 1 (.resume h)
  | 7 => sized h bs 1 (.clear h)
  | 8 => sized h bs 1 (.abandon h)
  | 9 => sized h bs 5 (.jog h (getInt (field bs 1 2)) (getInt (field bs 3 2)))
  | 10 => sized h bs 1 (.park h)
  | 11 => sized h bs 7 (.settime h (u 1 6))
  | 12 => sized h bs 2 (.suspend h (u 1 1))
  | 13 => sized h bs 2 (.restore h (u 1 1))
  | 14 => sized h bs 2 (.key h (u 1 1))
  | 15 => sized h bs 5 (.burn h (u 1 1) (u 2 1) (getInt (field bs 3 2)))
  | 16 => sized h bs 1 (.restart h)
  | _ => .request (.unknownRequest h)

/-- A QUERY frame (kind 0x12) by its query selector. -/
def parseQuery (h : Hdr) (bs : List Byte) : Buffered :=
  let u := fun at_ len => getNat (field bs at_ len)
  match u 0 1 with
  | 1 => .request (.queryStatus h)
  | 2 => sized h bs 2 (.queryTarget h (u 1 1))
  | 3 => .request (.queryContext h)
  | 4 => .request (.queryNotices h)
  | 5 => sized h bs 2 (.querySector h (u 1 1))
  | 6 => .request (.queryQueue h)
  | _ => .request (.unknownRequest h)

/-- Steps 1 to 3 of R176: the request a controller-port frame makes. -/
def parseRequest (h : Hdr) (kind : Byte) (payload : List Byte) : Buffered :=
  if payload = [] then .request (.unknownRequest h)
  else if kind = 0x10 then parseLoad h payload
  else if kind = 0x11 then parseCommand h payload
  else if kind = 0x12 then parseQuery h payload
  else .request (.unknownRequest h)

end Sys2Proof.Machine
end

