-- ==== Sys2Proof/Machine/Axis.lean ====
section
/-! DEFINITION. The arithmetic of one axis of the profile generator: stopping distance, path choice, speed rule,
retarget, brake, controlled stop and HOLD (R84 to R93). -/

namespace Sys2Proof.Machine

open Sys2Proof

/-- +1 or −1. -/
def Dir.sign : Dir → Int
  | .plus => 1
  | .minus => -1

/-- The sign of a remaining distance that is not 0. -/
def dirOf (r : Int) : Dir := if r < 0 then .minus else .plus

/-- Stopping distance D(s) with acceleration `a` (R84). -/
def stopDistance (a s : Nat) : Nat :=
  let q := s / a
  q * s - a * (q * (q + 1) / 2)

/-- Remaining distance from `p` to a setpoint, with the path choice of the H axis (R85). -/
def remaining (ax : Axis) (p sp : Int) : Int :=
  match ax with
  | .v => sp - p
  | .h =>
    let d := wrapDiff sp p
    if d = -8388608 then 8388608 else d

/-- Position after a move by `d` (R86). -/
def moved (ax : Axis) (p d : Int) : Int :=
  match ax with
  | .v => p + d
  | .h => mod24 (p + d)

/-- The commanded position, 0 while it is absent. -/
def AxisRec.pos (r : AxisRec) : Int := r.p.getD 0

/-- The setpoint in force, the position while it is absent. -/
def AxisRec.target (r : AxisRec) : Int := r.setpoint.getD r.pos

/-- The axis is MOVING or BRAKING. -/
def AxisRec.inMotion (r : AxisRec) : Bool := r.motion = .moving || r.motion = .braking

/-- The test of R88: the new setpoint lies ahead, no nearer than the stopping distance. -/
def AxisRec.canReach (ax : Axis) (r : AxisRec) (sp : Int) : Bool :=
  let d := remaining ax r.pos sp
  decide (d ≠ 0 ∧ dirOf d = r.dir ∧ stopDistance r.acc r.s ≤ d.natAbs)

/-- An axis record after an action of APG, and whether it reports an arrival at once. -/
structure AxisAct where
  axis : AxisRec
  arrives : Bool
  deriving DecidableEq, Repr

/-- A new setpoint for an axis at rest in command (R88, first row). -/
def AxisRec.startToward (ax : Axis) (r : AxisRec) (sp : Int) (req : Requester) : AxisAct :=
  let r := { r with setpoint := some sp, requester := req, s := 0 }
  let d := remaining ax r.pos sp
  if d = 0 then { axis := { r with motion := .still }, arrives := true }
  else { axis := { r with motion := .moving, dir := dirOf d }, arrives := false }

/-- A new setpoint for an axis in motion (R88, second and third rows). -/
def AxisRec.turnToward (ax : Axis) (r : AxisRec) (sp : Int) (req : Requester) : AxisRec :=
  { r with setpoint := some sp, requester := req, motion := if r.canReach ax sp then .moving else .braking }

/-- Taking a retarget (R88). -/
def AxisRec.retarget (ax : Axis) (r : AxisRec) (sp : Int) (req : Requester) : AxisAct :=
  match r.motion with
  | .held => { axis := { r with waiting := some { setpoint := sp, requester := req } }, arrives := false }
  | .still => r.startToward ax sp req
  | .moving =>
    if r.s = 0 then r.startToward ax sp req else { axis := r.turnToward ax sp req, arrives := false }
  | .braking => { axis := r.turnToward ax sp req, arrives := false }

/-- The stop point p + dir × D(s) (R90). -/
def AxisRec.stopPoint (ax : Axis) (r : AxisRec) : Int :=
  moved ax r.pos (r.dir.sign * (stopDistance r.acc r.s : Int))

/-- A controlled stop (R90); `arrives` says that the completion is reported at once. -/
def AxisRec.controlledStop (ax : Axis) (r : AxisRec) (req : Requester) : AxisAct :=
  match r.motion with
  | .held => { axis := { r with waiting := none }, arrives := true }
  | .still => { axis := { r with setpoint := r.p, requester := req }, arrives := true }
  | .moving =>
    if r.s = 0 then { axis := { r with motion := .still, setpoint := r.p, requester := req }, arrives := true }
    else { axis := r.turnToward ax (r.stopPoint ax) req, arrives := false }
  | .braking => { axis := r.turnToward ax (r.stopPoint ax) req, arrives := false }

/-- Entering HOLD (R92). -/
def AxisRec.enterHold (r : AxisRec) : AxisRec :=
  { r with motion := .held, s := 0, setpoint := none, requester := .nobody, stepSpeed := 0 }

/-- Release of HOLD at a raw sample, before any waiting setpoint is taken (R93). -/
def AxisRec.release (ax : Axis) (r : AxisRec) (raw : Int) : AxisRec :=
  let p := moved ax raw 0
  { r with motion := .still, s := 0, p := some p, setpoint := some p, waiting := none, stepSpeed := 0 }

/-- Speed and acceleration taken at rest (R87). -/
def AxisRec.takeParams (r : AxisRec) (vmax acc : Nat) : AxisRec :=
  if r.s = 0 then { r with vmax := vmax, acc := acc } else r

/-- The speed of the next step of a MOVING axis under the cap `k` (R86, steps 1 to 4). -/
def AxisRec.nextSpeed (r : AxisRec) (k : Nat) (dist : Nat) : Nat :=
  let up := min (r.s + r.acc) (max k (r.s - r.acc))
  let dn := r.s - r.acc
  let chosen := if up + stopDistance r.acc up ≤ dist then up else dn
  let creep := if chosen = 0 then min r.acc k else chosen
  min creep dist

/-- One step of a MOVING axis (R86). -/
def AxisRec.stepMoving (ax : Axis) (r : AxisRec) (k : Nat) : AxisAct :=
  let d := remaining ax r.pos r.target
  let s := r.nextSpeed k d.natAbs
  let dir := if d = 0 then r.dir else dirOf d
  let step := dir.sign * (s : Int)
  let p := moved ax r.pos step
  let r := { r with p := some p, dir := dir, s := s, stepSpeed := step }
  if p = r.target then { axis := { r with motion := .still, s := 0 }, arrives := true }
  else { axis := r, arrives := false }

/-- One period of a BRAKING axis (R89). -/
def AxisRec.stepBraking (ax : Axis) (r : AxisRec) : AxisAct :=
  let s := r.s - r.acc
  let step := r.dir.sign * (s : Int)
  let p := moved ax r.pos step
  let r := { r with p := some p, s := s, stepSpeed := step }
  if s = 0 then
    if p = r.target then { axis := { r with motion := .still }, arrives := true }
    else { axis := { r with motion := .moving, dir := dirOf (remaining ax p r.target) }, arrives := false }
  else { axis := r, arrives := false }

/-- What APG does to one axis at a period expiry, before its DRIVE frame is formed (R86, R87, R89). -/
def AxisRec.period (ax : Axis) (r : AxisRec) (vmax acc sourceCap : Nat) : AxisAct :=
  let r := r.takeParams vmax acc
  match r.motion with
  | .moving => r.stepMoving ax (min sourceCap r.vmax)
  | .braking => r.stepBraking ax
  | _ => { axis := { r with stepSpeed := 0 }, arrives := false }

/-- The DRIVE frame of an axis (R96). DESIGN CHOICE (log entry 40): an axis that arrived at this expiry and was given a new
setpoint at the same expiry, before the frames are formed, meets two rows of R96's table, "arrived at this expiry" and "MOVING
with s = 0"; its frame carries the final step of the first, not the 0 of the second. -/
def AxisRec.driveFrame (ax : Axis) (r : AxisRec) : DriveFrame :=
  if r.motion = .held then { axis := ax, mode := .hold, position := r.pos, speed := 0 }
  else { axis := ax, mode := .position, position := r.pos, speed := r.stepSpeed }

end Sys2Proof.Machine
end

