-- ==== Sys2Proof/Machine/Flags.lean ====
section
/-! DEFINITION. The conditions and flags that blocks read from one another's state: engagement (R25), report occupancy
(R130), source conditions (R133), dispatch conditions (R49), effective speeds (R145), and the tests of R61 and R104. -/

namespace Sys2Proof.Machine

open Sys2Proof

/-! ### Target table -/

/-- Entry `n` (an EMPTY one beyond the table). -/
def State.entry (s : State) (n : Nat) : Entry := s.entries.getD n emptyEntry

/-- Entry `n` is the target of a context made from a one-off pointing. -/
def Context.holdsOneOff (c : Context) (n : Nat) : Bool :=
  decide (c.target = some n) && (c.part.map fun p => decide (p.kind = .oneOff)).getD false

/-- Entry `n` is engaged: the target of the one-off pointing in flight, or of a saved context made from one (R25). -/
def State.engaged (s : State) (n : Nat) : Bool :=
  (s.pen.pointing.map fun p => decide (p.target = n ∧ p.kind = .oneOff)).getD false
    || (s.dvc.ordinary.map fun c => c.holdsOneOff n).getD false
    || (s.dvc.critical.map fun c => c.context.holdsOneOff n).getD false

/-- The states in which an entry is counted down (R26). -/
def EntryState.counted : EntryState → Bool
  | .armed | .due | .active | .backoff => true
  | _ => false

/-! ### Pointing engine and report queue -/

/-- PEN is busy: a pointing is in flight (R59). -/
def State.busy (s : State) : Bool := s.pen.pointing.isSome

/-- Report slots reserved, 0 or 1 (R130). -/
def State.reserved (s : State) : Nat := if (s.pen.pointing.map (·.reservation)).getD false then 1 else 0

/-- Report records held plus slots reserved (R130). -/
def State.occupancy (s : State) : Nat := s.reports.queue.length + s.reserved

/-- A report slot can be reserved, or is held already by the pointing (R72). -/
def State.canReserve (s : State) (p : Pointing) : Bool :=
  p.reservation || decide (s.occupancy < Config.reportSlots)

/-- A shot is in hand. -/
def State.shotInHand (s : State) : Bool := s.pen.shot.isSome

/-- The phases in which detector silence is tested (R78). -/
def Phase.watched : Phase → Bool
  | .acquire | .look | .locking | .centre | .measure | .follow => true
  | _ => false

/-- A TRACK pointing that has made a record ends PARTIAL in place of these outcomes (R77). -/
def softened (p : Pointing) (o : Verdict) : Verdict :=
  if p.frozenCopy.kind = .track ∧ 1 ≤ p.followCount then
    match o with
    | .obscured | .crowded | .unsettled | .nosensor | .norange => .partialDone
    | _ => o
  else o

/-! ### Transmit order (R181) -/

/-- Which source the controller-port transmitter takes when it is free (R181). -/
inductive SendSource where
  | reply | alert | obs | direction
  deriving DecidableEq, Repr

/-- The first source that holds a frame (R181). -/
def State.firstSource (s : State) : Option SendSource :=
  if s.requests.replies ≠ [] then some .reply
  else if s.notices.alertWaits then some .alert
  else if s.reports.queue ≠ [] then some .obs
  else if s.reports.direction.isSome then some .direction
  else none

/-- The transmitter is free and this source is the one it takes. -/
def State.mayBegin (s : State) (x : SendSource) : Bool :=
  s.transmit.controller.isNone && decide (s.firstSource = some x)

/-! ### Axes -/

/-- The record of an axis. -/
def State.axis (s : State) (a : Axis) : AxisRec := s.apg.axes.get a

/-- Neither axis is MOVING or BRAKING. -/
def State.axesStill (s : State) : Bool := !(s.axis .h).inMotion && !(s.axis .v).inMotion

/-- The latest raw sample of an axis: the newest of its history (R98). -/
def State.latestRaw (s : State) (a : Axis) : Option Int := (s.scu.history.get a).getLast?.map (·.raw)

/-! ### Diversion controller -/

/-- The states that select HOLD (R133). -/
def DvcState.holds : DvcState → Bool
  | .critical | .halted | .lockout => true
  | _ => false

/-- A controlled stop of the warm restart is in progress (R161). -/
def State.restarting (s : State) : Bool := decide (s.dvc.state = .stopping ∧ s.dvc.cause = .restart)

/-- The stop of R150 is complete: neither axis is in motion and no shot is in hand. -/
def State.stopComplete (s : State) : Bool := decide (s.dvc.state = .stopping) && s.axesStill && !s.shotInHand

/-! ### Drive selector -/

/-- The axis is in motion for this requester. -/
def AxisRec.movingFor (r : AxisRec) (q : Requester) : Bool := r.inMotion && decide (r.requester = q)

/-- A jog lease is running. -/
def Jog.running : Jog → Bool
  | .leased _ _ => true
  | _ => false

/-- The source that DSL's choice gives for an axis (R133). -/
def State.wantedSource (s : State) (a : Axis) : Source :=
  let r := s.axis a
  if s.dvc.state.holds || (s.latestRaw a).isNone || s.dsl.restartHold.get a then .hold
  else if s.busy || r.movingFor .pointing || r.movingFor .diversion || r.movingFor .nobody then .aim
  else if s.dsl.jog.running || r.movingFor .jog then .jog
  else .park

/-- DSL has PARK selected on both axes. -/
def State.bothParked (s : State) : Bool := decide (s.dsl.selected.h = .park ∧ s.dsl.selected.v = .park)

/-! ### Scheduler -/

/-- Every dispatch condition of R49. -/
def State.dispatchReady (s : State) : Bool :=
  decide (s.osc.mode = .running) && decide (s.dvc.state = .run) && !s.busy && s.scs.burn.isNone
    && decide (s.dsl.jog = .none) && s.bothParked && s.osc.detectorReady
    && decide (s.occupancy < Config.reportSlots) && !s.osc.queue.isEmpty

/-! ### Speed derating -/

/-- The fraction of a group, numerator and denominator (R144). -/
def derateFraction (d : DerateDef) : Nat × Nat :=
  match d.mode with
  | .f8 => (d.n + 1, 8)
  | .fn => (1, d.n + 1)

/-- The selected fraction: that of the lowest-numbered active group, or 1 (R145). -/
def selectedFraction (groups : List DerateGroup) : Nat × Nat :=
  match groups.find? (·.active) with
  | some g => derateFraction g.definition
  | none => (1, 1)

/-- Two fractions are the same rational number (R145). -/
def sameFraction (a b : Nat × Nat) : Bool := decide (a.1 * b.2 = b.1 * a.2)

/-- Nominal maximum speed of an axis. -/
def stationVmax (st : Station) : Axis → Nat
  | .h => st.n.vmaxH
  | .v => st.n.vmaxV

/-- Acceleration of an axis. -/
def stationAcc (st : Station) : Axis → Nat
  | .h => st.n.accH
  | .v => st.n.accV

/-- Effective maximum speed of an axis (R145). -/
def State.effectiveSpeed (s : State) (a : Axis) : Nat :=
  let f := selectedFraction s.sdu.groups
  max 1 (stationVmax s.station a * f.1 / f.2)

/-- The jog speed of an axis while the jog has one. -/
def Jog.speed : Jog → Axis → Option Int
  | .none, _ => Option.none
  | .leased _ x, a => some (x.get a)
  | .stopping x, a => some (x.get a)

/-- The source cap of an axis: its jog cap while JOG is selected, otherwise its effective speed (R87, R139). -/
def State.sourceCap (s : State) (a : Axis) : Nat :=
  if s.dsl.selected.get a = .jog then
    match s.dsl.jog.speed a with
    | some j => max 1 (min j.natAbs (s.effectiveSpeed a))
    | none => s.effectiveSpeed a
  else s.effectiveSpeed a

/-! ### Notices -/

/-- Place of a notice kind in the summary (R177). -/
def NoticeKind.place : NoticeKind → Nat
  | .suspended => 0
  | .stationDrift => 1
  | .crowded => 2
  | .mismatch => 3
  | .unsettled => 4
  | .detectorSilent => 5
  | .rangerSilent => 6
  | .levelLoss => 7
  | .levelRegained => 8
  | .driveFault => 9
  | .lockout => 10
  | .burnDone => 11
  | .burnFailed => 12
  | .overrun => 13
  | .derate => 14
  | .linkError => 15

/-- The record of a notice kind. -/
def Notices.record (n : Notices) (k : NoticeKind) : NoticeRecord := n.records.getD k.place clearRecord

/-- The pending set, one flag for each kind (R177). -/
def Notices.pendingSet (n : Notices) : List Bool := n.records.map (·.pending)

/-! ### Spot frames -/

/-- The pointing takes a SPOT frame with this capture time (R61). -/
def Pointing.takes (p : Pointing) (time : Int) : Bool :=
  !p.frozen &&
    match p.phase with
    | .acquire | .look => (p.settleTime.map fun t => decide (t < time)).getD false
    | .locking | .centre | .measure | .follow => true
    | _ => false

/-- A spot qualifies (R102). -/
def spotQualifies (d : Definition) (x : Spot) : Bool :=
  withinTol d.w x.dx && withinTol d.w x.dy && decide (d.ilo ≤ x.intensity ∧ x.intensity ≤ d.ihi)

/-- Score of a spot (R103). -/
def spotScore (x : Spot) : Int := (x.dx.natAbs : Int) + (x.dy.natAbs : Int)

/-- What SQU makes of a frame (R101). -/
inductive SpotResult where
  | chosen (at_ : Offset)
  | noCandidate
  | ambiguous
  deriving DecidableEq, Repr

/-- The best of a list that begins with `b`, and the score of the runner-up so far: a later spot ranks above an
earlier one only with a lower score (R103). -/
def rankSpots : Spot → Option Int → List Spot → Spot × Option Int
  | b, r, [] => (b, r)
  | b, r, x :: xs =>
    if spotScore x < spotScore b then rankSpots x (some (spotScore b)) xs
    else rankSpots b (some ((r.map fun y => min y (spotScore x)).getD (spotScore x))) xs

/-- The frame's result from its spot list (R101 to R104). -/
def spotResult (d : Definition) (ambig : Int) (spots : List Spot) : SpotResult :=
  match (spots.take 8).filter (spotQualifies d) with
  | [] => .noCandidate
  | x :: xs =>
    match rankSpots x none xs with
    | (b, none) => .chosen { dx := b.dx, dy := b.dy }
    | (b, some r) => if r - spotScore b < ambig then .ambiguous else .chosen { dx := b.dx, dy := b.dy }

/-- A candidate is within a tolerance of the crosshair on both axes. -/
def Offset.within (tol : Int) (o : Offset) : Bool := withinTol tol o.dx && withinTol tol o.dy

/-- The lock test (R107). -/
def Offset.consistent (tol : Int) (o prev : Offset) : Bool :=
  withinTol tol (o.dx - prev.dx) && withinTol tol (o.dy - prev.dy)

/-- Offset of search leg `n` with window `w` (R113): the sum of the first `n` legs. -/
def searchOffset (w : Int) : Nat → Offset
  | 0 => { dx := 0, dy := 0 }
  | n + 1 =>
    let o := searchOffset w n
    let len := (((n + 2) / 2 : Nat) : Int) * w
    match (n + 1) % 4 with
    | 1 => { o with dx := o.dx + len }
    | 2 => { o with dy := o.dy + len }
    | 3 => { o with dx := o.dx - len }
    | _ => { o with dy := o.dy - len }

end Sys2Proof.Machine
end

