-- ==== Sys2Proof/Machine/Reduce.lean ====
section
/-! DEFINITION. The angle reduction unit: factor lookup, sector corrections, forward and inverse reduction (R10, R14 to
R17), and the image offset conversion (R112). -/

namespace Sys2Proof.Machine

open Sys2Proof

/-- Row `k` of the zenith factor table. -/
def zenithRow (rows : List ZRow) (k : Nat) : ZRow := rows.getD k { s := 4096, k := 0 }

/-- Interpolation between two factors at `r` of 262,144 (R10). -/
def factorBetween (f g r : Int) : Int := f + roundDiv ((g - f) * r) 262144

/-- Factor lookup at a zenith (R10). -/
def factorAt (rows : List ZRow) (z : Int) : ZRow :=
  let c := clampTo 0 8388607 z
  let k := (c / 262144).toNat
  let r := c % 262144
  let lo := zenithRow rows k
  let hi := zenithRow rows (k + 1)
  { s := factorBetween lo.s hi.s r, k := factorBetween lo.k hi.k r }

/-- The tilt pair (tl, tc) of a reduction (R14). -/
def tiltPair (s : State) : Int × Int :=
  if s.station.compEnable then
    match s.aru.tilt with
    | some t => (t.tl, t.tc)
    | none => (0, 0)
  else (0, 0)

/-- Effective correction of a sector of an axis (R15). -/
def effectiveCorrection (scs : Scs) (a : Axis) (sector : Nat) : Int :=
  match (scs.slots.get a).getD sector .blank with
  | .fixed x => x
  | _ => ((scs.soft.get a).getD sector none).getD 0

/-- σ of a value on an axis (R15). -/
def sigma (s : State) (a : Axis) (x : Int) : Int := effectiveCorrection s.scs a (sectorOf x)

/-- A corrected direction. -/
structure Heading where
  hz : Int
  v : Int
  deriving DecidableEq, Repr

/-- Forward reduction (R16). -/
def forwardReduction (s : State) (rH rV : Int) (residual : Offset) : Heading :=
  let gH := mod24 (rH + sigma s .h rH)
  let gV := mod24 (rV + sigma s .v rV)
  let v := mod24 (gV + s.station.n.index + (tiltPair s).1 + residual.dy)
  let f := factorAt s.aru.zenith v
  let corr := roundDiv ((s.station.n.coll + residual.dx) * f.s + (s.station.n.trun + (tiltPair s).2) * f.k) 4096
  { hz := mod24 (gH + corr + s.station.n.orient), v := v }

/-- Raw setpoints with the LIMITED indication (R17). -/
structure Setpoints where
  h : Int
  v : Int
  limited : Bool
  deriving DecidableEq, Repr

/-- Inverse reduction (R17). -/
def inverseReduction (s : State) (ht vt ox oy : Int) : Setpoints :=
  let gV := vt - oy - s.station.n.index - (tiltPair s).1
  let pV := gV - sigma s .v gV
  let pV' := clampTo s.station.n.vMin s.station.n.vMax pV
  let f := factorAt s.aru.zenith vt
  let corr := roundDiv ((s.station.n.coll + ox) * f.s + (s.station.n.trun + (tiltPair s).2) * f.k) 4096
  let gH := mod24 (ht - s.station.n.orient - corr)
  { h := mod24 (gH - sigma s .h gH), v := pV', limited := decide (pV' ≠ pV) }

/-- Change of the H setpoint for a horizontal image offset, with the S factor at the zenith `vt` (R112). -/
def imageToRaw (rows : List ZRow) (vt x : Int) : Int := roundDiv (x * (factorAt rows vt).s) 4096

end Sys2Proof.Machine
end

