-- ==== Sys2Proof/Machine/Ops.lean ====
section
/-! DEFINITION. The named operations over the blocks' state: site time (R124, R175), notices (R177), link errors (R173),
axis records, retargets, stops and HOLD (R88 to R95), and the drive selector's choice (R133, R134). -/

namespace Sys2Proof.Machine

open Sys2Proof

/-! ### Updates of one block -/

/-- Replace the pointing in flight. -/
def State.setPointing (s : State) (p : Option Pointing) : State := { s with pen := { s.pen with pointing := p } }

/-- Replace the shot in hand. -/
def State.setShot (s : State) (x : Option Shot) : State := { s with pen := { s.pen with shot := x } }

/-- Replace one axis record. -/
def State.setAxis (s : State) (a : Axis) (r : AxisRec) : State :=
  { s with apg := { s.apg with axes := s.apg.axes.set a r } }

/-- Replace the settle test. -/
def State.setSettle (s : State) (t : Option SettleTest) : State := { s with apg := { s.apg with settle := t } }

/-- Replace one entry of the target table. -/
def State.setEntry (s : State) (n : Nat) (e : Entry) : State := { s with entries := s.entries.set n e }

/-- Replace the SQU state. -/
def State.setSqu (s : State) (q : Squ) : State := { s with squ := q }

/-- Replace the scheduler's state. -/
def State.setOsc (s : State) (o : Osc) : State := { s with osc := o }

/-- Replace the diversion controller's state. -/
def State.setDvc (s : State) (d : Dvc) : State := { s with dvc := d }

/-- Replace the jog state. -/
def State.setJog (s : State) (j : Jog) : State := { s with dsl := { s.dsl with jog := j } }

/-- Replace the selected source of an axis. -/
def State.setSource (s : State) (a : Axis) (x : Source) : State :=
  { s with dsl := { s.dsl with selected := s.dsl.selected.set a x } }

/-- Replace the DRIVE slot of an axis. -/
def State.setSlot (s : State) (a : Axis) (f : Option DriveFrame) : State :=
  { s with transmit := { s.transmit with slots := s.transmit.slots.set a f } }

/-! ### Site time (R124, R175) -/

/-- A shot in hand whose waiting capture is moved by δ. -/
def Shot.moveTime (δ : Int) (x : Shot) : Shot :=
  match x.stage with
  | .awaitingRange _ => x
  | .awaitingAngles c => { x with stage := .awaitingAngles { c with time := c.time + δ } }

/-- Every capture time held is moved by δ (R124, R175 steps 2 to 4). -/
def State.moveTimes (s : State) (δ : Int) : State :=
  let shift := fun (l : List Sample) => l.map fun x => { x with time := x.time + δ }
  { s with
    scu := { history := { h := shift s.scu.history.h, v := shift s.scu.history.v } }
    pen :=
      { s.pen with
        shot := s.pen.shot.map (Shot.moveTime δ)
        pointing := s.pen.pointing.map fun p => { p with settleTime := p.settleTime.map (· + δ) } }
    squ := { s.squ with last := s.squ.last.map fun c => { c with time := c.time + δ } } }

/-- Site time goes on by `d` µs, with the move of a wrap (R175). -/
def State.advanceBy (s : State) (d : Nat) : State :=
  let t := s.stc.siteTime + d
  if t < Config.siteTimeModulus then { s with stc := { siteTime := t, periodUs := s.stc.periodUs + d } }
  else
    State.moveTimes
      { s with stc := { siteTime := t - Config.siteTimeModulus, periodUs := s.stc.periodUs + d } }
      (-(Config.siteTimeModulus : Int))

/-- Site time at an event `us` µs into the present control period (log entry 5). -/
def State.advanceTo (s : State) (us : Nat) : State :=
  if min us 1000 ≤ s.stc.periodUs then s else s.advanceBy (min us 1000 - s.stc.periodUs)

/-- The capture time of a sample: its arrival stamp less its age (00_scope.md, Time). -/
def State.captureTime (s : State) (age : Nat) : Int := (s.stc.siteTime : Int) - (age : Int)

/-! ### Notices and link errors -/

/-- A notice is raised (R177). -/
def Notices.raise (n : Notices) (k : NoticeKind) (target : Option Nat) : Notices :=
  { records := n.records.set k.place { pending := true, count := satSucc 255 (n.record k).count, lastTarget := target },
    alertWaits := n.alertWaits || !n.records.any (·.pending) }

/-- A block raises a notice. -/
def State.raise (s : State) (k : NoticeKind) (target : Option Nat) : State :=
  { s with notices := s.notices.raise k target }

/-- One notice for each of several entries, in the order given (R177). -/
def State.raiseEach (s : State) (k : NoticeKind) (targets : List Nat) : State :=
  targets.foldl (fun t n => t.raise k (some n)) s

/-- The link error count of a port goes up by one, saturating (R173). -/
def Link.count (l : Link) : Port → Link
  | .axis => { l with errAxis := satSucc 65535 l.errAxis }
  | .sensor => { l with errSensor := satSucc 65535 l.errSensor }
  | .controller => { l with errController := satSucc 65535 l.errController }

/-- A frame is lost on a port: its count goes up, and LINK_ERROR is raised unless it is pending (R173). DESIGN CHOICE (log
entry 42): an error that finds the count already at 65,535, which it leaves there, raises the notice as any other does; R173
ties the notice to an increase and does not speak of the saturated count. -/
def State.linkError (s : State) (port : Port) : State :=
  let t := { s with link := s.link.count port }
  if (s.notices.record .linkError).pending then t else t.raise .linkError none

/-! ### The controller-port transmitter -/

/-- The controller-port transmitter's frame. -/
def State.setSending (s : State) (x : Option Sending) : State := { s with transmit := { s.transmit with controller := x } }

/-- An OBS frame of the oldest record begins where the transmitter is free and the order takes it; the record stays in the queue
(R131, R181). Every step that frees the transmitter, makes a record or withdraws a waiting ALERT without a reply ends in this
test, so no record waits at a transmitter that is free for it (`State.recordsGo`). -/
def State.beginObs (s : State) : State :=
  match s.reports.queue with
  | r :: _ => if s.mayBegin .obs then s.setSending (some (.obs r)) else s
  | [] => s

/-! ### Axes -/

/-- A pointing enters SETTLE: the timer is 0 and the settle test begins (R63, R95). -/
def State.enterSettle (s : State) (p : Pointing) : State :=
  { s.setPointing (some { p with phase := .settle, settleTimer := 0 }) with
    apg :=
      { s.apg with
        settle :=
          some
            { setpoint := { h := (s.axis .h).target, v := (s.axis .v).target }, win := s.station.n.settleWin,
              n := s.station.n.settleN, count := both 0 } } }

/-- An arrival is reported to PEN; it is used in SLEW and SEARCH_MOVE (R62, R66, R94). -/
def State.pointingArrival (s : State) (a : Axis) : State :=
  match s.pen.pointing with
  | none => s
  | some p =>
    if p.phase = .slew ∨ p.phase = .searchMove then
      let p := { p with arrived := p.arrived.set a true }
      if p.arrived.h ∧ p.arrived.v then s.enterSettle p else s.setPointing (some p)
    else s

/-- APG reports an arrival to the requester of the setpoint (R94). JOG and DIVERSION act on the axes' state. -/
def State.reportArrival (s : State) (a : Axis) (req : Requester) : State :=
  if req = .pointing then s.pointingArrival a else s

/-- An axis is retargeted (R88); a settle test in progress ends (R95). -/
def State.retarget (s : State) (a : Axis) (sp : Int) (req : Requester) : State :=
  let act := (s.axis a).retarget a sp req
  let t := (s.setAxis a act.axis).setSettle none
  if act.arrives then t.reportArrival a req else t

/-- An axis is given a controlled stop (R90); a settle test in progress ends (R95). -/
def State.stopAxis (s : State) (a : Axis) (req : Requester) : State :=
  (s.setAxis a ((s.axis a).controlledStop a req).axis).setSettle none

/-- A controlled stop of an axis that is in motion. -/
def State.stopIfMoving (s : State) (a : Axis) (req : Requester) : State :=
  if (s.axis a).inMotion then s.stopAxis a req else s

/-- HOLD is selected for an axis: APG holds it, a HOLD frame takes its slot, and a POSITION frame of the axis being sent
is cut off (R92, R134). -/
def State.holdAxis (s : State) (a : Axis) : State :=
  let r := (s.axis a).enterHold
  let t := (((s.setAxis a r).setSettle none).setSource a .hold).setSlot a (some (r.driveFrame a))
  match s.transmit.axis with
  | some f =>
    if f.axis = a ∧ f.mode = .position then { t with transmit := { t.transmit with axis := none } } else t
  | none => t

/-- An axis leaves HOLD: its position is loaded from the latest raw sample and a waiting setpoint is taken (R93). -/
def State.releaseAxis (s : State) (a : Axis) (want : Source) : State :=
  let r := s.axis a
  let t := (s.setAxis a (r.release a ((s.latestRaw a).getD 0))).setSource a want
  match r.waiting with
  | some w => t.retarget a w.setpoint w.requester
  | none => t

/-! ### The drive selector's choice (R134) -/

/-- The choice for one axis. A choice that leaves HOLD takes effect at a period expiry only. -/
def State.chooseAxis (s : State) (atExpiry : Bool) (a : Axis) : State :=
  let want := s.wantedSource a
  if want = .hold then if s.dsl.selected.get a = .hold then s else s.holdAxis a
  else if s.dsl.selected.get a = .hold then if atExpiry then s.releaseAxis a want else s
  else s.setSource a want

/-- The choice for both axes, at an event. -/
def State.choose (s : State) : State := (s.chooseAxis false .h).chooseAxis false .v

/-- The choice for both axes, at a period expiry. -/
def State.chooseAtExpiry (s : State) : State := (s.chooseAxis true .h).chooseAxis true .v

/-- A jog's stop ends when neither axis is in motion with requester JOG (R140). -/
def State.jogTest (s : State) : State :=
  match s.dsl.jog with
  | .stopping _ =>
    if (s.axis .h).movingFor .jog || (s.axis .v).movingFor .jog then s else s.setJog .none
  | _ => s

end Sys2Proof.Machine
end

