-- ==== Sys2Proof/Machine/Queries.lean ====
section
/-! DEFINITION. The query bodies (R39, R58, R163, R171, R179, R180; section 11.6, query bodies). -/

namespace Sys2Proof.Machine

open Sys2Proof

/-- A list field: a one-byte count and the items (R183). -/
def putList {α : Type} (f : α → List Byte) (xs : List α) : List Byte := putNat 1 xs.length ++ xs.flatMap f

/-- QUERY STATUS (R180). -/
def State.statusBody (s : State) : List Byte :=
  [s.osc.mode.code, s.dvc.state.code, (s.pen.pointing.map fun p => p.phase.code).getD 0]
    ++ putOption (putNat 1) (s.pen.pointing.map (·.target)) ++ putNat 1 s.osc.queue.length
    ++ putNat 1 s.reports.queue.length ++ putNat 1 s.reserved ++ putNat 2 (s.effectiveSpeed .h)
    ++ putNat 2 (s.effectiveSpeed .v) ++ putBool s.osc.suspect ++ putBool s.osc.detectorReady
    ++ putBool s.aru.tiltStale ++ putNat 1 s.scs.guard ++ putOption (putNat 2) (s.scs.burn.map (·.timer))
    ++ putNat 2 s.link.errAxis ++ putNat 2 s.link.errSensor ++ putNat 2 s.link.errController
    ++ putNat 1 s.pen.lateRanges ++ putNat 1 s.dvc.lockoutFaults ++ putNat 6 s.stc.siteTime

/-- The bytes of a last observation summary. -/
def Summary.bytes (x : Summary) : List Byte :=
  putNat 6 x.siteTime ++ putAngle x.hz ++ putAngle x.v ++ putUInt 4 x.distance

/-- QUERY TARGET (R39). -/
def State.targetBody (s : State) (n : Nat) : List Byte :=
  let e := s.entry n
  putNat 1 n ++ definitionBytes e.definition ++ [e.state.code] ++ putNat 4 e.countdown ++ putNat 1 e.misses
    ++ putNat 1 e.overruns ++ putOption (putNat 4) e.retry ++ putBool e.deferred ++ putBool (s.engaged n)
    ++ putBool e.pendingDef.isSome ++ putOption (fun o : Verdict => [o.code]) e.lastOutcome
    ++ putOption Summary.bytes e.lastSummary

/-- The numbers of the entries that are DUE with deferred set, ascending. -/
def deferredEntries : Nat → List Entry → List Nat
  | _, [] => []
  | n, e :: es =>
    if e.state = .due ∧ e.deferred then n :: deferredEntries (n + 1) es else deferredEntries (n + 1) es

/-- One item of the QUEUE body: priority in the two most significant bits, target in the six least, and sequence. -/
def QueueItem.bytes (x : QueueItem) : List Byte := putNat 1 (x.priority * 64 + x.target) ++ putNat 2 x.seq

/-- QUERY QUEUE (R58). -/
def State.queueBody (s : State) : List Byte :=
  [s.osc.mode.code] ++ putNat 2 s.osc.counter ++ putList QueueItem.bytes s.osc.queue
    ++ putList (putNat 1) (deferredEntries 0 s.entries)

/-- The pointing part of a context in the CONTEXT body. -/
def PointingPart.bytes (p : PointingPart) : List Byte :=
  [p.kind.code, p.phase.code] ++ putNat 1 p.searchLeg ++ putNat 1 p.legsCompleted ++ putInt 4 p.ox ++ putInt 4 p.oy
    ++ putNat 1 p.attempts ++ putNat 2 p.followCount ++ putOption (putNat 4) p.dwell ++ definitionBytes p.frozenCopy

/-- A context in the CONTEXT body: the pointing part's presence byte stands only with a target. -/
def State.contextBytes (s : State) (c : Context) : List Byte :=
  (match c.target with
    | none => [0]
    | some n => 1 :: putNat 1 n ++ putOption PointingPart.bytes c.part)
    ++ c.cause.bytes ++ putBool c.recoverable ++ putNat 6 c.savedAt
    ++ putBool ((c.target.map fun n => (s.entry n).pendingDef.isSome).getD false)

/-- The critical record in the CONTEXT body (R163, section 11.6). DESIGN CHOICE (log entry 41): the prior state's byte is its code
among the six DVC states, so HALTED is 4, and not its place 3 in R148's own list of the four prior states. -/
def State.criticalBytes (s : State) (c : CriticalRecord) : List Byte :=
  s.contextBytes c.context ++ [c.priorState.code] ++ c.priorCause.bytes
    ++ putOption (fun m : ResumeMode => [m.code]) c.priorResume ++ putBool c.cleared

/-- QUERY CONTEXT (R163). -/
def State.contextBody (s : State) : List Byte :=
  [s.dvc.state.code] ++ s.dvc.cause.bytes ++ putOption (fun m : ResumeMode => [m.code]) s.dvc.resumeMode
    ++ putOption (putNat 2) s.dvc.restartTimer ++ putBool s.dvc.haltLine ++ [s.dvc.level.code] ++ putNat 1 s.dvc.beyond
    ++ putNat 1 s.dvc.within ++ s.dvc.report.h.bytes ++ s.dvc.report.v.bytes
    ++ putOption s.contextBytes s.dvc.ordinary ++ putOption s.criticalBytes s.dvc.critical

/-- One record of the NOTICES body. -/
def NoticeRecord.bytes (r : NoticeRecord) : List Byte :=
  putBool r.pending ++ putNat 1 r.count ++ putOption (putNat 1) r.lastTarget

/-- QUERY NOTICES (R179). -/
def State.noticesBody (s : State) : List Byte := s.notices.records.flatMap NoticeRecord.bytes

/-- The sectors of an axis in the SECTOR body, in order. -/
def sectorBytes : List (Option Int) → List Slot → List Byte
  | x :: xs, y :: ys => putOption (putInt 2) x ++ y.bytes ++ sectorBytes xs ys
  | _, _ => []

/-- QUERY SECTOR (R171). -/
def State.sectorBody (s : State) (a : Axis) : List Byte :=
  [axisCode a] ++ sectorBytes (s.scs.soft.get a) (s.scs.slots.get a) ++ putNat 1 s.scs.guard
    ++ putOption
        (fun b : Burn => [axisCode b.axis] ++ putNat 1 b.sector ++ putInt 2 b.value ++ putNat 2 b.timer) s.scs.burn

end Sys2Proof.Machine
end

