-- ==== Sys2Proof/Machine/Table.lean ====
section
/-! DEFINITION. The target table and the due queue: loading and arming an entry (R22 to R24), countdowns and retry timers
(R26 to R30), outcomes (R31 to R35), the lowering of miss_limit (R38), the warm values (R40), and enqueues (R45 to R48). -/

namespace Sys2Proof.Machine

open Sys2Proof

/-! ### The due queue -/

/-- `a` stands before `b`: priority, then sequence, then target number (R46). -/
def QueueItem.before (a b : QueueItem) : Bool :=
  decide
    (a.priority < b.priority
      ∨ (a.priority = b.priority ∧ (a.seq < b.seq ∨ (a.seq = b.seq ∧ a.target < b.target))))

/-- Put an item in its place in the queue (R46). -/
def insertItem (x : QueueItem) : List QueueItem → List QueueItem
  | [] => [x]
  | y :: ys => if x.before y then x :: y :: ys else y :: insertItem x ys

/-- The distinct values of a list. -/
def distinct : List Nat → List Nat
  | [] => []
  | x :: xs => if x ∈ distinct xs then distinct xs else x :: distinct xs

/-- The renumbering of R47: each distinct sequence value becomes its place in ascending order. -/
def renumber (q : List QueueItem) : List QueueItem :=
  let vals := distinct (q.map (·.seq))
  q.map fun x => { x with seq := (vals.filter (· < x.seq)).length }

/-- An enqueue of one or more numbers by one event (R45, R47). -/
def State.enqueue (s : State) (nums : List Nat) : State :=
  if nums = [] then s
  else
    let seq := s.osc.counter
    let q :=
      nums.foldl
        (fun q n => insertItem { target := n, priority := (s.entry n).definition.priority, seq := seq } q) s.osc.queue
    if seq < 65535 then s.setOsc { s.osc with queue := q, counter := seq + 1 }
    else s.setOsc { s.osc with queue := renumber q, counter := (distinct (q.map (·.seq))).length }

/-- A number leaves the queue (R48). -/
def State.unqueue (s : State) (n : Nat) : State :=
  s.setOsc { s.osc with queue := s.osc.queue.filter fun x => x.target ≠ n }

/-! ### Loading an entry -/

/-- Steps 2 to 5 of R22: the entry that a definition makes. -/
def loadedEntry (d : Definition) : Entry :=
  if d.kind = .noKind then emptyEntry
  else if d.enable then { emptyEntry with definition := d, state := .armed, countdown := d.offset }
  else { emptyEntry with definition := d, state := .disabled }

/-! ### Countdown and retry timer at a period expiry -/

/-- What an expiry did to an entry. -/
structure EntryTick where
  entry : Entry
  handed : Bool
  overrun : Bool
  deriving DecidableEq, Repr

/-- A countdown expiry by state, with the countdown set afresh (R27, R28). -/
def Entry.countdownExpiry (e : Entry) (engaged : Bool) : EntryTick :=
  let e' := { e with countdown := if e.definition.periodic then e.definition.period else Config.spentMarker }
  match e.state with
  | .armed =>
    if engaged then { entry := { e' with state := .due, deferred := true }, handed := false, overrun := false }
    else { entry := { e' with state := .due }, handed := true, overrun := false }
  | .due | .active | .backoff =>
    { entry := { e' with overruns := satSucc 255 e.overruns }, handed := false, overrun := true }
  | _ => { entry := e, handed := false, overrun := false }

/-- The entry is counted down: its state is one of R26 and it does not hold the spent marker. -/
def Entry.countsDown (e : Entry) : Bool := e.state.counted && decide (e.countdown ≠ Config.spentMarker)

/-- The countdown of an entry at a period expiry (R26). -/
def Entry.tickCountdown (e : Entry) (engaged : Bool) : EntryTick :=
  if e.countsDown then
    let e' := { e with countdown := e.countdown - 1 }
    if e'.countdown = 0 then e'.countdownExpiry engaged else { entry := e', handed := false, overrun := false }
  else { entry := e, handed := false, overrun := false }

/-- A retry timer runs out (R29). -/
def Entry.retryExpiry (e : Entry) : Entry := { e with state := .due, retry := none }

/-- The countdown and then the retry timer of an entry at a period expiry (R26, R29, R30). -/
def Entry.tick (e : Entry) (engaged : Bool) : EntryTick :=
  let t := e.tickCountdown engaged
  if e.state = .backoff then
    match e.retry with
    | some r =>
      if r ≤ 1 then { t with entry := t.entry.retryExpiry, handed := true }
      else { t with entry := { t.entry with retry := some (r - 1) } }
    | none => t
  else t

/-- The whole table at a period expiry: the entries, the numbers handed and the overruns, in ascending order. -/
def tickEntries (engaged : Nat → Bool) : Nat → List Entry → List Entry × List Nat × List Nat
  | _, [] => ([], [], [])
  | n, e :: es =>
    let t := e.tick (engaged n)
    let rest := tickEntries engaged (n + 1) es
    (t.entry :: rest.1, if t.handed then n :: rest.2.1 else rest.2.1, if t.overrun then n :: rest.2.2 else rest.2.2)

/-- TTB at a period expiry: countdowns, retry timers, OVERRUN notices and one enqueue (R26 to R30, R45). -/
def State.tickTable (s : State) : State :=
  let r := tickEntries s.engaged 0 s.entries
  ({ s with entries := r.1 }.raiseEach .overrun r.2.2).enqueue r.2.1

/-! ### Outcomes -/

/-- The notice an outcome names (R31). -/
def Verdict.notice : Verdict → Option NoticeKind
  | .crowded => some .crowded
  | .mismatch => some .mismatch
  | .unsettled => some .unsettled
  | .nosensor => some .detectorSilent
  | .norange => some .rangerSilent
  | _ => none

/-- A notice with a target, or none. -/
def State.raiseMaybe (s : State) (k : Option NoticeKind) (target : Option Nat) : State :=
  match k with
  | some k => s.raise k target
  | none => s

/-- TRACK direction update at DONE or PARTIAL, from the last observation record (R35). -/
def Entry.trackUpdate (e : Entry) (o : Verdict) : Entry :=
  if e.definition.kind = .track ∧ (o = .done ∨ o = .partialDone) then
    match e.lastSummary with
    | some x => { e with definition := { e.definition with hz := x.hz, v := clampTo 262144 8126464 x.v } }
    | none => e
  else e

/-- What an outcome makes of the entry of a scheduled pointing. -/
structure EntryMove where
  entry : Entry
  handed : Bool
  suspended : Bool
  deriving DecidableEq, Repr

/-- An entry that reaches SUSPENDED at an outcome (R32). -/
def Entry.suspendAt (e : Entry) (limit : Nat) : EntryMove :=
  { entry := { e with state := .suspended, misses := limit, retry := none }, handed := false, suspended := true }

/-- State after the outcome of a scheduled pointing (R32 to R34). -/
def Entry.afterOutcome (e : Entry) (n : StationNumbers) (o : Verdict) : EntryMove :=
  match o with
  | .done | .partialDone =>
    { entry := { e with misses := 0, state := if e.definition.periodic then .armed else .spent }, handed := false,
      suspended := false }
  | .obscured | .crowded | .mismatch =>
    let m := e.misses + 1
    if n.missLimit ≤ m then e.suspendAt n.missLimit
    else
      { entry := { e with misses := m, state := .backoff, retry := some (min (n.backoffBase * 2 ^ (m - 1)) n.backoffCap) },
        handed := false, suspended := false }
  | .unsettled | .nosensor | .norange =>
    if n.missLimit ≤ e.misses then e.suspendAt n.missLimit
    else { entry := { e with state := .backoff, retry := some n.backoffBase }, handed := false, suspended := false }
  | .abandoned =>
    if n.missLimit ≤ e.misses then e.suspendAt n.missLimit
    else if e.definition.periodic then { entry := { e with state := .armed }, handed := false, suspended := false }
    else { entry := { e with state := .due }, handed := true, suspended := false }

/-- An outcome is delivered to TTB (R31 to R35). A pending definition is applied in place of the outcome's own transition
(R24); the end of an engagement hands a deferred entry over (R25). -/
def State.deliverOutcome (s : State) (n : Nat) (kind : PointingKind) (o : Verdict) : State :=
  let e := { s.entry n with lastOutcome := some o }
  let s := s.raiseMaybe o.notice (some n)
  match e.pendingDef with
  | some d => s.setEntry n (loadedEntry d)
  | none =>
    let e := e.trackUpdate o
    match kind with
    | .scheduled =>
      let m := e.afterOutcome s.station.n o
      let s := s.setEntry n m.entry
      let s := if m.suspended then s.raise .suspended (some n) else s
      if m.handed then s.enqueue [n] else s
    | .oneOff =>
      let s := s.setEntry n { e with deferred := false }
      if e.deferred then s.enqueue [n] else s

/-! ### Setting entries aside -/

/-- The entries that a miss_limit suspends, and those whose misses it lowers (R38). -/
def Entry.lowerLimit (e : Entry) (limit : Nat) (exempt : Bool) : EntryMove :=
  if exempt || decide (e.misses < limit) then { entry := e, handed := false, suspended := false }
  else
    match e.state with
    | .armed | .due | .backoff => e.suspendAt limit
    | .suspended => { entry := { e with misses := limit }, handed := false, suspended := false }
    | _ => { entry := e, handed := false, suspended := false }

/-- The whole table under a miss_limit: the entries and the numbers suspended, in ascending order. -/
def lowerEntries (limit : Nat) (engaged : Nat → Bool) : Nat → List Entry → List Entry × List Nat
  | _, [] => ([], [])
  | n, e :: es =>
    let m := e.lowerLimit limit (decide (e.state = .active) || engaged n)
    let rest := lowerEntries limit engaged (n + 1) es
    (m.entry :: rest.1, if m.suspended then n :: rest.2 else rest.2)

/-- Lowering miss_limit (R38): entries suspended leave the due queue, with one SUSPENDED notice each. -/
def State.lowerMissLimit (s : State) (limit : Nat) : State :=
  let r := lowerEntries limit s.engaged 0 s.entries
  ({ s with
      entries := r.1
      osc := { s.osc with queue := s.osc.queue.filter fun x => !decide (x.target ∈ r.2) } }).raiseEach .suspended r.2

/-! ### Warm values -/

/-- An entry at a warm restart (R40). -/
def Entry.warm (e : Entry) : Entry :=
  match e.state with
  | .armed | .due | .active | .backoff =>
    { e with state := .armed, countdown := e.definition.offset, misses := 0, retry := none, deferred := false }
  | .disabled | .spent | .suspended => { e with retry := none, deferred := false }
  | .empty => { e with countdown := 0, misses := 0, overruns := 0, retry := none, deferred := false }

/-- OSC at a warm restart (chapter 3). -/
def Osc.warm (o : Osc) : Osc := { o with mode := .stopped, queue := [], counter := 0, suspect := false }

end Sys2Proof.Machine
end

