-- ==== Sys2Proof/Machine/Pointing.lean ====
section
/-! DEFINITION. The pointing engine's record from its beginning to its end: beginning and SLEW (R60, R62), search legs (R66),
the end with an outcome (R79), freezing and handing over (R80, R81), the restart at SLEW (R82), and dispatch (R49 to R51). -/

namespace Sys2Proof.Machine

open Sys2Proof

/-! ### Beginning -/

/-- The record a pointing begins with (R60). -/
def newPointing (n : Nat) (kind : PointingKind) (d : Definition) : Pointing :=
  { target := n, kind := kind, phase := .slew, frozenCopy := d, searchLeg := 0, legsCompleted := 0, ox := 0, oy := 0,
    source := .acquire, limited := false, settleTime := none, settleTimer := 0, silence := 0, attempts := 0,
    reservation := false, onAim := false, followCount := 0, dwell := none, track := none, frozen := false,
    arrived := both false }

/-- The inverse reduction of the target with the record's offset, handed to both axes (R62, R66). -/
def State.pointAxes (s : State) (p : Pointing) : State :=
  let sp := inverseReduction s p.frozenCopy.hz p.frozenCopy.v p.ox p.oy
  let t := s.setPointing (some { p with limited := p.limited || sp.limited, arrived := both false })
  (t.retarget .h sp.h .pointing).retarget .v sp.v .pointing

/-- A pointing in SLEW begins or restarts: SQU's counters are zeroed and retries may be sent (R51, R82, R100, R122). -/
def State.launch (s : State) (p : Pointing) : State :=
  State.pointAxes { s with squ := zeroSqu, pen := { s.pen with retriesClosed := false } } p

/-- A pointing begins at an entry, with a frozen copy of its definition (R60). -/
def State.beginPointing (s : State) (n : Nat) (kind : PointingKind) : State :=
  s.launch (newPointing n kind (s.entry n).definition)

/-- The pointing starts a search leg (R66). -/
def State.startLeg (s : State) (p : Pointing) (n : Nat) : State :=
  let o := searchOffset p.frozenCopy.w n
  s.pointAxes { p with phase := .searchMove, searchLeg := n, ox := o.dx, oy := o.dy }

/-! ### Dispatch -/

/-- The head of the due queue becomes a scheduled pointing (R51), and DSL makes its choice (R134). -/
def State.dispatchHead (s : State) : State :=
  match s.osc.queue with
  | [] => s
  | x :: rest =>
    let s := s.setOsc { s.osc with queue := rest }
    let s := s.setEntry x.target { s.entry x.target with state := .active }
    (s.beginPointing x.target .scheduled).choose

/-- OSC examines the conditions of R49; when all hold, the head is dispatched (R50). -/
def State.examineDispatch (s : State) : State := if s.dispatchReady then s.dispatchHead else s

/-! ### The shot in hand and the reservation -/

/-- A reservation no record has used is released (R73, R79, R80). -/
def State.releaseSlot (s : State) : State :=
  s.setPointing (s.pen.pointing.map fun p => { p with reservation := false })

/-- The shot in hand is withdrawn; its attempt is not counted (R72, R123). -/
def State.withdrawShot (s : State) : State :=
  if s.shotInHand then
    (s.setShot none).setPointing (s.pen.pointing.map fun p => { p with attempts := p.attempts - 1 })
  else s

/-! ### The end of a pointing -/

/-- The axes of a pointing that ends: held where DVC selects HOLD, otherwise stopped under control, with no requester
to report to (R79). -/
def State.stopAfterPointing (s : State) : State :=
  if s.dvc.state.holds then s else (s.stopIfMoving .h .nobody).stopIfMoving .v .nobody

/-- The pointing in flight ends with an outcome (R79). Dispatch is examined at the end of the event (R50). -/
def State.endPointing (s : State) (o : Verdict) : State :=
  match s.pen.pointing with
  | none => s
  | some p =>
    let s := ((s.setShot none).setPointing none).setSettle none
    let s := if o = .nosensor then s.setOsc { s.osc with detectorReady := false } else s
    (s.stopAfterPointing.deliverOutcome p.target p.kind o).choose

/-- The pointing reaches an outcome by a rule of chapter 4, subject to R77. -/
def State.failPointing (s : State) (o : Verdict) : State :=
  match s.pen.pointing with
  | none => s
  | some p => s.endPointing (softened p o)

/-! ### Contexts -/

/-- What PEN hands over with a pointing (R81). -/
def Pointing.part (p : Pointing) : PointingPart :=
  { kind := p.kind, frozenCopy := p.frozenCopy, phase := p.phase, searchLeg := p.searchLeg,
    legsCompleted := p.legsCompleted, ox := p.ox, oy := p.oy, attempts := p.attempts, followCount := p.followCount,
    dwell := p.dwell }

/-- The record that a pointing part refills (R82). -/
def PointingPart.restored (c : PointingPart) (n : Nat) : Pointing :=
  { newPointing n c.kind c.frozenCopy with
    searchLeg := c.searchLeg, legsCompleted := c.legsCompleted, ox := c.ox, oy := c.oy,
    source := if c.searchLeg = 0 then .acquire else .search c.searchLeg, attempts := c.attempts,
    followCount := c.followCount, dwell := c.dwell }

end Sys2Proof.Machine
end

