-- ==== Sys2Proof/Machine/Divert.lean ====
section
/-! DEFINITION. The diversion controller: stops and their completion (R149, R150), contexts (R148), resuming (R152, R158,
R159), faults and lockout (R154, R155), halts (R156), the warm restart (R161, R162), and the tests made at the end of an
event. -/

namespace Sys2Proof.Machine

open Sys2Proof

/-! ### Contexts -/

/-- The target of a context and the kind of its pointing. -/
def Context.ended (c : Context) : Option (Nat × PointingKind) :=
  match c.target, c.part with
  | some n, some p => some (n, p.kind)
  | _, _ => none

/-- A context's target ends ABANDONED at the target table (R24, R34). -/
def State.abandonTarget (s : State) : Option (Nat × PointingKind) → State
  | some (n, k) => s.deliverOutcome n k .abandoned
  | none => s

/-- The ordinary context and then the critical record are freed; the target of each ends ABANDONED, once for an entry
named in both (R156, R160, R162). A critical record taken from HELD names the ordinary context's target and carries no
pointing part (R148). -/
def State.discardContexts (s : State) : State :=
  let o := s.dvc.ordinary.bind (·.ended)
  let c := s.dvc.critical.bind fun r => r.context.ended
  let s := s.setDvc { s.dvc with ordinary := none, critical := none }
  let s := s.abandonTarget o
  if c.map (·.1) = o.map (·.1) then s else s.abandonTarget c

/-- DVC enters RUN with cause none. -/
def State.enterRun (s : State) : State :=
  s.setDvc { s.dvc with state := .run, cause := .none, resumeMode := none }

/-! ### Resuming -/

/-- The pointing of a context restarts at SLEW (R82). -/
def State.restartPointing (s : State) (c : Context) : State :=
  match c.target, c.part with
  | some n, some p => s.launch (p.restored n)
  | _, _ => s

/-- RESUME from HELD, and the automatic resume (R158, R152). Dispatch is examined at the end of the event. -/
def State.resumeHeld (s : State) : State :=
  let c := s.dvc.ordinary
  let d := if s.dvc.level = .lost then { s.dvc with level := .level, beyond := 0, within := 0 } else s.dvc
  let s := (s.setDvc { d with ordinary := none }).enterRun
  match c with
  | none => s.choose
  | some c => if c.recoverable then (s.restartPointing c).choose else (s.abandonTarget c.ended).choose

/-- The automatic resume, where HELD has resume mode AUTO, the level is LEVEL and no burn is in progress (R150, R152,
R159). -/
def State.autoResumeTest (s : State) : State :=
  if s.dvc.state = .held ∧ s.dvc.resumeMode = some .auto ∧ s.dvc.level = .level ∧ s.scs.burn = none then s.resumeHeld
  else s

/-! ### Warm values -/

/-- The notice summary cleared, as an event that the warm values follow finds it (R177). -/
def State.clearSummary (s : State) : State := { s with notices := clearNotices }

/-- The warm values of every block (R162 and the warm columns of the chapters' tables). The summary is cleared before the
notices of the event that brings them (log entry 37): it holds `raised`, those raised before this point of the event, and the
SUSPENDED notice of an entry set aside as its context is discarded joins them (R177, R34). -/
def State.warmValues (s : State) (raised : Notices) : State :=
  let s := State.discardContexts { s with notices := raised }
  let warmAxis := fun r : AxisRec => { r with waiting := none, requester := .nobody }
  let s :=
    { s with
      entries := s.entries.map Entry.warm
      osc := s.osc.warm
      squ := zeroSqu
      apg := { axes := { h := warmAxis s.apg.axes.h, v := warmAxis s.apg.axes.v }, settle := none }
      dsl := { s.dsl with jog := .none }
      sdu := { s.sdu with groups := s.sdu.groups.map fun g : DerateGroup => { g with active := false } }
      reports := { s.reports with feedCount := 0 }
      scs := { s.scs with guard := 0 }
      dvc := { s.dvc with restartTimer := none, level := .level, beyond := 0, within := 0 } }
  s.enterRun.choose

/-! ### Stops -/

/-- DVC enters HELD with an ordinary context of this target and pointing part (R150). -/
def State.enterHeld (s : State) (target : Option Nat) (part : Option PointingPart) (cause : Cause) : State :=
  let s :=
    s.setDvc
      { s.dvc with
        state := .held
        cause := cause
        resumeMode := some (if cause = .level then .auto else .command)
        ordinary :=
          some { target := target, part := part, cause := cause, recoverable := true, savedAt := s.stc.siteTime } }
  s.choose.autoResumeTest

/-- The completion test of R150, at an event that has raised the notices `raised`. -/
def State.stopTest (s : State) (raised : Notices) : State :=
  if s.stopComplete then
    if s.dvc.cause = .restart then s.warmValues raised
    else
      match s.pen.pointing with
      | some p => ((s.setPointing none).setSettle none).enterHeld (some p.target) (some p.part) s.dvc.cause
      | none => s.enterHeld none none s.dvc.cause
  else s

/-- What follows an event's own effects, where the event has raised the notices `raised`: the end of a jog's stop (R140),
DSL's choice (R134), the completion test of a diversion stop (R150) with its automatic resume (R152), and the examination of
dispatch (R50). -/
def State.wrapUpWith (s : State) (raised : Notices) : State := (s.jogTest.choose.stopTest raised).examineDispatch

/-- At the end of an event that may have ended a restart stop: the warm values withdraw a waiting ALERT, so a record may go (R178,
R131). -/
def State.recordMayGo (s : State) (wasRestarting : Bool) : State := if wasRestarting then s.beginObs else s

/-- What follows the own effects of an event that raises no notice which the warm values could follow. -/
def State.wrapUp (s : State) : State := (s.wrapUpWith clearNotices).recordMayGo s.restarting

/-- The pointing in flight is frozen and retries close (R80, R122). -/
def State.freeze (s : State) : State :=
  match s.pen.pointing with
  | some p => { s with pen := { s.pen with pointing := some { p with frozen := true }, retriesClosed := true } }
  | none => s

/-- DVC enters STOPPING from RUN: the jog ends, the pointing is frozen and both axes are stopped (R149). -/
def State.enterStopping (s : State) (cause : Cause) : State :=
  let s := (s.setJog .none).setDvc { s.dvc with state := .stopping, cause := cause, resumeMode := none }
  (s.freeze.stopAxis .h .diversion).stopAxis .v .diversion

/-! ### Level (R151, R152) -/

/-- Level loss at DVC (R152). -/
def State.divertLevelLoss (s : State) : State :=
  match s.dvc.state with
  | .run => ((s.enterStopping .level).withdrawShot).releaseSlot
  | .stopping => if s.dvc.cause = .pause then s.withdrawShot.releaseSlot else s
  | _ => s

/-- The level state becomes LOST (R151). -/
def State.loseLevel (s : State) : State :=
  let s := s.setDvc { s.dvc with level := .lost, beyond := 0, within := 0 }
  (s.raise .levelLoss none).divertLevelLoss

/-- The level state becomes LEVEL (R151). -/
def State.regainLevel (s : State) : State :=
  let s := s.setDvc { s.dvc with level := .level, beyond := 0, within := 0 }
  (s.raise .levelRegained none).autoResumeTest

/-! ### Halts, lockout and faults -/

/-- HOLD is selected for both axes at once (R161). -/
def State.holdBoth (s : State) : State :=
  let one := fun (s : State) (a : Axis) => if s.dsl.selected.get a = .hold then s else s.holdAxis a
  one (one s .h) .v

/-- Effect of a HALT (R156, R161). -/
def State.takeHalt (s : State) : State :=
  let enter := fun (s : State) => s.setDvc { s.dvc with state := .halted, cause := .halt, resumeMode := none }
  match s.dvc.state with
  | .halted | .lockout => s
  | _ =>
    if s.restarting then (enter (s.holdBoth.warmValues clearNotices)).choose
    else
      let s := (enter (s.setJog .none)).choose
      (s.endPointing .abandoned).discardContexts

/-- DVC enters LOCKOUT (R155). -/
def State.enterLockout (s : State) (cause : Cause) : State :=
  let s := (s.setJog .none).setDvc { s.dvc with state := .lockout, cause := cause, resumeMode := none }
  (s.choose.endPointing .abandoned).raise .lockout none

/-- DVC enters CRITICAL (R154). -/
def State.enterCritical (s : State) (cause : Cause) : State :=
  let s := ((s.setJog .none).withdrawShot).setSettle none
  let held := if s.dvc.state = .held then s.dvc.ordinary.bind (·.target) else none
  let saved : Context :=
    match s.pen.pointing with
    | some p =>
      { target := some p.target, part := some p.part, cause := cause, recoverable := true, savedAt := s.stc.siteTime }
    | none => { target := held, part := none, cause := cause, recoverable := true, savedAt := s.stc.siteTime }
  let d :=
    { s.dvc with
      state := .critical
      cause := cause
      resumeMode := none
      fresh := both false
      critical :=
        some
          { context := saved, priorState := s.dvc.state, priorCause := s.dvc.cause, priorResume := s.dvc.resumeMode,
            cleared := false } }
  ((s.setPointing none).setDvc d).choose.raise .driveFault saved.target

/-- A fault event in the states other than CRITICAL and LOCKOUT, by critical_enable (R154). -/
def State.firstFault (s : State) (cause : Cause) : State :=
  if s.station.criticalEnable then s.enterCritical cause else s.enterLockout cause

/-- The axis that a cause names. -/
def Cause.axis : Cause → Option Axis
  | .drive a _ => some a
  | .silence a => some a
  | _ => Option.none

/-- A fault event is taken by DVC state (R154, R161), at an event that has raised the notices `raised`. -/
def State.takeFault (s : State) (a : Axis) (cause : Cause) (raised : Notices) : State :=
  match s.dvc.state with
  | .critical =>
    if s.dvc.cause.axis = some a ∧ (s.dvc.critical.map (·.cleared)).getD false = false then s
    else s.enterLockout cause
  | .lockout => s.setDvc { s.dvc with lockoutFaults := satSucc 255 s.dvc.lockoutFaults }
  | _ => if s.restarting then (s.holdBoth.warmValues raised).firstFault cause else s.firstFault cause

/-! ### The warm restart -/

/-- Steps 1 and 2 of R161: a running jog ends, and a pointing in flight ends ABANDONED. -/
def State.restartBegins (s : State) : State := (s.setJog .none).endPointing .abandoned

/-- The notices that a RESTART raises before the warm values, from a cleared summary: that of an entry set aside at its
ABANDONED outcome (R34). -/
def State.restartRaises (s : State) : Notices := s.clearSummary.restartBegins.notices

/-- A RESTART taken outside STOPPING with cause RESTART (R161), which raises the notices `raised`. -/
def State.takeRestart (s : State) (raised : Notices) : State :=
  let s := s.restartBegins
  if s.axesStill then s.warmValues raised
  else
    let s :=
      s.setDvc { s.dvc with state := .stopping, cause := .restart, resumeMode := none, restartTimer := some 0 }
    ((s.stopIfMoving .h .diversion).stopIfMoving .v .diversion)

/-- The restart timer has run out: each axis still in motion is held, and the warm values apply (R161). -/
def State.restartExpires (s : State) (raised : Notices) : State :=
  let one := fun (s : State) (a : Axis) =>
    if (s.axis a).inMotion then
      let t := s.holdAxis a
      { t with dsl := { t.dsl with restartHold := t.dsl.restartHold.set a true } }
    else s
  (one (one s .h) .v).warmValues raised

end Sys2Proof.Machine
end

