-- ==== Sys2Proof/Machine/Shots.lean ====
section
/-! DEFINITION. Shot handling (R117 to R123), the angle histories and interpolation (R124, R125), capture (R126, R127), the
observation record (R128, R129), the station-suspect test (R54, R55) and the direction feed (R132). -/

namespace Sys2Proof.Machine

open Sys2Proof

/-! ### Sending -/

/-- Shot handling sends a SHOT frame with the next shot id; one more attempt is counted (R72, R118). -/
def State.fire (s : State) (p : Pointing) : State :=
  let id := s.pen.nextShotId
  { s with
    pen :=
      { s.pen with
        nextShotId := (id + 1) % 256
        shot := some { id := id, stage := .awaitingRange 0 }
        pointing := some { p with attempts := p.attempts + 1 } }
    transmit := { s.transmit with shots := s.transmit.shots ++ [id] } }

/-- PEN sends a shot where R72 lets it: no shot in hand, not frozen, on aim, and a slot free or held. -/
def State.tryShot (s : State) : State :=
  match s.pen.pointing with
  | none => s
  | some p =>
    if !s.shotInHand && !p.frozen && p.onAim && s.canReserve p then
      let t := s.fire { p with reservation := true }
      { t with pen := { t.pen with retriesClosed := false } }
    else s

/-! ### Conclusions (R121, R122) as PEN acts on them (R73, R75, R76, R80) -/

/-- The dwell of a pointing in FOLLOW has run out (R76). -/
def Pointing.dwellOver (p : Pointing) : Bool := decide (p.phase = .follow ∧ p.dwell = some 0)

/-- A failure is reported: the shot and the reservation go, and the pointing ends with the outcome, or DONE after a dwell
expiry (R73, R76, R77, R80, R121). -/
def State.shotFails (s : State) (o : Verdict) : State :=
  match s.pen.pointing with
  | none => s.setShot none
  | some p =>
    let s := s.setShot none
    if p.dwellOver && !p.frozen then s.endPointing .done else s.failPointing o

/-- A retry is declined: the shot goes; a frozen pointing stays frozen and releases its reservation, and a pointing whose
dwell has run out ends DONE (R76, R80, R122). -/
def State.retryDeclined (s : State) : State :=
  match s.pen.pointing with
  | none => s.setShot none
  | some p => if p.frozen then (s.setShot none).releaseSlot else (s.setShot none).endPointing .done

/-- A conclusion that may retry: a retry within shot_retry, otherwise the failure (R121). -/
def State.retryOr (s : State) (o : Verdict) : State :=
  match s.pen.pointing with
  | none => s.setShot none
  | some p =>
    if p.attempts ≤ s.station.n.shotRetry then if s.pen.retriesClosed then s.retryDeclined else s.fire p
    else s.shotFails o

/-! ### Histories and interpolation -/

/-- The sample is later than the newest stored, or the history is empty (R124). -/
def acceptsSample (hist : List Sample) (time : Int) : Bool :=
  (hist.getLast?.map fun x => decide (x.time < time)).getD true

/-- A sample is appended; the oldest leaves a history that then holds 129 (R124). -/
def pushSample (hist : List Sample) (x : Sample) : List Sample :=
  let l := hist ++ [x]
  if Config.historyPlaces < l.length then l.drop 1 else l

/-- What interpolation finds (R125). -/
inductive Found where
  | value (raw : Int)
  | waits
  | stale
  deriving DecidableEq, Repr

/-- The value between two samples (R125). -/
def between (ax : Axis) (a b : Sample) (t : Int) : Int :=
  match ax with
  | .v => a.raw + roundDiv ((b.raw - a.raw) * (t - a.time)) (b.time - a.time)
  | .h => mod24 (a.raw + roundDiv (wrapDiff b.raw a.raw * (t - a.time)) (b.time - a.time))

/-- The value at `t` from the sample `a`, not later than `t`, and those after it (R125). -/
def interpolateFrom (ax : Axis) (t : Int) : Sample → List Sample → Found
  | a, [] => if t = a.time then .value a.raw else .waits
  | a, b :: rest =>
    if t = a.time then .value a.raw
    else if t < b.time then .value (between ax a b t)
    else interpolateFrom ax t b rest

/-- Interpolation of one axis at an instant (R125). -/
def interpolate (ax : Axis) (hist : List Sample) (t : Int) : Found :=
  match hist with
  | [] => .waits
  | a :: rest => if t < a.time then .stale else interpolateFrom ax t a rest

/-- The value that interpolation found, if it found one. -/
def Found.value? : Found → Option Int
  | .value x => some x
  | _ => none

/-! ### Capture and record -/

/-- The corrected distance (R127). -/
def correctedDistance (d : Definition) (distance : Int) : Int := max 0 (distance + d.prism)

/-- The distance check applies to the record about to be made (R127). -/
def checkApplies (p : Pointing) : Bool :=
  decide (p.frozenCopy.d0 ≠ 0 ∧ (p.frozenCopy.kind ≠ .track ∨ p.followCount = 0))

/-- Deviation fields of a CONTROL record (R129). -/
def deviationsOf (d : Definition) (hd : Heading) (distance : Int) : Deviations :=
  { dHz := wrapDiff hd.hz d.hz, dV := hd.v - d.v, dD := if d.d0 = 0 then none else some (distance - d.d0) }

/-- A CONTROL record is within tolerance (R54). -/
def Deviations.within (tol : Int) (x : Deviations) : Bool := withinTol tol x.dHz && withinTol tol x.dV

/-- The station-suspect test on a record's deviations (R54). -/
def State.suspectTest (s : State) (target : Nat) (x : Deviations) : State :=
  if s.osc.suspect = x.within s.station.n.controlTol then
    (s.setOsc { s.osc with suspect := !s.osc.suspect }).raise .stationDrift (some target)
  else s

/-- The record of a complete capture, with station-suspect as it stands after the record's own test (R128). -/
def State.recordOf (s : State) (p : Pointing) (c : Capture) (hd : Heading) (suspect : Bool) : ObsRecord :=
  let d := p.frozenCopy
  let distance := correctedDistance d c.distance
  { sequence := s.reports.nextSequence, target := p.target, siteTime := siteMod c.time, hz := hd.hz, v := hd.v,
    distance := distance, strength := c.strength, attempts := p.attempts,
    flags :=
      { suspect := suspect, limited := p.limited, tiltStale := s.aru.tiltStale, retried := decide (1 < p.attempts),
        oneOff := decide (p.kind = .oneOff), follow := decide (d.kind = .track), control := decide (d.kind = .control) },
    deviations := if d.kind = .control then some (deviationsOf d hd distance) else none,
    followIndex := if d.kind = .track then some (p.followCount + 1) else none }

/-- PEN acts on a record made (R73 to R76, R80). -/
def State.recordMade (s : State) (p : Pointing) : State :=
  let p := { p with attempts := 0, reservation := false }
  if p.frozenCopy.kind ≠ .track then (s.setPointing (some p)).endPointing .done
  else
    let fresh := p.phase = .measure ∧ p.followCount = 0
    let p :=
      { p with
        followCount := p.followCount + 1
        dwell := if fresh then some p.frozenCopy.dwell else p.dwell
        phase := .follow
        track := some s.station.n.trackInterval }
    let s := s.setPointing (some p)
    if p.dwell = some 0 then s.endPointing .done else s

/-- Steps 3 to 8 of R128: the suspect test, the record's entry into the report queue, where it may go at once (R131), and the
entry's summary. -/
def State.makeRecord (s : State) (p : Pointing) (c : Capture) (hd : Heading) : State :=
  let d := p.frozenCopy
  let distance := correctedDistance d c.distance
  let s := if d.kind = .control then s.suspectTest p.target (deviationsOf d hd distance) else s
  let r := s.recordOf p c hd s.osc.suspect
  let s :=
    State.beginObs
      { s with
        reports :=
          { s.reports with queue := s.reports.queue ++ [r], nextSequence := (s.reports.nextSequence + 1) % 65536 } }
  let s :=
    s.setEntry p.target
      { s.entry p.target with
        lastSummary := some { siteTime := r.siteTime, hz := r.hz, v := r.v, distance := r.distance } }
  (s.setShot none).recordMade p

/-- Both raw values at the shot instant are found: reduction, distance check and record (R126 to R128). -/
def State.completeCapture (s : State) (c : Capture) (rH rV : Int) : State :=
  match s.pen.pointing with
  | none => s.setShot none
  | some p =>
    let residual := (s.squ.last.map (·.at_)).getD { dx := 0, dy := 0 }
    let hd := forwardReduction s rH rV residual
    let distance := correctedDistance p.frozenCopy c.distance
    if checkApplies p && !withinTol p.frozenCopy.dtol (distance - p.frozenCopy.d0) then s.shotFails .mismatch
    else s.makeRecord p c hd

/-- A capture with the values found so far: complete, or still waiting (R126). -/
def State.settleCapture (s : State) (id : Nat) (c : Capture) : State :=
  match c.found.h, c.found.v with
  | some rH, some rV => s.completeCapture c rH rV
  | _, _ => s.setShot (some { id := id, stage := .awaitingAngles c })

/-- SCU captures at the shot instant (R126): stale, complete, or waiting. -/
def State.capture (s : State) (id : Nat) (time distance : Int) (strength : Nat) : State :=
  let fH := interpolate .h s.scu.history.h time
  let fV := interpolate .v s.scu.history.v time
  if fH = .stale ∨ fV = .stale then s.retryOr .norange
  else
    s.settleCapture id
      { time := time, distance := distance, strength := strength, found := { h := fH.value?, v := fV.value? } }

/-- An accepted sample of an axis that a capture waits for (R126 step 3). -/
def State.captureSample (s : State) (a : Axis) : State :=
  match s.pen.shot with
  | some { id := id, stage := .awaitingAngles c } =>
    if (c.found.get a).isSome then s
    else s.settleCapture id { c with found := c.found.set a (interpolate a (s.scu.history.get a) c.time).value? }
  | _ => s

/-! ### Answers and timeouts -/

/-- A RANGE frame's answer, by its status (R121). -/
def State.answer (s : State) (id : Nat) (time distance : Int) (strength : Nat) : RangeStatus → State
  | .ok => s.capture id time distance strength
  | .weak | .noisy => s.retryOr .obscured
  | .multi => s.shotFails .crowded
  | .noReturn => s.shotFails .obscured

/-- RANGE arrival: the answer of the shot in hand, or late (R120). -/
def State.rangeArrives (s : State) (id age : Nat) (distance : Int) (strength : Nat) (status : RangeStatus) : State :=
  match s.pen.shot with
  | some { id := own, stage := .awaitingRange _ } =>
    if own = id then s.answer id (s.captureTime age) distance strength status
    else { s with pen := { s.pen with lateRanges := satSucc 255 s.pen.lateRanges } }
  | _ => { s with pen := { s.pen with lateRanges := satSucc 255 s.pen.lateRanges } }

/-! ### The settle test and the direction feed at a sample -/

/-- Settle completion reported to PEN with the completing sample's capture time (R63, R95). -/
def State.settled (s : State) (time : Int) : State :=
  let s := s.setSettle none
  match s.pen.pointing with
  | none => s
  | some p =>
    if p.phase = .settle then
      s.setPointing
        (some
          { p with
            settleTime := some time, silence := 0, phase := if p.searchLeg = 0 then .acquire else .look })
    else s

/-- An accepted sample is offered to the settle test (R95). -/
def State.settleSample (s : State) (a : Axis) (x : Sample) : State :=
  match s.apg.settle with
  | none => s
  | some t =>
    let dev :=
      match a with
      | .h => wrapDiff x.raw t.setpoint.h
      | .v => x.raw - t.setpoint.v
    let n := if withinTol t.win dev then min (t.count.get a + 1) t.n else 0
    let t := { t with count := t.count.set a n }
    if t.count.h = t.n ∧ t.count.v = t.n then s.settled x.time else s.setSettle (some t)

/-- An accepted H sample moves the direction feed (R132). -/
def State.feedSample (s : State) (x : Sample) : State :=
  if s.station.n.feedDiv = 0 then s
  else if s.reports.feedCount + 1 = s.station.n.feedDiv then
    let s := { s with reports := { s.reports with feedCount := 0 } }
    match s.latestRaw .h, s.latestRaw .v with
    | some rH, some rV =>
      let hd := forwardReduction s rH rV { dx := 0, dy := 0 }
      { s with reports := { s.reports with direction := some { siteTime := siteMod x.time, hz := hd.hz, v := hd.v } } }
    | _, _ => s
  else { s with reports := { s.reports with feedCount := s.reports.feedCount + 1 } }

/-- A sample accepted into the history of its axis (R124). -/
def State.acceptSample (s : State) (a : Axis) (x : Sample) : State :=
  let s :=
    { s with
      scu := { history := s.scu.history.set a (pushSample (s.scu.history.get a) x) }
      dvc := { s.dvc with fresh := s.dvc.fresh.set a true } }
  let s := (s.settleSample a x).captureSample a
  match a with
  | .h => s.feedSample x
  | .v => s

end Sys2Proof.Machine
end

