-- ==== Sys2Proof/Machine/Requests.lean ====
section
/-! DEFINITION. What each controller-port request does when it is taken: its refusals in the order of its rule, its effects
and its reply (the chapters' command entries; R176). The receive buffer, the reply queue and the guard sequence stand
at the end (R167, R174). -/

namespace Sys2Proof.Machine

open Sys2Proof

/-- A request taken: the state after its effects, the result code and the body. -/
structure Answered where
  state : State
  code : ResultCode
  body : List Byte
  deriving DecidableEq, Repr

/-- A refusal: nothing changes. -/
def State.refuse (s : State) (c : ResultCode) : Answered := { state := s, code := c, body := [] }

/-- The effects were made. -/
def State.answerDone (s : State) : Answered := { state := s, code := .done, body := [] }

/-- DVC is in LOCKOUT: every LOAD and COMMAND is refused (R155). -/
def State.locked (s : State) : Bool := decide (s.dvc.state = .lockout)

/-! ### Loads -/

/-- LOAD TARGET (R21 to R23). -/
def State.takeLoadTarget (s : State) (n : Nat) (l : TargetLoad) : Answered :=
  if s.locked then s.refuse .lockout
  else if 63 < n then s.refuse .range
  else
    match definitionOfLoad l with
    | none => s.refuse .range
    | some d =>
      match s.dvc.ordinary with
      | some c =>
        if c.target = some n then
          State.answerDone
            ((s.setDvc { s.dvc with ordinary := some { c with recoverable := false } }).setEntry n
              { s.entry n with pendingDef := some d })
        else if (s.entry n).state = .active ∨ s.engaged n then s.refuse .state
        else State.answerDone ((s.unqueue n).setEntry n (loadedEntry d))
      | none =>
        if (s.entry n).state = .active ∨ s.engaged n then s.refuse .state
        else State.answerDone ((s.unqueue n).setEntry n (loadedEntry d))

/-- A V position lies within the window in force and outside the new one (R97). -/
def leavesWindow (old new : StationNumbers) (x : Int) : Bool :=
  intIn old.vMin old.vMax x && !intIn new.vMin new.vMax x

/-- The V positions that a station load must leave inside the window (R97). -/
def AxisRec.guarded (r : AxisRec) : List Int :=
  r.p.toList
    ++ (match r.motion with
        | .moving => r.setpoint.toList
        | .braking => r.stopPoint .v :: r.setpoint.toList
        | .held => (r.waiting.map (·.setpoint)).toList
        | .still => [])

/-- A counter at or above its new limit becomes one less than it (R111). -/
def underLimit (count limit : Nat) : Nat := if limit ≤ count then limit - 1 else count

/-- SQU's counters under the limits of an accepted load (R111). -/
def Squ.underLimits (q : Squ) (n : StationNumbers) : Squ :=
  { q with
    acquire := underLimit q.acquire n.acqFrames
    lock := underLimit q.lock n.lockN
    loss := underLimit q.loss n.lossN
    ambiguity := underLimit q.ambiguity n.ambigLimit
    centre := underLimit q.centre n.centreLimit }

/-- LOAD STATION (R6, R38, R97, R111, R132, R151). -/
def State.takeLoadStation (s : State) (l : StationLoad) : Answered :=
  if s.locked then s.refuse .lockout
  else
    match stationOfLoad l with
    | none => s.refuse .range
    | some st =>
      if (s.axis .v).guarded.any (leavesWindow s.station.n st.n) then s.refuse .state
      else if s.dvc.level = .lost ∧ st.n.tiltLimit < s.station.n.tiltLimit then s.refuse .state
      else
        let feed := if st.n.feedDiv = s.station.n.feedDiv then s.reports.feedCount else 0
        let squ := if s.busy then s.squ.underLimits st.n else s.squ
        State.answerDone
          (State.lowerMissLimit
            { s with station := st, squ := squ, reports := { s.reports with feedCount := feed } } st.n.missLimit)

/-- Rows written from row `k` on. -/
def writeRows : Nat → List ZRow → List ZRow → List ZRow
  | _, [], table => table
  | k, r :: rs, table => writeRows (k + 1) rs (table.set k r)

/-- LOAD ZENITH (R9). -/
def State.takeLoadZenith (s : State) (first last : Nat) (rows : List ZRow) : Answered :=
  if s.locked then s.refuse .lockout
  else if last < first ∨ 32 < last ∨ rows.length ≠ last - first + 1 then s.refuse .range
  else State.answerDone { s with aru := { s.aru with zenith := writeRows first rows s.aru.zenith } }

/-- LOAD SECTOR (R165). -/
def State.takeLoadSector (s : State) (axis sector mark : Nat) (value : Int) : Answered :=
  if s.locked then s.refuse .lockout
  else
    match axisOfCode axis, boolOfCode mark with
    | some a, some present =>
      if 31 < sector ∨ (present ∧ ¬correctionInRange value) then s.refuse .range
      else
        match (s.scs.slots.get a).getD sector .blank with
        | .fixed _ => s.refuse .fixed
        | _ =>
          let x := if present then some value else none
          State.answerDone
            { s with scs := { s.scs with soft := s.scs.soft.set a ((s.scs.soft.get a).set sector x) } }
    | _, _ => s.refuse .range

/-- The value a source holds, when it is not stale; the jitter is never stale (R143). -/
def State.sourceValue (s : State) : DerateSource → Option Int
  | .instrTemp => if s.sdu.instrTemp.stale then none else s.sdu.instrTemp.value
  | .driveHTemp => if s.sdu.driveTemp.h.stale then none else s.sdu.driveTemp.h.value
  | .driveVTemp => if s.sdu.driveTemp.v.stale then none else s.sdu.driveTemp.v.value
  | .tiltJitter => some s.aru.jitter

/-- The DERATE notice of an event that changes the selected fraction's value (R145). -/
def State.noticeFraction (before after : State) : State :=
  if sameFraction (selectedFraction before.sdu.groups) (selectedFraction after.sdu.groups) then after
  else after.raise .derate none

/-- LOAD DERATE (R146). -/
def State.takeLoadDerate (s : State) (group : Nat) (l : DerateLoad) : Answered :=
  if s.locked then s.refuse .lockout
  else if 3 < group then s.refuse .range
  else
    match derateOfLoad l with
    | none => s.refuse .range
    | some d =>
      let active := d.enable && ((s.sourceValue d.source).map fun x => decide (d.high < x)).getD false
      let t := { s with sdu := { s.sdu with groups := s.sdu.groups.set group { definition := d, active := active } } }
      State.answerDone (s.noticeFraction t)

/-! ### Schedule -/

/-- START (R42). -/
def State.takeStart (s : State) : Answered :=
  if s.locked then s.refuse .lockout
  else State.answerDone (s.setOsc { s.osc with mode := .running }).examineDispatch

/-- STOP (R43). -/
def State.takeStop (s : State) : Answered :=
  if s.locked then s.refuse .lockout else State.answerDone (s.setOsc { s.osc with mode := .stopped })

/-- The entry states that AIM accepts (R56). -/
def EntryState.aimable : EntryState → Bool
  | .armed | .disabled | .spent | .suspended => true
  | _ => false

/-- AIM (R56). -/
def State.takeAim (s : State) (n : Nat) : Answered :=
  if s.locked then s.refuse .lockout
  else if 63 < n then s.refuse .range
  else if s.scs.burn.isSome then s.refuse .burning
  else if s.busy then s.refuse .busy
  else if s.osc.mode = .running ∨ s.dvc.state ≠ .run ∨ s.dsl.jog ≠ .none ∨ ¬s.bothParked
      ∨ ¬s.occupancy < Config.reportSlots ∨ ¬(s.entry n).state.aimable then s.refuse .state
  else State.answerDone (s.beginPointing n .oneOff).choose

/-- SUSPEND (R36). -/
def State.takeSuspend (s : State) (n : Nat) : Answered :=
  if s.locked then s.refuse .lockout
  else if 63 < n then s.refuse .range
  else
    let e := s.entry n
    if e.state = .empty ∨ e.state = .active ∨ s.engaged n then s.refuse .state
    else if e.state = .suspended then s.answerDone
    else State.answerDone ((s.unqueue n).setEntry n { e with state := .suspended, retry := none })

/-- RESTORE (R37). -/
def State.takeRestore (s : State) (n : Nat) : Answered :=
  if s.locked then s.refuse .lockout
  else if 63 < n then s.refuse .range
  else
    let e := s.entry n
    if e.state ≠ .suspended ∨ s.engaged n then s.refuse .state
    else State.answerDone (s.setEntry n { e with state := .armed, countdown := e.definition.period, misses := 0 })

/-! ### Diversions -/

/-- PAUSE (R149, R161). -/
def State.takePause (s : State) : Answered :=
  match s.dvc.state with
  | .lockout => s.refuse .lockout
  | .run => State.answerDone (s.enterStopping .pause).wrapUp
  | .held => State.answerDone (s.setDvc { s.dvc with resumeMode := some .command })
  | _ => s.refuse .state

/-- HALT by command (R156). -/
def State.takeHaltCommand (s : State) : Answered :=
  if s.locked then s.refuse .lockout else State.answerDone s.takeHalt

/-- The last drive report of an axis is a FAULT (R153). -/
def DriveReport.faulty : DriveReport → Bool
  | .fault _ => true
  | _ => false

/-- CLEAR (R157). -/
def State.takeClear (s : State) : Answered :=
  match s.dvc.state with
  | .lockout => s.refuse .lockout
  | .critical =>
    if s.dvc.report.h.faulty ∨ s.dvc.report.v.faulty ∨ ¬s.dvc.fresh.h ∨ ¬s.dvc.fresh.v then s.refuse .state
    else
      State.answerDone
        (s.setDvc { s.dvc with critical := s.dvc.critical.map fun c => { c with cleared := true } })
  | _ => s.refuse .state

/-- RESUME from CRITICAL: DVC returns to its prior state (R159). -/
def State.resumeCritical (s : State) (c : CriticalRecord) : State :=
  let s := s.setDvc { s.dvc with critical := none }
  match c.priorState with
  | .stopping =>
    State.enterHeld (s.setDvc { s.dvc with state := .stopping, cause := c.priorCause }) c.context.target c.context.part
      c.priorCause
  | .held =>
    (s.setDvc { s.dvc with state := .held, cause := c.priorCause, resumeMode := c.priorResume }).choose.autoResumeTest
  | .halted => (s.setDvc { s.dvc with state := .halted, cause := .halt, resumeMode := none }).choose
  | _ => (s.enterRun.restartPointing c.context).choose

/-- A recoverable target stands in the ordinary context (R158). -/
def State.holdsRecoverable (s : State) : Bool :=
  (s.dvc.ordinary.map fun c => c.recoverable && c.target.isSome).getD false

/-- RESUME (R158, R159, R161). -/
def State.takeResume (s : State) : Answered :=
  match s.dvc.state with
  | .lockout => s.refuse .lockout
  | .held =>
    if s.scs.burn.isSome && s.holdsRecoverable then s.refuse .burning
    else State.answerDone s.resumeHeld.examineDispatch
  | .halted =>
    if s.dvc.haltLine then s.refuse .state else State.answerDone s.enterRun.choose.examineDispatch
  | .critical =>
    match s.dvc.critical with
    | none => s.refuse .state
    | some c =>
      if ¬c.cleared then s.refuse .state
      else if s.scs.burn.isSome ∧ c.priorState = .run ∧ c.context.target.isSome then s.refuse .burning
      else State.answerDone (s.resumeCritical c).examineDispatch
  | _ => s.refuse .state

/-- ABANDON (R160, R161). -/
def State.takeAbandon (s : State) : Answered :=
  match s.dvc.state with
  | .lockout => s.refuse .lockout
  | .held => State.answerDone (s.discardContexts.enterRun.choose).examineDispatch
  | .critical =>
    if (s.dvc.critical.map (·.cleared)).getD false && !s.dvc.haltLine then
      State.answerDone (s.discardContexts.enterRun.choose).examineDispatch
    else s.refuse .state
  | _ => s.refuse .state

/-- RESTART (R161). -/
def State.takeRestartCommand (s : State) : Answered :=
  if s.locked then s.refuse .lockout
  else if s.restarting then s.answerDone
  else State.answerDone ((s.takeRestart s.restartRaises).wrapUpWith s.restartRaises)

/-! ### Jogging -/

/-- Far end of a jogged axis (R138). -/
def State.jogEnd (s : State) (a : Axis) (j : Int) : Int :=
  match a with
  | .v => if 0 < j then s.station.n.vMax else s.station.n.vMin
  | .h => mod24 ((s.axis .h).pos + (if 0 < j then 8000000 else -8000000))

/-- A jogged axis is retargeted to its far end, or stopped with speed 0 (R138). -/
def State.jogAxis (s : State) (a : Axis) (j : Int) : State :=
  if j = 0 then s.stopAxis a .jog else s.retarget a (s.jogEnd a j) .jog

/-- JOG (R137, R138). -/
def State.takeJog (s : State) (speedH speedV : Int) : Answered :=
  if s.locked then s.refuse .lockout
  else if s.scs.burn.isSome then s.refuse .burning
  else if s.busy then s.refuse .busy
  else if s.dvc.state ≠ .run ∨ (s.axis .h).motion = .held ∨ (s.axis .v).motion = .held then s.refuse .state
  else
    let jH := clampTo (-(s.effectiveSpeed .h : Int)) (s.effectiveSpeed .h) speedH
    let jV := clampTo (-(s.effectiveSpeed .v : Int)) (s.effectiveSpeed .v) speedV
    let t := (s.jogAxis .h jH).jogAxis .v jV
    State.answerDone (t.setJog (.leased s.station.n.jogLease { h := jH, v := jV })).choose

/-- The stop of a jog, at a lease expiry or a PARK (R140, R141). -/
def State.stopJog (s : State) (speed : PerAxis Int) : State :=
  ((s.setJog (.stopping speed)).stopAxis .h .jog).stopAxis .v .jog

/-- PARK (R141). -/
def State.takePark (s : State) : Answered :=
  if s.locked then s.refuse .lockout
  else
    match s.dsl.jog with
    | .leased _ speed => State.answerDone (s.stopJog speed).wrapUp
    | _ => s.answerDone

/-! ### Site time and burning -/

/-- SETTIME (R175). -/
def State.takeSettime (s : State) (t : Nat) : Answered :=
  if s.locked then s.refuse .lockout
  else if Config.siteTimeModulus ≤ t then s.refuse .range
  else
    let δ := (t : Int) - (s.stc.siteTime : Int)
    State.answerDone (State.moveTimes { s with stc := { s.stc with siteTime := t } } δ)

/-- KEY: its reply; the progress is changed with that of every frame (R167). -/
def State.takeKey (s : State) (k : Nat) : Answered :=
  if s.locked then s.refuse .lockout
  else if k < 1 ∨ 4 < k then s.refuse .range
  else s.answerDone

/-- BURN (R168). -/
def State.takeBurn (s : State) (axis sector : Nat) (value : Int) : Answered :=
  if s.locked then s.refuse .lockout
  else if s.scs.burn.isSome then s.refuse .burning
  else if s.scs.guard ≠ 4 then s.refuse .state
  else
    match axisOfCode axis with
    | none => s.refuse .range
    | some a =>
      if 31 < sector ∨ ¬correctionInRange value then s.refuse .range
      else if (s.scs.slots.get a).getD sector .blank ≠ .blank then s.refuse .fixed
      else if s.busy ∨ s.dsl.jog ≠ .none ∨ ¬s.axesStill then s.refuse .busy
      else
        State.answerDone
          { s with scs := { s.scs with burn := some { axis := a, sector := sector, value := value, timer := 0 } } }

/-! ### Queries -/

/-- A query answered DONE with a body. -/
def State.answerBody (s : State) (body : List Byte) : Answered := { state := s, code := .done, body := body }

/-- QUERY TARGET (R39). -/
def State.takeQueryTarget (s : State) (n : Nat) : Answered :=
  if 63 < n then s.refuse .range else s.answerBody (s.targetBody n)

/-- QUERY SECTOR (R171). -/
def State.takeQuerySector (s : State) (axis : Nat) : Answered :=
  match axisOfCode axis with
  | none => s.refuse .range
  | some a => s.answerBody (s.sectorBody a)

/-- QUERY NOTICES: the body is formed before the clearing, and a waiting ALERT is withdrawn (R178, R179). -/
def State.takeQueryNotices (s : State) : Answered :=
  { state := { s with notices := clearNotices }, code := .done, body := s.noticesBody }

/-! ### Dispatch of a buffered frame (R167, R174, R176) -/

/-- The owning block's rule for a request, with its reply (R176 step 4). -/
def State.perform (s : State) : Instr → Answered
  | .loadTarget _ n l => s.takeLoadTarget n l
  | .loadStation _ l => s.takeLoadStation l
  | .loadZenith _ f l rows => s.takeLoadZenith f l rows
  | .loadSector _ a n m x => s.takeLoadSector a n m x
  | .loadDerate _ g l => s.takeLoadDerate g l
  | .start _ => s.takeStart
  | .stop _ => s.takeStop
  | .aim _ n => s.takeAim n
  | .pause _ => s.takePause
  | .halt _ => s.takeHaltCommand
  | .resume _ => s.takeResume
  | .clear _ => s.takeClear
  | .abandon _ => s.takeAbandon
  | .jog _ x y => s.takeJog x y
  | .park _ => s.takePark
  | .settime _ t => s.takeSettime t
  | .suspend _ n => s.takeSuspend n
  | .restore _ n => s.takeRestore n
  | .key _ k => s.takeKey k
  | .burn _ a n x => s.takeBurn a n x
  | .restart _ => s.takeRestartCommand
  | .queryStatus _ => s.answerBody s.statusBody
  | .queryTarget _ n => s.takeQueryTarget n
  | .queryContext _ => s.answerBody s.contextBody
  | .queryNotices _ => s.takeQueryNotices
  | .querySector _ a => s.takeQuerySector a
  | .queryQueue _ => s.answerBody s.queueBody
  | _ => s.refuse .unknown

/-- Guard progress after a dispatched frame (R167). -/
def nextGuard (locked : Bool) (progress : Nat) : Instr → Nat
  | .key _ k =>
    if locked then 0 else if k = progress + 1 ∧ k ≤ 4 then k else if k = 1 then 1 else 0
  | _ => 0

/-- The header of a controller-port request; the other commands have none. -/
def Instr.hdr : Instr → Hdr
  | .unknownRequest h | .loadTarget h _ _ | .loadStation h _ | .loadZenith h _ _ _ | .loadSector h _ _ _ _
  | .loadDerate h _ _ | .start h | .stop h | .aim h _ | .pause h | .halt h | .resume h | .clear h | .abandon h
  | .jog h _ _ | .park h | .settime h _ | .suspend h _ | .restore h _ | .key h _ | .burn h _ _ _ | .restart h
  | .queryStatus h | .queryTarget h _ | .queryContext h | .queryNotices h | .querySector h _ | .queryQueue h => h
  | _ => { us := 0, tag := 0 }

/-- The reply joins the tail of the reply queue, and the guard progress is changed (R167, R176). -/
def Answered.queue (a : Answered) (tag : Byte) (progress : Nat) : State :=
  { a.state with
    requests :=
      { a.state.requests with
        replies := a.state.requests.replies ++ [{ tag := tag, code := a.code, body := a.body }] }
    scs := { a.state.scs with guard := progress } }

/-- A frame is taken whole and replied to (R174, R176). -/
def State.takeFrame (s : State) : Buffered → State
  | .request i => (s.perform i).queue (Instr.hdr i).tag (nextGuard s.locked s.scs.guard i)
  | .wrongLength h => (s.refuse .range).queue h.tag 0

/-- Buffered frames are dispatched, oldest first, while the reply queue holds fewer than 8 replies (R174). As many turns
as frames are enough. -/
def State.drain : Nat → State → State
  | 0, s => s
  | n + 1, s =>
    match s.requests.buffer with
    | [] => s
    | b :: rest =>
      if s.requests.replies.length < Config.replyPlaces then
        State.drain n (State.takeFrame { s with requests := { s.requests with buffer := rest } } b.frame)
      else s

/-- The controller port's receiver starts on the next frame (R172). -/
def State.huntController (s : State) : State := { s with link := { s.link with rxController := [] } }

/-- The state at the arrival of a controller-port frame, `us` µs into the control period (R172, R175; log entry 5). -/
def State.frameAt (s : State) (us : Nat) : State := (s.advanceTo us).huntController

/-- A frame joins the tail of the receive buffer, stamped with site time (R174, R175). -/
def State.buffered (s : State) (b : Buffered) : State :=
  { s with requests := { s.requests with buffer := s.requests.buffer ++ [{ frame := b, stamp := s.stc.siteTime }] } }

/-- A controller-port frame arrives: it is lost when the buffer is full, and otherwise buffered and dispatched as soon as
the reply queue lets it (R174). -/
def State.submit (s : State) (us : Nat) (b : Buffered) : State :=
  let s := s.frameAt us
  if s.requests.buffer.length < Config.receivePlaces then
    let t := s.buffered b
    t.drain t.requests.buffer.length
  else s.linkError .controller

end Sys2Proof.Machine
end

