-- ==== Sys2Proof/Machine/Commands.lean ====
section
/-! DEFINITION. The meanings of the COMMAND requests. A request arrives at the receive buffer and is taken as R174 and R176 give. -/

namespace Sys2Proof.Machine

open Sys2Proof

/-- START (R42). -/
def execStart (h : Hdr) (s : State) : Host.Outcome State Fault Refusal :=
  .next (s.submit h.us (.request (.start h)))

/-- STOP (R43). -/
def execStop (h : Hdr) (s : State) : Host.Outcome State Fault Refusal :=
  .next (s.submit h.us (.request (.stop h)))

/-- AIM (R56). -/
def execAim (h : Hdr) (entry : Nat) (s : State) : Host.Outcome State Fault Refusal :=
  .next (s.submit h.us (.request (.aim h entry)))

/-- PAUSE (R149, R150). -/
def execPause (h : Hdr) (s : State) : Host.Outcome State Fault Refusal :=
  .next (s.submit h.us (.request (.pause h)))

/-- HALT by command (R156). -/
def execHalt (h : Hdr) (s : State) : Host.Outcome State Fault Refusal :=
  .next (s.submit h.us (.request (.halt h)))

/-- RESUME (R158, R159). -/
def execResume (h : Hdr) (s : State) : Host.Outcome State Fault Refusal :=
  .next (s.submit h.us (.request (.resume h)))

/-- CLEAR (R157). -/
def execClear (h : Hdr) (s : State) : Host.Outcome State Fault Refusal :=
  .next (s.submit h.us (.request (.clear h)))

/-- ABANDON (R160). -/
def execAbandon (h : Hdr) (s : State) : Host.Outcome State Fault Refusal :=
  .next (s.submit h.us (.request (.abandon h)))

/-- JOG (R137, R138). -/
def execJog (h : Hdr) (speedH : Int) (speedV : Int) (s : State) : Host.Outcome State Fault Refusal :=
  .next (s.submit h.us (.request (.jog h speedH speedV)))

/-- PARK (R141). -/
def execPark (h : Hdr) (s : State) : Host.Outcome State Fault Refusal :=
  .next (s.submit h.us (.request (.park h)))

/-- SETTIME (R175). -/
def execSettime (h : Hdr) (t : Nat) (s : State) : Host.Outcome State Fault Refusal :=
  .next (s.submit h.us (.request (.settime h t)))

/-- SUSPEND (R36). -/
def execSuspend (h : Hdr) (entry : Nat) (s : State) : Host.Outcome State Fault Refusal :=
  .next (s.submit h.us (.request (.suspend h entry)))

/-- RESTORE (R37). -/
def execRestore (h : Hdr) (entry : Nat) (s : State) : Host.Outcome State Fault Refusal :=
  .next (s.submit h.us (.request (.restore h entry)))

/-- KEY (R167). -/
def execKey (h : Hdr) (k : Nat) (s : State) : Host.Outcome State Fault Refusal :=
  .next (s.submit h.us (.request (.key h k)))

/-- BURN (R168). -/
def execBurn (h : Hdr) (axis : Nat) (sector : Nat) (value : Int) (s : State) : Host.Outcome State Fault Refusal :=
  .next (s.submit h.us (.request (.burn h axis sector value)))

/-- RESTART (R161, R162). -/
def execRestart (h : Hdr) (s : State) : Host.Outcome State Fault Refusal :=
  .next (s.submit h.us (.request (.restart h)))

end Sys2Proof.Machine
end

