-- ==== Sys2Proof/Machine/Spots.lean ====
section
/-! DEFINITION. What a SPOT frame does: SQU's counters (R105 to R110), the phase rules of the pointing (R65 to R76), and the
fine retarget (R69). -/

namespace Sys2Proof.Machine

open Sys2Proof

/-- The pointing reaches the ambiguity limit, or the frame goes on to its other effects (R71, R109). -/
def State.countAmbiguous (s : State) (rest : State → State) : State :=
  let n := s.squ.ambiguity + 1
  let s := s.setSqu { s.squ with ambiguity := n }
  if n = s.station.n.ambigLimit then s.failPointing .crowded else rest s

/-- A leg has found nothing: the search is exhausted or the next leg starts (R67). -/
def State.legEmpty (s : State) (p : Pointing) (leg : Nat) : State :=
  let p := { p with legsCompleted := leg }
  let s := s.setPointing (some p)
  if s.station.n.searchLegs ≤ leg then s.failPointing .obscured else s.startLeg p (leg + 1)

/-- The acquire count goes up; at acq_frames the search begins (R65, R106). -/
def State.acquireEmpty (s : State) (p : Pointing) (count : Nat) : State :=
  let s := s.setSqu { s.squ with acquire := count }
  if count = s.station.n.acqFrames then s.startLeg p 1 else s.setPointing (some { p with phase := .acquire })

/-- The lock count; at lock_n the pointing enters CENTRE (R68, R70). -/
def State.lockAt (s : State) (p : Pointing) (count : Nat) (o : Offset) : State :=
  let q := { s.squ with lock := count, previous := some o }
  if count = s.station.n.lockN then
    (s.setSqu { q with loss := 0, centre := 0 }).setPointing (some { p with phase := .centre, onAim := false })
  else (s.setSqu q).setPointing (some { p with phase := .locking })

/-- The setpoints moved by a candidate's offset, handed to both axes (R69, R112). -/
def State.fineRetarget (s : State) (p : Pointing) (o : Offset) : State :=
  let h := mod24 ((s.axis .h).target + imageToRaw s.aru.zenith p.frozenCopy.v o.dx)
  let raw := (s.axis .v).target + o.dy
  let v := clampTo s.station.n.vMin s.station.n.vMax raw
  let s := s.setPointing (some { p with limited := p.limited || decide (v ≠ raw) })
  (s.retarget .h h .pointing).retarget .v v .pointing

/-- The loss count goes up; `lost` says what a lost lock does, `rest` what the frame does otherwise (R108). -/
def State.countLoss (s : State) (lost : Verdict) (rest : State → State) : State :=
  let n := s.squ.loss + 1
  let s := s.setSqu { s.squ with loss := n }
  if n = s.station.n.lossN then s.failPointing lost else rest s

/-- A frame taken in ACQUIRE (R65). -/
def State.frameAcquire (s : State) (p : Pointing) : SpotResult → State
  | .chosen o => s.lockAt { p with source := .acquire } 1 o
  | .ambiguous => s.countAmbiguous id
  | .noCandidate => s.acquireEmpty p (s.squ.acquire + 1)

/-- A frame taken in LOOK (R67). -/
def State.frameLook (s : State) (p : Pointing) : SpotResult → State
  | .chosen o => s.lockAt { p with source := .search p.searchLeg } 1 o
  | .ambiguous => s.countAmbiguous id
  | .noCandidate => s.legEmpty p p.searchLeg

/-- A frame taken in LOCKING (R68, R107). -/
def State.frameLocking (s : State) (p : Pointing) : SpotResult → State
  | .chosen o =>
    let same := (s.squ.previous.map fun q => o.consistent s.station.n.lockTol q).getD false
    let count := if s.squ.lock ≠ 0 ∧ same then s.squ.lock + 1 else 1
    s.lockAt p count o
  | .ambiguous => s.countAmbiguous fun t => t.setSqu { t.squ with lock := 0 }
  | .noCandidate =>
    let s := s.setSqu { s.squ with lock := 0 }
    match p.source with
    | .acquire => s.acquireEmpty p 1
    | .search leg => s.legEmpty p leg

/-- A frame taken in CENTRE (R70). A chosen candidate sets the loss count to 0, also where the frame ends the pointing (R108). -/
def State.frameCentre (s : State) (p : Pointing) (r : SpotResult) : State :=
  let n := s.squ.centre + 1
  let s := s.setSqu { s.squ with centre := n }
  let atLimit := fun (t : State) => if n = t.station.n.centreLimit then t.failPointing .unsettled else t
  match r with
  | .chosen o =>
    if o.within s.station.n.aimTol then
      ((s.setSqu { s.squ with loss := 0 }).fineRetarget { p with phase := .measure } o).tryShot
    else if n = s.station.n.centreLimit then (s.setSqu { s.squ with loss := 0 }).failPointing .unsettled
    else (s.setSqu { s.squ with loss := 0 }).fineRetarget p o
  | .ambiguous => s.countAmbiguous fun t => t.countLoss .obscured atLimit
  | .noCandidate => s.countLoss .obscured atLimit

/-- A frame taken in MEASURE (R72, R73). -/
def State.frameMeasure (s : State) (p : Pointing) : SpotResult → State
  | .chosen o => ((s.setSqu { s.squ with loss := 0 }).fineRetarget p o).tryShot
  | .ambiguous => s.countAmbiguous fun t => t.countLoss .obscured id
  | .noCandidate => s.countLoss .obscured id

/-- A frame taken in FOLLOW (R75, R76): a waiting shot is sent once the track timer is 0 and the dwell goes on. -/
def State.frameFollow (s : State) (p : Pointing) : SpotResult → State
  | .chosen o =>
    let t := (s.setSqu { s.squ with loss := 0 }).fineRetarget p o
    if p.track = some 0 ∧ p.dwell ≠ some 0 then t.tryShot else t
  | .ambiguous => s.countAmbiguous fun t => t.countLoss .partialDone id
  | .noCandidate => s.countLoss .partialDone id

/-- PEN acts on a frame's result by its phase. -/
def State.frameTaken (s : State) (p : Pointing) (r : SpotResult) : State :=
  match p.phase with
  | .acquire => s.frameAcquire p r
  | .look => s.frameLook p r
  | .locking => s.frameLocking p r
  | .centre => s.frameCentre p r
  | .measure => s.frameMeasure p r
  | .follow => s.frameFollow p r
  | .slew | .settle | .searchMove => s

/-- The last chosen candidate after a frame taken (R105). -/
def Squ.seen (q : Squ) (r : SpotResult) (time : Int) : Squ :=
  match r with
  | .chosen o => { q with last := some { at_ := o, time := time } }
  | _ => q

/-- on aim after a frame taken in CENTRE, MEASURE or FOLLOW (R61). -/
def Pointing.sighted (p : Pointing) (aimTol : Int) (r : SpotResult) : Pointing :=
  match p.phase with
  | .centre | .measure | .follow =>
    { p with
      onAim :=
        match r with
        | .chosen o => o.within aimTol
        | _ => false }
  | _ => p

/-- A SPOT frame at PEN, SQU and OSC: the silence count and detector-ready, and the frame's effects when it is taken (R53,
R61, R101). -/
def State.spotArrives (s : State) (time : Int) (spots : List Spot) : State :=
  let s := s.setOsc { s.osc with detectorReady := true }
  match s.pen.pointing with
  | none => s
  | some p =>
    let p := { p with silence := 0 }
    let s := s.setPointing (some p)
    if p.takes time then
      let r := spotResult p.frozenCopy s.station.n.ambig spots
      let p := p.sighted s.station.n.aimTol r
      ((s.setSqu (s.squ.seen r time)).setPointing (some p)).frameTaken p r
    else s

end Sys2Proof.Machine
end

