-- ==== Sys2Proof/Machine/Sensors.lean ====
section
/-! DEFINITION. What arrives from outside the controller's requests: encoder, drive, camera, ranger and tilt frames (R11, R13,
R124, R143, R144, R151, R153), the HALT line (R156), the cold reset, and the receivers' bytes (R172). -/

namespace Sys2Proof.Machine

open Sys2Proof

/-! ### Derating sources (R143, R144) -/

/-- A value offered to a derate group by a source (R144). -/
def DerateGroup.offer (g : DerateGroup) (source : DerateSource) (x : Int) : DerateGroup :=
  if g.definition.enable ∧ g.definition.source = source then
    if g.definition.high < x then { g with active := true }
    else if x < g.definition.low then { g with active := false }
    else g
  else g

/-- A value offered to every group that takes its source. -/
def State.offer (s : State) (source : DerateSource) (x : Int) : State :=
  { s with sdu := { s.sdu with groups := s.sdu.groups.map fun g : DerateGroup => g.offer source x } }

/-- A temperature source after a report (R143). -/
def reported (x : Int) : TempSource := { value := some x, age := 0, stale := false }

/-- The source that the temperature of an axis's drive feeds (R143). -/
def driveSource : Axis → DerateSource
  | .h => .driveHTemp
  | .v => .driveVTemp

/-! ### Axis port -/

/-- The receiver of a port starts on the next frame (R172). -/
def State.huntAxis (s : State) : State := { s with link := { s.link with rxAxis := [] } }

/-- The sensor port's receiver starts on the next frame (R172). -/
def State.huntSensor (s : State) : State := { s with link := { s.link with rxSensor := [] } }

/-- The silence age of an axis (R153). -/
def State.setSilence (s : State) (a : Axis) (n : Nat) : State :=
  s.setDvc { s.dvc with silenceAge := s.dvc.silenceAge.set a n }

/-- An ANGLE frame (R124, R153): the silence age is 0, and the sample is accepted or discarded. -/
def State.angleArrives (s : State) (a : Axis) (raw : Int) (age : Nat) : State :=
  let s := s.setSilence a 0
  let time := s.captureTime age
  if acceptsSample (s.scu.history.get a) time then (s.acceptSample a { time := time, raw := raw }).wrapUp else s

/-- The drive report of an axis. -/
def State.setReport (s : State) (a : Axis) (r : DriveReport) : State :=
  s.setDvc { s.dvc with report := s.dvc.report.set a r }

/-- The drive report after a DRIVE_STATUS frame, with its fault event (R153, R154). -/
def State.reportStatus (s : State) (a : Axis) : DriveStatus → State
  | .ready => s.setReport a .ready
  | .fault c =>
    if s.dvc.report.get a = .fault c then s else (s.setReport a (.fault c)).takeFault a (.drive a c) clearNotices

/-- A drive temperature at SDU, with the DERATE notice of the event (R143 to R145). -/
def State.driveTempArrives (s : State) (a : Axis) (temp : Int) : State :=
  let t := { s with sdu := { s.sdu with driveTemp := s.sdu.driveTemp.set a (reported temp) } }
  s.noticeFraction (t.offer (driveSource a) temp)

/-- A DRIVE_STATUS frame (R153, R143). DESIGN CHOICE (log entry 45): where the frame's FAULT ends a restart stop, the warm values
clear every active flag before the frame's temperature is offered (log entry 21), and the temperature may set a flag that stood
before the event. The fraction is compared from the clearing on, so DERATE is raised then, though its value before the event and
after it is the same; R145 speaks of an event that changes the value and of a restart that clears it, and not of both in one. -/
def State.statusArrives (s : State) (a : Axis) (status : DriveStatus) (temp : Int) : State :=
  ((s.reportStatus a status).driveTempArrives a temp).wrapUp

/-! ### Tilt -/

/-- The largest of a list, or 0 (R13). -/
def largest (xs : List Nat) : Nat := xs.foldl max 0

/-- The jitter steps after one more, ten at most (R13). -/
def pushStep (steps : List Nat) (x : Nat) : List Nat :=
  let l := steps ++ [x]
  if 10 < l.length then l.drop 1 else l

/-- ARU at a TILT frame (R11 to R13). -/
def Aru.tiltArrives (u : Aru) (tl tc : Int) (overrange : Bool) : Aru :=
  let steps :=
    match u.tilt with
    | some t => pushStep u.jitterSteps ((tl - t.tl).natAbs + (tc - t.tc).natAbs)
    | none => u.jitterSteps
  { u with
    tilt := some { tl := tl, tc := tc, overrange := overrange }, tiltAge := 0, tiltStale := false, jitterSteps := steps,
    jitter := largest steps }

/-- A tilt sample is beyond (R151). -/
def beyondLevel (limit tl tc : Int) (overrange : Bool) : Bool :=
  overrange || !withinTol limit tl || !withinTol limit tc

/-- The level monitor at a sample (R151). -/
def State.levelSample (s : State) (beyond : Bool) : State :=
  match s.dvc.level, beyond with
  | .level, true =>
    let n := satSucc 255 s.dvc.beyond
    if s.station.n.levelN ≤ n then s.loseLevel else s.setDvc { s.dvc with beyond := n }
  | .level, false => s.setDvc { s.dvc with beyond := 0 }
  | .lost, false =>
    let n := satSucc 255 s.dvc.within
    if s.station.n.levelOkN ≤ n then s.regainLevel else s.setDvc { s.dvc with within := n }
  | .lost, true => s.setDvc { s.dvc with within := 0 }

/-- SDU at a TILT frame: the instrument temperature and the jitter (R143, R144), one DERATE notice at most (R145). -/
def State.tiltSources (s : State) (temp : Int) : State :=
  let t := { s with sdu := { s.sdu with instrTemp := reported temp } }
  s.noticeFraction ((t.offer .instrTemp temp).offer .tiltJitter s.aru.jitter)

/-- A TILT frame (R11, R151, R143). -/
def State.tiltArrives (s : State) (tl tc : Int) (overrange : Bool) (temp : Int) : State :=
  let s := { s with aru := s.aru.tiltArrives tl tc overrange }
  ((s.levelSample (beyondLevel s.station.n.tiltLimit tl tc overrange)).tiltSources temp).wrapUp

/-! ### The receivers (R172, R173) -/

/-- A frame of the axis or sensor port that has passed its layout check. -/
def State.receive (s : State) : Instr → State
  | .angleFrame _ a raw age => s.angleArrives a raw age
  | .driveStatusFrame _ a st temp => s.statusArrives a st temp
  | .spotFrame _ age spots => (s.spotArrives (s.captureTime age) spots).wrapUp
  | .rangeFrame _ id age distance strength status => (s.rangeArrives id age distance strength status).wrapUp
  | .tiltFrame _ tl tc o temp => s.tiltArrives tl tc o temp
  | _ => s

/-- What follows a layout check. -/
def State.layoutChecked (s : State) (port : Port) : Layout → State
  | .notReceived => s
  | .impossible => s.linkError port
  | .arrived i => s.receive i

/-- One finding of a port receiver. -/
def State.rxEvent (s : State) (us : Nat) (port : Port) : RxEvent → State
  | .discarded => s.linkError port
  | .good f =>
    match port with
    | .axis => s.layoutChecked .axis (axisLayout us f)
    | .sensor => s.layoutChecked .sensor (sensorLayout us f)
    | .controller => s.submit us (parseRequest { us := us, tag := f.tag } f.kind f.payload)

/-- The bytes a port receiver holds. -/
def Link.rx (l : Link) : Port → List Byte
  | .axis => l.rxAxis
  | .sensor => l.rxSensor
  | .controller => l.rxController

/-- A port receiver is left with these bytes. -/
def Link.setRx (l : Link) (port : Port) (bs : List Byte) : Link :=
  match port with
  | .axis => { l with rxAxis := bs }
  | .sensor => { l with rxSensor := bs }
  | .controller => { l with rxController := bs }

/-- Bytes arrive on a port: the receiver's findings are acted on in order (R172). -/
def State.bytesArrive (s : State) (us : Nat) (port : Port) (bytes : List Byte) : State :=
  let s := s.advanceTo us
  let all := s.link.rx port ++ bytes
  let r := rxScan all.length all
  let s := r.1.foldl (fun t e => t.rxEvent us port e) s
  { s with link := s.link.setRx port r.2 }

/-! ### HALT line and reset input -/

/-- The HALT line goes from inactive to asserted (R156). -/
def State.haltLineRises (s : State) : State :=
  if s.dvc.haltLine then s else (((s.setDvc { s.dvc with haltLine := true }).takeHalt).wrapUp).recordMayGo s.restarting

/-- The fixed slots a cold reset leaves: the slot of a burn in progress is SPOILED (R166). -/
def Scs.slotsAfterReset (c : Scs) : PerAxis (List Slot) :=
  match c.burn with
  | none => c.slots
  | some b => c.slots.set b.axis ((c.slots.get b.axis).set b.sector .spoiled)

/-- A cold reset (R20 and the cold columns): the HALT line asserted takes a HALT as the reset ends (R156). -/
def State.coldReset (s : State) : State :=
  let t := coldState s.scs.slotsAfterReset s.dvc.haltLine s.pending
  if s.dvc.haltLine then t.takeHalt else t

end Sys2Proof.Machine
end

