-- ==== Sys2Proof/Machine/Ticks.lean ====
section
/-! DEFINITION. What the part does at a period expiry (R1), block by block, and the occurrences a period expiry or another
event brings about: each expiry, timeout, arrival and completion is one operation here. -/

namespace Sys2Proof.Machine

open Sys2Proof

/-! ### Time (R1, R175) -/

/-- The control period ends: site time is at its end, and an axis put into HOLD by the restart timeout may be released
(R133). -/
def State.endPeriod (s : State) : State :=
  let s := s.advanceBy (1000 - s.stc.periodUs)
  { s with stc := { s.stc with periodUs := 0 }, dsl := { s.dsl with restartHold := both false } }

/-! ### Shot handling and the pointing engine -/

/-- The range timer at a period expiry (R119). It runs also while the pointing is frozen. -/
def State.rangeTick (s : State) : State :=
  match s.pen.shot with
  | some { id := id, stage := .awaitingRange n } =>
    if s.station.n.rangeTimeout ≤ n + 1 then s.retryOr .norange
    else s.setShot (some { id := id, stage := .awaitingRange (n + 1) })
  | _ => s

/-- Dwell remaining has reached 0 (R76). -/
def State.dwellRunsOut (s : State) : State :=
  if s.shotInHand then { s with pen := { s.pen with retriesClosed := true } } else s.endPointing .done

/-- The track timer has reached 0 (R75). -/
def State.trackRunsOut (s : State) : State := if s.shotInHand then s else s.tryShot

/-- Dwell and track timer at a period expiry in FOLLOW (R74 to R76). DESIGN CHOICE (log entry 38): where both reach 0 at the same
expiry with no shot in hand, the dwell is taken first, so the pointing ends DONE and the follow shot is not sent. -/
def State.followTick (s : State) (p : Pointing) : State :=
  let s := s.setPointing (some { p with dwell := p.dwell.map (· - 1), track := p.track.map (· - 1) })
  if p.dwell = some 1 then s.dwellRunsOut
  else if p.track = some 1 then s.trackRunsOut
  else s

/-- The pointing's timers at a period expiry: silence count, settle timer, dwell and track timer (R64, R74 to R76, R78).
DESIGN CHOICE (log entry 39): where detector silence and the end of the dwell fall at the same expiry in FOLLOW, the silence is
tested first, so the pointing ends NOSENSOR, or PARTIAL after a record, and not DONE. -/
def State.pointingTick (s : State) : State :=
  match s.pen.pointing with
  | none => s
  | some p =>
    if p.frozen then s
    else
      let p := { p with silence := satSucc 2000 p.silence }
      if p.phase = .settle then
        let p := { p with settleTimer := p.settleTimer + 1 }
        let s := s.setPointing (some p)
        if s.station.n.settleTimeout ≤ p.settleTimer then s.failPointing .unsettled else s
      else if p.phase.watched && decide (s.station.n.spotSilence ≤ p.silence) then
        (s.setPointing (some p)).failPointing .nosensor
      else if p.phase = .follow then s.followTick p
      else s.setPointing (some p)

/-! ### Axes -/

/-- An axis steps, brakes or stands at a period expiry, and an arrival is reported (R86, R87, R89, R94). -/
def State.stepAxis (s : State) (a : Axis) : State :=
  let act := (s.axis a).period a (stationVmax s.station a) (stationAcc s.station a) (s.sourceCap a)
  let t := s.setAxis a act.axis
  if act.arrives then t.reportArrival a act.axis.requester else t

/-! ### Ages (R12, R143) -/

/-- The tilt age at a period expiry (R12). -/
def Aru.tick (u : Aru) (limit : Nat) : Aru :=
  let age := satSucc 65535 u.tiltAge
  { u with tiltAge := age, tiltStale := u.tiltStale || decide (limit ≤ age) }

/-- The age of a temperature source at a period expiry (R143). -/
def TempSource.tick (x : TempSource) : TempSource :=
  let age := satSucc 2000 x.age
  { x with age := age, stale := x.stale || decide (age = 2000) }

/-- ARU's and SDU's ages at a period expiry. -/
def State.ageTick (s : State) : State :=
  { s with
    aru := s.aru.tick s.station.n.tiltStale
    sdu :=
      { s.sdu with
        instrTemp := s.sdu.instrTemp.tick
        driveTemp := { h := s.sdu.driveTemp.h.tick, v := s.sdu.driveTemp.v.tick } } }

/-! ### Burn (R169, R170) -/

/-- The read-back shows the value burned. -/
def cellShows (c : CellRead) (x : Int) : Bool :=
  match c with
  | .value y => decide (y = x)
  | .unreadable => false

/-- The burn completes: the slot is verified and the burn in progress is absent (R170). -/
def State.completeBurn (s : State) (b : Burn) (cell : CellRead) : State :=
  let put := fun (x : Slot) => s.scs.slots.set b.axis ((s.scs.slots.get b.axis).set b.sector x)
  if cellShows cell b.value then
    State.raise
      { s with
        scs :=
          { s.scs with
            slots := put (.fixed b.value), soft := s.scs.soft.set b.axis ((s.scs.soft.get b.axis).set b.sector none),
            burn := none } }
      .burnDone none
  else State.raise { s with scs := { s.scs with slots := put .spoiled, burn := none } } .burnFailed none

/-- The burn timer at a period expiry (R169). -/
def State.burnTick (s : State) (cell : CellRead) : State :=
  match s.scs.burn with
  | none => s
  | some b =>
    let b := { b with timer := b.timer + 1 }
    if b.timer = 400 then (s.completeBurn b cell).autoResumeTest else { s with scs := { s.scs with burn := some b } }

/-! ### Jog (R139) -/

/-- A jogged H axis in motion is pushed on ahead (R139 step 2). -/
def State.extendJog (s : State) (j : Int) : State :=
  if j ≠ 0 ∧ (s.axis .h).motion = .moving then s.retarget .h (s.jogEnd .h j) .jog else s

/-- The lease at a period expiry (R139, R140). -/
def State.jogTick (s : State) : State :=
  match s.dsl.jog with
  | .leased n speed =>
    if n ≤ 1 then s.stopJog speed else (s.setJog (.leased (n - 1) speed)).extendJog speed.h
  | _ => s

/-! ### Restart stop (R161) -/

/-- The restart timer at a period expiry: at 2,000 with an axis in motion the stop is cut short. -/
def State.restartTick (s : State) (raised : Notices) : State :=
  if s.restarting then
    let n := (s.dvc.restartTimer.getD 0) + 1
    let s := s.setDvc { s.dvc with restartTimer := some n }
    if 2000 ≤ n ∧ ¬s.axesStill then s.restartExpires raised else s
  else s

/-! ### DRIVE frames and the encoder watch (R96, R153) -/

/-- The DRIVE frame of each axis takes its slot (R96). -/
def State.formDrives (s : State) : State :=
  (s.setSlot .h (some ((s.axis .h).driveFrame .h))).setSlot .v (some ((s.axis .v).driveFrame .v))

/-- An encoder is found silent: the age is 0, and a fault event is taken unless the drive report reads FAULT (R153). -/
def State.encoderSilent (s : State) (a : Axis) (raised : Notices) : State :=
  let s := s.setSilence a 0
  if (s.dvc.report.get a).faulty then s else s.takeFault a (.silence a) raised

/-- The silence age of an axis after the DRIVE frame formed for it, which has mode HOLD or not (R153). DESIGN CHOICE (log entry 46):
an axis put into HOLD and let go between two expiries (a HALT and a RESUME) has no HOLD frame formed at an expiry, so nothing has
set its age to 0, and the POSITION expiry that releases it adds 1,000 to the age that stood. R153's sentences on the expiry say
so; its last sentence, by which a POSITION expiry after a release starts from 0, would make it 1,000. -/
def State.watchEncoder (s : State) (a : Axis) (held : Bool) (raised : Notices) : State :=
  if held then s.setSilence a 0
  else
    let n := min (s.dvc.silenceAge.get a + 1000) 131072
    if 2 ^ s.station.n.angleSilenceExp ≤ n then s.encoderSilent a raised else s.setSilence a n

/-! ### The whole expiry -/

/-- What a period expiry counts, steps and completes, before the tests that may end a diversion stop. The target table counts
before the timers that may end a pointing, so a retry timer that this expiry's outcome sets is first counted at the next expiry
(R29, section 3.8). -/
def State.expiryCounts (s : State) (cell : CellRead) : State :=
  let s := s.endPeriod.tickTable.rangeTick.pointingTick
  let s := (s.stepAxis .h).stepAxis .v
  (s.ageTick.burnTick cell).jogTick.jogTest

/-- The notices that a period expiry's counts raise, from a cleared summary (log entry 37). -/
def State.expiryRaises (s : State) (cell : CellRead) : Notices := (s.clearSummary.expiryCounts cell).notices

/-- The work of a period expiry before the drive selector's choice. -/
def State.expiryWork (s : State) (cell : CellRead) (raised : Notices) : State :=
  ((s.expiryCounts cell).stopTest raised).restartTick raised

/-- The drive selector's choice and the DRIVE frames, with the encoder watch. -/
def State.expiryDrives (s : State) (raised : Notices) : State :=
  let s := s.chooseAtExpiry.formDrives
  let heldH := decide ((s.axis .h).motion = .held)
  let heldV := decide ((s.axis .v).motion = .held)
  (s.watchEncoder .h heldH raised).watchEncoder .v heldV raised

/-- A period expiry (R1; the order of its work is that of log entry 4). -/
def State.periodExpires (s : State) (cell : CellRead) : State :=
  let raised := s.expiryRaises cell
  (((s.expiryWork cell raised).expiryDrives raised).wrapUpWith raised).recordMayGo s.restarting

/-! ### Occurrences as events of their own (log entries 2 and 3) -/

/-- A countdown expiry of an entry that is counted down (R27). -/
def State.countdownExpires (s : State) (n : Nat) : State :=
  if (s.entry n).countsDown ∧ n < s.entries.length then
    let t := (s.entry n).countdownExpiry (s.engaged n)
    let s := s.setEntry n t.entry
    let s := if t.overrun then s.raise .overrun (some n) else s
    (if t.handed then s.enqueue [n] else s).wrapUp
  else s

/-- A retry timer of an entry in BACKOFF runs out (R29). -/
def State.retryExpires (s : State) (n : Nat) : State :=
  if (s.entry n).state = .backoff ∧ n < s.entries.length then
    ((s.setEntry n (s.entry n).retryExpiry).enqueue [n]).wrapUp
  else s

/-- The settle timeout of a pointing in SETTLE (R64). -/
def State.settleTimesOut (s : State) : State :=
  match s.pen.pointing with
  | some p => if p.phase = .settle ∧ ¬p.frozen then (s.failPointing .unsettled).wrapUp else s
  | none => s

/-- Detector silence in a watched phase (R78). -/
def State.detectorSilent (s : State) : State :=
  match s.pen.pointing with
  | some p => if p.phase.watched ∧ ¬p.frozen then (s.failPointing .nosensor).wrapUp else s
  | none => s

/-- The range timeout of a shot that awaits its range (R119). -/
def State.rangeTimesOut (s : State) : State :=
  match s.pen.shot with
  | some { id := _, stage := .awaitingRange _ } => (s.retryOr .norange).wrapUp
  | _ => s

/-- The track timer of a pointing in FOLLOW runs out (R75). -/
def State.trackExpires (s : State) : State :=
  match s.pen.pointing with
  | some p =>
    if p.phase = .follow ∧ ¬p.frozen ∧ p.dwell ≠ some 0 then
      ((s.setPointing (some { p with track := some 0 })).trackRunsOut).wrapUp
    else s
  | none => s

/-- The dwell of a pointing in FOLLOW runs out (R76). -/
def State.dwellExpires (s : State) : State :=
  match s.pen.pointing with
  | some p =>
    if p.phase = .follow ∧ ¬p.frozen then ((s.setPointing (some { p with dwell := some 0 })).dwellRunsOut).wrapUp else s
  | none => s

/-- The jog lease expires (R140). -/
def State.leaseExpires (s : State) : State :=
  match s.dsl.jog with
  | .leased _ speed => (s.stopJog speed).wrapUp
  | _ => s

/-- The burn in progress completes (R170). -/
def State.burnCompletes (s : State) (cell : CellRead) : State :=
  match s.scs.burn with
  | some b => (s.completeBurn b cell).autoResumeTest.wrapUp
  | none => s

/-- Tilt-stale is set (R12). DESIGN CHOICE (log entry 44): as a command of its own the row sets the flag alone and leaves the tilt
age as it stands, where log entry 2 brings the count of other events to the value they name (SOURCE_STALE sets age 2,000). -/
def State.tiltGoesStale (s : State) : State := { s with aru := { s.aru with tiltStale := true } }

/-- A temperature source that has gone stale (R143). -/
def TempSource.goesStale (x : TempSource) : TempSource := { x with age := 2000, stale := true }

/-- A source goes stale; the jitter never does (R143). -/
def State.sourceGoesStale (s : State) : DerateSource → State
  | .instrTemp => { s with sdu := { s.sdu with instrTemp := s.sdu.instrTemp.goesStale } }
  | .driveHTemp =>
    { s with sdu := { s.sdu with driveTemp := s.sdu.driveTemp.set .h s.sdu.driveTemp.h.goesStale } }
  | .driveVTemp =>
    { s with sdu := { s.sdu with driveTemp := s.sdu.driveTemp.set .v s.sdu.driveTemp.v.goesStale } }
  | .tiltJitter => s

/-- Encoder silence of an axis that is not held (R153). -/
def State.encoderFallsSilent (s : State) (a : Axis) : State :=
  if (s.axis a).motion = .held then s else (s.encoderSilent a clearNotices).wrapUp

/-- The restart timeout of a restart stop with an axis still in motion (R161). -/
def State.restartTimesOut (s : State) : State :=
  if s.restarting ∧ ¬s.axesStill then (s.restartExpires clearNotices).wrapUp.beginObs else s

/-- An axis in motion arrives at its setpoint (R94). -/
def State.axisArrives (s : State) (a : Axis) : State :=
  let r := s.axis a
  if r.inMotion then
    ((s.setAxis a { r with p := some r.target, s := 0, motion := .still }).reportArrival a r.requester).wrapUp
  else s

/-- The settle test in progress completes at a sample (R95, R63). -/
def State.settleCompletes (s : State) (time : Int) : State :=
  if s.apg.settle.isSome then s.settled time else s

/-- A diversion stop that is complete (R150). -/
def State.stopCompletes (s : State) : State := if s.stopComplete then s.wrapUp else s

/-- Both raw values of a waiting capture are found: a value kept already stands, and the others are those given (R126). -/
def State.captureCompletes (s : State) (rawH rawV : Int) : State :=
  match s.pen.shot with
  | some { id := _, stage := .awaitingAngles c } =>
    (s.completeCapture c (c.found.h.getD rawH) (c.found.v.getD rawV)).wrapUp
  | _ => s

/-- The automatic resume, where its conditions hold (R152). -/
def State.resumesItself (s : State) : State := s.autoResumeTest.examineDispatch

/-- Level loss of a level instrument (R151). -/
def State.levelIsLost (s : State) : State := if s.dvc.level = .level then s.loseLevel.wrapUp else s

/-- Level regained by an instrument that has lost it (R151). -/
def State.levelIsRegained (s : State) : State := if s.dvc.level = .lost then s.regainLevel.wrapUp else s

/-- Site time passes from 2^48 − 1 to 0, with the move of every capture time held (R175). The µs of the wrap counts in the present
control period. DESIGN CHOICE (log entry 43): taken where 1,000 µs of the period have passed and its PERIOD_EXPIRY has not been
taken, that µs passes too, so `periodUs` is 1,001 and that period lasts 1,001 µs (against R1's 1,000). -/
def State.siteTimeWraps (s : State) : State :=
  if s.stc.siteTime + 1 = Config.siteTimeModulus then s.advanceBy 1 else s

end Sys2Proof.Machine
end

