-- ==== Sys2Proof/Machine/Events.lean ====
section
/-! DEFINITION. The meanings of the period expiry and the part's own events. -/

namespace Sys2Proof.Machine

open Sys2Proof

/-- The end of a control period (R1). -/
def execPeriodExpiry (cell : CellRead) (s : State) : Host.Outcome State Fault Refusal :=
  .next (s.periodExpires cell)

/-- A countdown expiry (R27, R28). -/
def execCountdownExpiry (entry : Nat) (s : State) : Host.Outcome State Fault Refusal :=
  .next (s.countdownExpires entry)

/-- A retry timer expiry (R29). -/
def execRetryTimerExpiry (entry : Nat) (s : State) : Host.Outcome State Fault Refusal :=
  .next (s.retryExpires entry)

/-- The settle timeout (R64). -/
def execSettleTimeout (s : State) : Host.Outcome State Fault Refusal :=
  .next s.settleTimesOut

/-- Detector silence (R78). -/
def execDetectorSilence (s : State) : Host.Outcome State Fault Refusal :=
  .next s.detectorSilent

/-- The range timeout (R119, R121). -/
def execRangeTimeout (s : State) : Host.Outcome State Fault Refusal :=
  .next s.rangeTimesOut

/-- The track timer reaches 0 (R75). -/
def execTrackTimerExpiry (s : State) : Host.Outcome State Fault Refusal :=
  .next s.trackExpires

/-- The dwell runs out (R76). -/
def execDwellExpiry (s : State) : Host.Outcome State Fault Refusal :=
  .next s.dwellExpires

/-- The jog lease expires (R140). -/
def execLeaseExpiry (s : State) : Host.Outcome State Fault Refusal :=
  .next s.leaseExpires

/-- A burn completes and is verified (R170). -/
def execBurnCompletion (cell : CellRead) (s : State) : Host.Outcome State Fault Refusal :=
  .next (s.burnCompletes cell)

/-- Tilt-stale is set (R12). -/
def execTiltStaleSet (s : State) : Host.Outcome State Fault Refusal :=
  .next s.tiltGoesStale

/-- A derating source goes stale (R143). -/
def execSourceStale (source : DerateSource) (s : State) : Host.Outcome State Fault Refusal :=
  .next (s.sourceGoesStale source)

/-- An encoder falls silent (R153, R154). -/
def execEncoderSilence (axis : Axis) (s : State) : Host.Outcome State Fault Refusal :=
  .next (s.encoderFallsSilent axis)

/-- The restart timer runs out (R161). -/
def execRestartTimeout (s : State) : Host.Outcome State Fault Refusal :=
  .next s.restartTimesOut

/-- An axis arrives at its setpoint (R94, R62). -/
def execAxisArrival (axis : Axis) (s : State) : Host.Outcome State Fault Refusal :=
  .next (s.axisArrives axis)

/-- The settle test completes (R95, R63). -/
def execSettleCompletion (time : Int) (s : State) : Host.Outcome State Fault Refusal :=
  .next (s.settleCompletes time)

/-- A diversion stop completes (R150). -/
def execStopCompletion (s : State) : Host.Outcome State Fault Refusal :=
  .next s.stopCompletes

/-- Both values at the shot instant are found (R126 to R128). -/
def execCaptureComplete (rawH : Int) (rawV : Int) (s : State) : Host.Outcome State Fault Refusal :=
  .next (s.captureCompletes rawH rawV)

/-- The head of the due queue is dispatched when the conditions hold (R49 to R51). -/
def execDispatch (s : State) : Host.Outcome State Fault Refusal :=
  .next s.examineDispatch

/-- The automatic resume (R152). -/
def execAutomaticResume (s : State) : Host.Outcome State Fault Refusal :=
  .next s.resumesItself

/-- Level loss (R151, R152). -/
def execLevelLoss (s : State) : Host.Outcome State Fault Refusal :=
  .next s.levelIsLost

/-- Level regained (R151, R152). -/
def execLevelRegained (s : State) : Host.Outcome State Fault Refusal :=
  .next s.levelIsRegained

end Sys2Proof.Machine
end

