-- ==== Sys2Proof/Machine/Inputs.lean ====
section
/-! DEFINITION. The meanings of the inputs and the frames received on the three ports. -/

namespace Sys2Proof.Machine

open Sys2Proof

/-- A cold reset (R20, R166; the HALT line asserted as it ends takes a HALT, R156). -/
def execColdReset (s : State) : Host.Outcome State Fault Refusal :=
  .next s.coldReset

/-- The HALT line is asserted (R156). -/
def execHaltLineAsserted (us : Nat) (s : State) : Host.Outcome State Fault Refusal :=
  .next ((s.advanceTo us).haltLineRises)

/-- The HALT line goes inactive (R156, R159, R160). -/
def execHaltLineReleased (us : Nat) (s : State) : Host.Outcome State Fault Refusal :=
  let t := s.advanceTo us
  .next (t.setDvc { t.dvc with haltLine := false })

/-- An encoder sample (R124, R153). -/
def execAngleFrame (us : Nat) (axis : Axis) (raw : Int) (age : Nat) (s : State) : Host.Outcome State Fault Refusal :=
  .next (((s.advanceTo us).huntAxis).angleArrives axis raw age)

/-- A drive status report (R153, R154, R143). -/
def execDriveStatusFrame (us : Nat) (axis : Axis) (status : DriveStatus) (temp : Int) (s : State) :
    Host.Outcome State Fault Refusal :=
  .next (((s.advanceTo us).huntAxis).statusArrives axis status temp)

/-- A camera spot list (R61, R101, R53). -/
def execSpotFrame (us : Nat) (age : Nat) (spots : List Spot) (s : State) : Host.Outcome State Fault Refusal :=
  let t := (s.advanceTo us).huntSensor
  .next (t.spotArrives (t.captureTime age) spots).wrapUp

/-- A distance answer (R120, R121). -/
def execRangeFrame (us : Nat) (shotId : Nat) (age : Nat) (distance : Int) (strength : Nat) (status : RangeStatus) (s : State) :
    Host.Outcome State Fault Refusal :=
  .next ((((s.advanceTo us).huntSensor).rangeArrives shotId age distance strength status).wrapUp)

/-- A tilt sample (R11, R13, R151, R143). -/
def execTiltFrame (us : Nat) (tl : Int) (tc : Int) (overrange : Bool) (temp : Int) (s : State) :
    Host.Outcome State Fault Refusal :=
  .next (((s.advanceTo us).huntSensor).tiltArrives tl tc overrange temp)

/-- Bytes arrive on a port, and a frame with a bad CRC or an impossible length is discarded (R172, R173). -/
def execBadFrame (us : Nat) (port : Port) (bytes : List Byte) (s : State) : Host.Outcome State Fault Refusal :=
  .next (s.bytesArrive us port bytes)

/-- A controller-port frame that passed its checks enters the receive buffer (R174). -/
def execControllerFrameArrival (us : Nat) (kind : Byte) (tag : Byte) (payload : List Byte) (s : State) :
    Host.Outcome State Fault Refusal :=
  .next (s.submit us (parseRequest { us := us, tag := tag } kind payload))

end Sys2Proof.Machine
end

