-- ==== Sys2Proof/Machine/Inquiries.lean ====
section
/-! DEFINITION. The meanings of the QUERY requests. A request arrives at the receive buffer and is taken as R174 and R176 give. -/

namespace Sys2Proof.Machine

open Sys2Proof

/-- QUERY STATUS (R180). -/
def execQueryStatus (h : Hdr) (s : State) : Host.Outcome State Fault Refusal :=
  .next (s.submit h.us (.request (.queryStatus h)))

/-- QUERY TARGET (R39). -/
def execQueryTarget (h : Hdr) (entry : Nat) (s : State) : Host.Outcome State Fault Refusal :=
  .next (s.submit h.us (.request (.queryTarget h entry)))

/-- QUERY CONTEXT (R163). -/
def execQueryContext (h : Hdr) (s : State) : Host.Outcome State Fault Refusal :=
  .next (s.submit h.us (.request (.queryContext h)))

/-- QUERY NOTICES (R179). -/
def execQueryNotices (h : Hdr) (s : State) : Host.Outcome State Fault Refusal :=
  .next (s.submit h.us (.request (.queryNotices h)))

/-- QUERY SECTOR (R171). -/
def execQuerySector (h : Hdr) (axis : Nat) (s : State) : Host.Outcome State Fault Refusal :=
  .next (s.submit h.us (.request (.querySector h axis)))

/-- QUERY QUEUE (R58). -/
def execQueryQueue (h : Hdr) (s : State) : Host.Outcome State Fault Refusal :=
  .next (s.submit h.us (.request (.queryQueue h)))

end Sys2Proof.Machine
end

