-- ==== Sys2Proof/Machine/Loads.lean ====
section
/-! DEFINITION. The meanings of the table loads, and the frame of unknown kind, selector or code. A request arrives at the
receive buffer and is taken as R174 and R176 give. -/

namespace Sys2Proof.Machine

open Sys2Proof

/-- A frame of unknown kind, selector or code (R176). -/
def execUnknownRequest (h : Hdr) (s : State) : Host.Outcome State Fault Refusal :=
  .next (s.submit h.us (.request (.unknownRequest h)))

/-- LOAD TARGET (R21 to R23). -/
def execLoadTarget (h : Hdr) (entry : Nat) (load : TargetLoad) (s : State) : Host.Outcome State Fault Refusal :=
  .next (s.submit h.us (.request (.loadTarget h entry load)))

/-- LOAD STATION (R6, R38, R97, R111, R151). -/
def execLoadStation (h : Hdr) (load : StationLoad) (s : State) : Host.Outcome State Fault Refusal :=
  .next (s.submit h.us (.request (.loadStation h load)))

/-- LOAD ZENITH (R9). -/
def execLoadZenith (h : Hdr) (first : Nat) (last : Nat) (rows : List ZRow) (s : State) :
    Host.Outcome State Fault Refusal :=
  .next (s.submit h.us (.request (.loadZenith h first last rows)))

/-- LOAD SECTOR (R165). -/
def execLoadSector (h : Hdr) (axis : Nat) (sector : Nat) (mark : Nat) (value : Int) (s : State) :
    Host.Outcome State Fault Refusal :=
  .next (s.submit h.us (.request (.loadSector h axis sector mark value)))

/-- LOAD DERATE (R146). -/
def execLoadDerate (h : Hdr) (group : Nat) (load : DerateLoad) (s : State) : Host.Outcome State Fault Refusal :=
  .next (s.submit h.us (.request (.loadDerate h group load)))

end Sys2Proof.Machine
end

