-- ==== Sys2Proof/Machine/Sending.lean ====
section
/-! DEFINITION. The transmitters: what begins and ends on the controller port (R181), where a record that waits goes as soon as
the order lets it (R131), and on the axis and sensor ports (R182). -/

namespace Sys2Proof.Machine

open Sys2Proof

/-- A REPLY begins: it leaves its queue, and a buffered frame may be dispatched (R174, R181). -/
def State.beginReply (s : State) : State :=
  match s.requests.replies with
  | r :: rest =>
    if s.mayBegin .reply then
      let t := ({ s with requests := { s.requests with replies := rest } }).setSending (some (.reply r))
      t.drain t.requests.buffer.length
    else s
  | [] => s

/-- An ALERT begins with the pending set as it stands, and leaves the slot (R178). -/
def State.beginAlert (s : State) : State :=
  if s.mayBegin .alert then
    ({ s with notices := { s.notices with alertWaits := false } }).setSending (some (.alert s.notices.pendingSet))
  else s

/-- A DIRECTION frame begins and leaves its slot (R132). -/
def State.beginDirection (s : State) : State :=
  match s.reports.direction with
  | some d =>
    if s.mayBegin .direction then
      ({ s with reports := { s.reports with direction := none } }).setSending (some (.direction d))
    else s
  | none => s

/-- The controller-port transmitter is free again: an OBS frame begins if the order takes it (R131, R181). -/
def State.transmitterFree (s : State) : State := (s.setSending none).beginObs

/-- The last byte of a REPLY has gone. -/
def State.endReply (s : State) : State :=
  match s.transmit.controller with
  | some (.reply _) => s.transmitterFree
  | _ => s

/-- The last byte of an ALERT has gone. -/
def State.endAlert (s : State) : State :=
  match s.transmit.controller with
  | some (.alert _) => s.transmitterFree
  | _ => s

/-- The last byte of an OBS frame has gone: its record leaves the queue, the next may begin, and dispatch is examined (R131,
R50). -/
def State.endObs (s : State) : State :=
  match s.transmit.controller with
  | some (.obs _) =>
    State.examineDispatch
      (State.transmitterFree { s with reports := { s.reports with queue := s.reports.queue.drop 1 } })
  | _ => s

/-- The last byte of a DIRECTION frame has gone. -/
def State.endDirection (s : State) : State :=
  match s.transmit.controller with
  | some (.direction _) => s.transmitterFree
  | _ => s

/-- A DRIVE frame begins: the H slot goes first when both hold frames (R182). -/
def State.beginDrive (s : State) (a : Axis) : State :=
  match s.transmit.slots.get a with
  | some f =>
    if s.transmit.axis.isNone && (decide (a = .h) || s.transmit.slots.h.isNone) then
      { s with transmit := { s.transmit with axis := some f, slots := s.transmit.slots.set a none } }
    else s
  | none => s

/-- The last byte of a DRIVE frame of an axis has gone. -/
def State.endDrive (s : State) (a : Axis) : State :=
  match s.transmit.axis with
  | some f => if f.axis = a then { s with transmit := { s.transmit with axis := none } } else s
  | none => s

/-- A SHOT frame begins, in the order queued (R182). -/
def State.beginShot (s : State) : State :=
  match s.transmit.shots with
  | id :: rest =>
    if s.transmit.sensor.isNone then { s with transmit := { s.transmit with sensor := some id, shots := rest } } else s
  | [] => s

/-- The last byte of a SHOT frame has gone. -/
def State.endShot (s : State) : State := { s with transmit := { s.transmit with sensor := none } }

end Sys2Proof.Machine
end

