-- ==== Sys2Proof/Machine/Transmitters.lean ====
section
/-! DEFINITION. The meanings of the transmitters' events and the wrap of site time. -/

namespace Sys2Proof.Machine

open Sys2Proof

/-- A REPLY frame begins or ends (R174, R181). -/
def execReplySent (moment : SendMoment) (s : State) : Host.Outcome State Fault Refusal :=
  match moment with
  | .begins => .next s.beginReply
  | .ends => .next s.endReply

/-- An ALERT frame begins or ends (R178, R181). -/
def execAlertSent (moment : SendMoment) (s : State) : Host.Outcome State Fault Refusal :=
  match moment with
  | .begins => .next s.beginAlert
  | .ends => .next s.endAlert

/-- An OBS frame ends, or begins where one could: R131 has it begin inside the step that lets it go, so `begins` finds nothing to
do where no record stands at a free transmitter (log entry 8). -/
def execObsSent (moment : SendMoment) (s : State) : Host.Outcome State Fault Refusal :=
  match moment with
  | .begins => .next s.beginObs
  | .ends => .next s.endObs

/-- A DIRECTION frame begins or ends (R132, R181). -/
def execDirectionSent (moment : SendMoment) (s : State) : Host.Outcome State Fault Refusal :=
  match moment with
  | .begins => .next s.beginDirection
  | .ends => .next s.endDirection

/-- A DRIVE frame of an axis begins or ends (R182). -/
def execDriveFrameSent (axis : Axis) (moment : SendMoment) (s : State) : Host.Outcome State Fault Refusal :=
  match moment with
  | .begins => .next (s.beginDrive axis)
  | .ends => .next (s.endDrive axis)

/-- A SHOT frame begins or ends (R182). -/
def execShotFrameSent (moment : SendMoment) (s : State) : Host.Outcome State Fault Refusal :=
  match moment with
  | .begins => .next s.beginShot
  | .ends => .next s.endShot

/-- Site time passes from 2^48 − 1 to 0 (R175). -/
def execSiteTimeWrap (s : State) : Host.Outcome State Fault Refusal :=
  .next s.siteTimeWraps

end Sys2Proof.Machine
end

