-- ==== Sys2Proof/Machine/Dispatch.lean ====
section
/-! DEFINITION. One arm for each command: a direct call of its meaning. -/

namespace Sys2Proof.Machine

open Sys2Proof

/-- The effect of a command on everything but the queue. -/
def exec (i : Instr) (s : State) : Host.Outcome State Fault Refusal :=
  match i with
  | .coldReset => Sys2Proof.Machine.execColdReset s
  | .haltLineAsserted us => Sys2Proof.Machine.execHaltLineAsserted us s
  | .periodExpiry cell => Sys2Proof.Machine.execPeriodExpiry cell s
  | .angleFrame us axis raw age => Sys2Proof.Machine.execAngleFrame us axis raw age s
  | .driveStatusFrame us axis status temp => Sys2Proof.Machine.execDriveStatusFrame us axis status temp s
  | .spotFrame us age spots => Sys2Proof.Machine.execSpotFrame us age spots s
  | .rangeFrame us shotId age distance strength status => Sys2Proof.Machine.execRangeFrame us shotId age distance strength status s
  | .tiltFrame us tl tc overrange temp => Sys2Proof.Machine.execTiltFrame us tl tc overrange temp s
  | .badFrame us port bytes => Sys2Proof.Machine.execBadFrame us port bytes s
  | .controllerFrameArrival us kind tag payload => Sys2Proof.Machine.execControllerFrameArrival us kind tag payload s
  | .unknownRequest h => Sys2Proof.Machine.execUnknownRequest h s
  | .loadTarget h entry load => Sys2Proof.Machine.execLoadTarget h entry load s
  | .loadStation h load => Sys2Proof.Machine.execLoadStation h load s
  | .loadZenith h first last rows => Sys2Proof.Machine.execLoadZenith h first last rows s
  | .loadSector h axis sector mark value => Sys2Proof.Machine.execLoadSector h axis sector mark value s
  | .loadDerate h group load => Sys2Proof.Machine.execLoadDerate h group load s
  | .start h => Sys2Proof.Machine.execStart h s
  | .stop h => Sys2Proof.Machine.execStop h s
  | .aim h entry => Sys2Proof.Machine.execAim h entry s
  | .pause h => Sys2Proof.Machine.execPause h s
  | .halt h => Sys2Proof.Machine.execHalt h s
  | .resume h => Sys2Proof.Machine.execResume h s
  | .clear h => Sys2Proof.Machine.execClear h s
  | .abandon h => Sys2Proof.Machine.execAbandon h s
  | .jog h speedH speedV => Sys2Proof.Machine.execJog h speedH speedV s
  | .park h => Sys2Proof.Machine.execPark h s
  | .settime h t => Sys2Proof.Machine.execSettime h t s
  | .suspend h entry => Sys2Proof.Machine.execSuspend h entry s
  | .restore h entry => Sys2Proof.Machine.execRestore h entry s
  | .key h k => Sys2Proof.Machine.execKey h k s
  | .burn h axis sector value => Sys2Proof.Machine.execBurn h axis sector value s
  | .restart h => Sys2Proof.Machine.execRestart h s
  | .queryStatus h => Sys2Proof.Machine.execQueryStatus h s
  | .queryTarget h entry => Sys2Proof.Machine.execQueryTarget h entry s
  | .queryContext h => Sys2Proof.Machine.execQueryContext h s
  | .queryNotices h => Sys2Proof.Machine.execQueryNotices h s
  | .querySector h axis => Sys2Proof.Machine.execQuerySector h axis s
  | .queryQueue h => Sys2Proof.Machine.execQueryQueue h s
  | .countdownExpiry entry => Sys2Proof.Machine.execCountdownExpiry entry s
  | .retryTimerExpiry entry => Sys2Proof.Machine.execRetryTimerExpiry entry s
  | .settleTimeout => Sys2Proof.Machine.execSettleTimeout s
  | .detectorSilence => Sys2Proof.Machine.execDetectorSilence s
  | .rangeTimeout => Sys2Proof.Machine.execRangeTimeout s
  | .trackTimerExpiry => Sys2Proof.Machine.execTrackTimerExpiry s
  | .dwellExpiry => Sys2Proof.Machine.execDwellExpiry s
  | .leaseExpiry => Sys2Proof.Machine.execLeaseExpiry s
  | .burnCompletion cell => Sys2Proof.Machine.execBurnCompletion cell s
  | .tiltStaleSet => Sys2Proof.Machine.execTiltStaleSet s
  | .sourceStale source => Sys2Proof.Machine.execSourceStale source s
  | .encoderSilence axis => Sys2Proof.Machine.execEncoderSilence axis s
  | .restartTimeout => Sys2Proof.Machine.execRestartTimeout s
  | .axisArrival axis => Sys2Proof.Machine.execAxisArrival axis s
  | .settleCompletion time => Sys2Proof.Machine.execSettleCompletion time s
  | .stopCompletion => Sys2Proof.Machine.execStopCompletion s
  | .captureComplete rawH rawV => Sys2Proof.Machine.execCaptureComplete rawH rawV s
  | .dispatch => Sys2Proof.Machine.execDispatch s
  | .automaticResume => Sys2Proof.Machine.execAutomaticResume s
  | .levelLoss => Sys2Proof.Machine.execLevelLoss s
  | .levelRegained => Sys2Proof.Machine.execLevelRegained s
  | .replySent moment => Sys2Proof.Machine.execReplySent moment s
  | .alertSent moment => Sys2Proof.Machine.execAlertSent moment s
  | .obsSent moment => Sys2Proof.Machine.execObsSent moment s
  | .directionSent moment => Sys2Proof.Machine.execDirectionSent moment s
  | .haltLineReleased us => Sys2Proof.Machine.execHaltLineReleased us s
  | .siteTimeWrap => Sys2Proof.Machine.execSiteTimeWrap s
  | .driveFrameSent axis moment => Sys2Proof.Machine.execDriveFrameSent axis moment s
  | .shotFrameSent moment => Sys2Proof.Machine.execShotFrameSent moment s

end Sys2Proof.Machine
end

