-- ==== Sys2Proof/Safety.lean ====
section
/-! DEFINITION. The laws of the part, as what holds of a state between two commands: sizes and bounds (R20, R167, R174, R177),
the V setpoints inside the window (law 3; R88), the due queue's numbers (law 4; R44), at most one shot and one reservation
(laws 5 and 6; R59, R72, R130), the critical record's place (law 7; R148), no soft correction under a fixed slot (law 8; R164),
and HOLD while diverted (law 10; R134). -/

namespace Sys2Proof.Machine

open Sys2Proof

/-- What of the state only a few commands change: the queue of commands, the station block, ARU's state, the soft
corrections, the fixed slots, the burn in progress, the receive buffer with the reply queue, and the link interface's
receivers and counts. -/
structure Base where
  pending : List Instr
  station : Station
  aru : Aru
  soft : PerAxis (List (Option Int))
  slots : PerAxis (List Slot)
  burn : Option Burn
  requests : Requests
  link : Link
  deriving DecidableEq, Repr

/-- The base of a state. -/
def State.base (s : State) : Base :=
  { pending := s.pending, station := s.station, aru := s.aru, soft := s.scs.soft, slots := s.scs.slots,
    burn := s.scs.burn, requests := s.requests, link := s.link }

/-- A controller-port frame that arrives is dispatched at once: no frame waits and the reply queue has a place (R174). -/
def State.takesRequests (s : State) : Prop :=
  s.requests.buffer = [] ∧ s.requests.replies.length < Config.replyPlaces

/-- A reply queued after a request's effects, with the guard progress it leaves (R167, R176). -/
def State.answered (s : State) (tag : Byte) (code : ResultCode) (body : List Byte) (guard : Nat) : State :=
  { s with
    requests := { s.requests with replies := s.requests.replies ++ [{ tag := tag, code := code, body := body }] }
    scs := { s.scs with guard := guard } }

/-- A reply queued after a request other than KEY, which breaks a guard sequence (R167). -/
def State.replied (s : State) (tag : Byte) (code : ResultCode) (body : List Byte) : State := s.answered tag code body 0

/-- The part at rest: RUN with the scheduler STOPPED, no pointing, shot, settle test or jog, both encoders seen, and both
axes STILL with PARK selected. -/
structure State.AtRest (s : State) : Prop where
  run : s.dvc.state = .run
  stopped : s.osc.mode = .stopped
  noPointing : s.pen.pointing = none
  noShot : s.pen.shot = none
  noSettle : s.apg.settle = none
  noJog : s.dsl.jog = .none
  parked : s.dsl.selected = both .park
  noHold : s.dsl.restartHold = both false
  still : ∀ a, (s.axis a).motion = .still
  seen : ∀ a, (s.latestRaw a).isSome

/-- A pointing goes on undisturbed: RUN with the scheduler STOPPED, no jog, both encoders seen, AIM selected for both axes and
neither of them held. -/
structure State.InFlight (s : State) (p : Pointing) : Prop where
  run : s.dvc.state = .run
  stopped : s.osc.mode = .stopped
  pointing : s.pen.pointing = some p
  live : p.frozen = false
  noJog : s.dsl.jog = .none
  aimed : s.dsl.selected = both .aim
  noHold : s.dsl.restartHold = both false
  free : ∀ a, (s.axis a).motion ≠ .held
  seen : ∀ a, (s.latestRaw a).isSome

/-- A pointing stands frozen in a PAUSE or LEVEL stop (R80, R149, R152): no jog, both encoders seen, AIM selected for both axes,
neither of them held, and each STILL or on its way to the stop point that the diversion controller ordered. -/
structure State.Frozen (s : State) (p : Pointing) : Prop where
  stopping : s.dvc.state = .stopping
  cause : s.dvc.cause = .pause ∨ s.dvc.cause = .level
  pointing : s.pen.pointing = some p
  frozen : p.frozen = true
  noJog : s.dsl.jog = .none
  aimed : s.dsl.selected = both .aim
  noHold : s.dsl.restartHold = both false
  stops : ∀ a, (s.axis a).motion = .still ∨ ((s.axis a).inMotion = true ∧ (s.axis a).requester = .diversion)
  seen : ∀ a, (s.latestRaw a).isSome

/-- A stop goes on waiting: an axis is in motion or a shot is in hand (R150). -/
def State.stopWaits (s : State) : Prop := (∃ a, (s.axis a).inMotion = true) ∨ s.pen.shot ≠ none

/-- DVC in HELD, the part at rest: no pointing or jog, both encoders seen, and both axes STILL with PARK selected. -/
structure State.HeldAtRest (s : State) : Prop where
  held : s.dvc.state = .held
  noPointing : s.pen.pointing = none
  noJog : s.dsl.jog = .none
  parked : s.dsl.selected = both .park
  noHold : s.dsl.restartHold = both false
  still : ∀ a, (s.axis a).motion = .still
  seen : ∀ a, (s.latestRaw a).isSome

/-- CRITICAL, HALTED or LOCKOUT, with HOLD selected for both axes and no jog (R134). -/
structure State.HoldsAtRest (s : State) : Prop where
  holds : s.dvc.state = .critical ∨ s.dvc.state = .halted ∨ s.dvc.state = .lockout
  held : s.dsl.selected = both .hold
  noJog : s.dsl.jog = .none

/-- Nothing waits for the end of an event: the part is at rest in RUN, HELD, CRITICAL, HALTED or LOCKOUT, a pointing is in flight
with the scheduler STOPPED, or a pointing stands frozen in a stop that goes on. -/
def State.Steady (s : State) : Prop :=
  s.AtRest ∨ (∃ p, s.InFlight p) ∨ (∃ p, s.Frozen p ∧ s.stopWaits) ∨ s.HeldAtRest ∨ s.HoldsAtRest

/-- What an outcome leaves at the target table, where no definition is pending there (R31 to R35, R25): the outcome at the entry
`n`, with the direction update of a TRACK entry; the next state of the entry of a scheduled pointing, and no change of state for
a one-off one, whose engagement ends; the outcome's notice and then that of a suspension; and the number handed over. -/
def State.afterOutcome (s : State) (n : Nat) (kind : PointingKind) (o : Verdict) : State :=
  let e := s.entry n
  let d :=
    match e.lastSummary with
    | some x =>
      if e.definition.kind = .track ∧ (o = .done ∨ o = .partialDone) then
        { e.definition with hz := x.hz, v := if x.v < 262144 then 262144 else if 8126464 < x.v then 8126464 else x.v }
      else e.definition
    | none => e.definition
  let seen : Entry := { e with lastOutcome := some o, definition := d }
  let m : EntryMove :=
    match kind with
    | .scheduled => seen.afterOutcome s.station.n o
    | .oneOff => { entry := { seen with deferred := false }, handed := e.deferred, suspended := false }
  let t : State := { s with entries := s.entries.set n m.entry }
  let u :=
    match o with
    | .crowded => t.raise .crowded (some n)
    | .mismatch => t.raise .mismatch (some n)
    | .unsettled => t.raise .unsettled (some n)
    | .nosensor => t.raise .detectorSilent (some n)
    | .norange => t.raise .rangerSilent (some n)
    | _ => t
  let v := if m.suspended then u.raise .suspended (some n) else u
  if m.handed then v.enqueue [n] else v

/-- What an ABANDONED outcome leaves at the target table (R34, R24): a pending definition is applied in place of the outcome's own
transition. -/
def State.afterAbandoned (s : State) (n : Nat) (kind : PointingKind) : State :=
  match (s.entry n).pendingDef with
  | some d =>
    let e : Entry :=
      { definition := if d.kind = .noKind then zeroDefinition else d,
        state := if d.kind = .noKind then .empty else if d.enable then .armed else .disabled,
        countdown := if d.kind ≠ .noKind ∧ d.enable = true then d.offset else 0, retry := none, misses := 0, overruns := 0,
        deferred := false, pendingDef := none, lastOutcome := none, lastSummary := none }
    { s with entries := s.entries.set n e }
  | none => s.afterOutcome n kind .abandoned

/-- What the end of a pointing leaves where both axes are STILL, the scheduler is STOPPED and the entry has no pending definition
(R79): no pointing, shot and settle test; PARK; detector-ready no after NOSENSOR; and the outcome at the target table. -/
def State.afterEnd (s : State) (p : Pointing) (o : Verdict) : State :=
  State.afterOutcome
    { s with
      pen := { s.pen with pointing := none, shot := none }
      apg := { s.apg with settle := none }
      osc := { s.osc with detectorReady := s.osc.detectorReady && decide (o ≠ .nosensor) }
      dsl := { s.dsl with selected := both .park } }
    p.target p.kind o

/-- What the end of an event leaves of a PAUSE stop with no shot in hand (R150, R81): the stop goes on while an axis is in motion.
With both STILL, DVC enters HELD with resume mode COMMAND and an ordinary context of the pointing in flight, if one is left; no
pointing or settle test remains, and PARK is selected. -/
def State.pauseEnds (s : State) : State :=
  if (s.axis .h).inMotion = true ∨ (s.axis .v).inMotion = true then s
  else
    { s with
      pen := { s.pen with pointing := none }
      apg := { s.apg with settle := none }
      dsl := { s.dsl with selected := both .park }
      dvc :=
        { s.dvc with
          state := .held, resumeMode := some .command,
          ordinary :=
            some
              { target := s.pen.pointing.map (·.target), part := s.pen.pointing.map (·.part), cause := s.dvc.cause,
                recoverable := true, savedAt := s.stc.siteTime } } }

/-- What the end of a frozen pointing in a PAUSE stop leaves, where its entry has no pending definition (R79, R80, R150): no
pointing, shot and settle test; each axis in motion stopped under control for no block, and PARK for one at rest; the outcome at
the target table; and, with both axes STILL, the stop complete with no target to save. -/
def State.afterFrozenEnd (s : State) (p : Pointing) (o : Verdict) : State :=
  let stopped := fun a : Axis => if (s.axis a).inMotion = true then ((s.axis a).controlledStop a .nobody).axis else s.axis a
  let source := fun a : Axis => if (stopped a).inMotion = true then Source.aim else .park
  State.pauseEnds
    (State.afterOutcome
      { s with
        pen := { s.pen with pointing := none, shot := none }
        apg := { axes := { h := stopped .h, v := stopped .v }, settle := none }
        dsl := { s.dsl with selected := { h := source .h, v := source .v } } }
      p.target p.kind o)

/-- A pointing may end in peace: it is in flight, both axes are STILL and its entry has no pending definition. -/
structure State.MayEnd (s : State) (p : Pointing) : Prop where
  flight : s.InFlight p
  still : ∀ a, (s.axis a).motion = .still
  unpended : (s.entry p.target).pendingDef = none

/-- The reply queue holds at most 8 frames and the receive buffer at most 4 (R174). -/
def State.portsBounded (s : State) : Prop :=
  s.requests.replies.length ≤ Config.replyPlaces ∧ s.requests.buffer.length ≤ Config.receivePlaces

/-- Every table has its size: 64 entries (R20), 16 notice records (R177), 33 zenith rows (R8), 4 derate groups (R144), 32
soft corrections and 32 fixed slots of each axis (R164, R166). -/
def State.tablesWhole (s : State) : Prop :=
  s.entries.length = Config.entries ∧ s.notices.records.length = 16 ∧ s.aru.zenith.length = 33
    ∧ s.sdu.groups.length = 4 ∧ s.scs.soft.h.length = 32 ∧ s.scs.soft.v.length = 32 ∧ s.scs.slots.h.length = 32
    ∧ s.scs.slots.v.length = 32

/-- The guard progress is a number from 0 to 4 (R167). -/
def State.guardBounded (s : State) : Prop := s.scs.guard ≤ 4

/-- Law 8: a sector whose fixed slot is FIXED has no soft correction (R164). -/
def Scs.lawEight (c : Scs) : Prop :=
  ∀ (a : Axis) (n : Nat) (x : Int), (c.slots.get a).getD n .blank = .fixed x → (c.soft.get a).getD n none = none

/-- A pointing stands only in RUN, or frozen in a PAUSE or LEVEL stop. -/
def State.pointingPlaced (s : State) : Prop :=
  ∀ p, s.pen.pointing = some p →
    s.dvc.state = .run ∨ (s.dvc.state = .stopping ∧ s.dvc.cause ≠ .restart ∧ p.frozen = true)

/-- A shot in hand belongs to a pointing that holds a reservation (R72). -/
def State.shotReserved (s : State) : Prop :=
  s.pen.shot.isSome → (s.pen.pointing.map (·.reservation)).getD false = true

/-- No record waits at a controller-port transmitter that is free for it: where the transmitter is free and the report queue holds
a record, a REPLY or an ALERT stands before it (R131, R181). -/
def State.recordsGo (s : State) : Prop := s.transmit.controller = none → s.firstSource ≠ some .obs

/-- Laws 5 and 6: a shot has a pointing and a reservation, and records held plus slots reserved never exceed 32 (R59, R130). -/
def State.shotLaw (s : State) : Prop :=
  s.occupancy ≤ Config.reportSlots ∧ s.shotReserved ∧ s.pointingPlaced

/-- A DRIVE frame of an axis with mode HOLD. -/
def DriveFrame.holds (f : DriveFrame) : Bool := decide (f.mode = .hold)

/-- An axis has HOLD selected exactly when APG holds it, and then its waiting frame has mode HOLD and no POSITION frame of it
is being sent (R92, R134). -/
def State.axisHeldLaw (s : State) (a : Axis) : Prop :=
  (s.dsl.selected.get a = .hold ↔ (s.axis a).motion = .held)
    ∧ (∀ f, s.transmit.slots.get a = some f → f.axis = a)
    ∧ (s.dsl.selected.get a = .hold →
        (∀ f, s.transmit.slots.get a = some f → f.mode = .hold)
          ∧ ∀ f, s.transmit.axis = some f → f.axis = a → f.mode = .hold)

/-- Law 10: while DVC is in CRITICAL, HALTED or LOCKOUT, both axes are held (R134). -/
def State.holdLaw (s : State) : Prop :=
  (∀ a, s.axisHeldLaw a) ∧ (s.dvc.state.holds = true → ∀ a, s.dsl.selected.get a = .hold)

/-- Law 7: the critical record is occupied in CRITICAL, and otherwise only in LOCKOUT (R148). -/
def State.criticalLaw (s : State) : Prop :=
  (s.dvc.state = .critical → s.dvc.critical.isSome)
    ∧ (s.dvc.critical.isSome → s.dvc.state = .critical ∨ s.dvc.state = .lockout)

/-- Law 2 (R87): no axis has a commanded speed above the maximum it holds for its move, and an axis at rest or held has none. -/
def State.speedLaw (s : State) : Prop :=
  ∀ a, (s.axis a).s ≤ (s.axis a).vmax ∧ (((s.axis a).motion = .still ∨ (s.axis a).motion = .held) → (s.axis a).s = 0)

/-- The due queue is in order: no number stands before one that R46 puts ahead of it. -/
def State.queueOrdered (s : State) : Prop := s.osc.queue.Pairwise fun a b => b.before a = false

/-- The entry `n` is the target of a pointing part of this kind: of the pointing in flight or of a saved context. -/
def State.holdsAt (s : State) (n : Nat) (kind : PointingKind) : Prop :=
  (∃ p, s.pen.pointing = some p ∧ p.target = n ∧ p.kind = kind)
    ∨ (∃ c x, s.dvc.ordinary = some c ∧ c.target = some n ∧ c.part = some x ∧ x.kind = kind)
    ∨ ∃ r x, s.dvc.critical = some r ∧ r.context.target = some n ∧ r.context.part = some x ∧ x.kind = kind

/-- At most one pointing is in flight or saved, and where (R148, R154): a pointing in flight stands in RUN or in a stop; RUN, HALTED
and the stops of PAUSE and LEVEL have no context; HELD has no critical record; a target is saved with its pointing part and a part
with its target, but for a critical record from HELD, which names the target of the ordinary context and has no part; any other
critical record stands alone, and one from HALTED, where no pointing was left to save, names no target and has no part. -/
structure State.OneVisit (s : State) : Prop where
  flying : s.pen.pointing.isSome → s.dvc.state = .run ∨ (s.dvc.state = .stopping ∧ s.dvc.cause ≠ .restart)
  free : s.dvc.state = .run ∨ s.dvc.state = .halted ∨ (s.dvc.state = .stopping ∧ s.dvc.cause ≠ .restart) →
    s.dvc.ordinary = none ∧ s.dvc.critical = none
  held : s.dvc.state = .held → s.dvc.critical = none
  ordinary : ∀ c, s.dvc.ordinary = some c → (c.target.isSome ↔ c.part.isSome)
  fromHeld : ∀ r, s.dvc.critical = some r → r.priorState = .held →
    r.context.part = none ∧ r.context.target = s.dvc.ordinary.bind (·.target)
  alone : ∀ r, s.dvc.critical = some r → r.priorState ≠ .held →
    s.dvc.ordinary = none ∧ (r.context.target.isSome ↔ r.context.part.isSome)
  fromHalted : ∀ r, s.dvc.critical = some r → r.priorState = .halted → r.context.target = none ∧ r.context.part = none

/-- Law 4 (R44, R25): no number stands twice in the due queue, nor there and as the target of the pointing in flight or of a saved
context; every number queued belongs to a DUE entry whose deferred flag is no, and every such entry has its number there. The
entry of a scheduled pointing in flight or saved is ACTIVE; an engaged entry is neither ACTIVE nor in BACKOFF, and DUE only with
deferred set; deferred is set only in a DUE entry that is engaged. -/
structure State.QueueLaw (s : State) : Prop where
  once : (s.osc.queue.map (·.target)).Nodup
  apart : ∀ x ∈ s.osc.queue, (∀ p, s.pen.pointing = some p → p.target ≠ x.target)
    ∧ (∀ c, s.dvc.ordinary = some c → c.target ≠ some x.target)
    ∧ ∀ r, s.dvc.critical = some r → r.context.target ≠ some x.target
  queued : ∀ n, (∃ x ∈ s.osc.queue, x.target = n) ↔ (s.entry n).state = .due ∧ (s.entry n).deferred = false
  active : ∀ n, s.holdsAt n .scheduled → (s.entry n).state = .active
  engaged : ∀ n, s.holdsAt n .oneOff →
    (s.entry n).state ≠ .active ∧ (s.entry n).state ≠ .backoff ∧ ((s.entry n).state = .due → (s.entry n).deferred = true)
  deferred : ∀ n, (s.entry n).deferred = true → (s.entry n).state = .due ∧ s.holdsAt n .oneOff
  visit : s.OneVisit

/-- Law 3 (R88, R97): the window is not empty, a V setpoint waits only while the axis is HELD, and every V setpoint that a retarget
has handed and that still stands lies inside the window: one that waits, one of the pointing engine on its way, and one of a jog
lease with a V speed on its way. A controlled stop's setpoint is the stop point, which no window binds. -/
structure State.WindowLaw (s : State) : Prop where
  window : s.station.n.vMin ≤ s.station.n.vMax
  waiting : ∀ w, (s.axis .v).waiting = some w →
    (s.axis .v).motion = .held ∧ s.station.n.vMin ≤ w.setpoint ∧ w.setpoint ≤ s.station.n.vMax
  onTheWay : ∀ x, (s.axis .v).inMotion = true → (s.axis .v).setpoint = some x →
    ((s.axis .v).requester = .pointing
        ∨ ((s.axis .v).requester = .jog ∧ ∃ n speed, s.dsl.jog = .leased n speed ∧ speed.v ≠ 0)) →
    s.station.n.vMin ≤ x ∧ x ≤ s.station.n.vMax

/-- The bytes of a 2-byte field, most significant first (R183). -/
def bytes2 (x : BitVec 16) : List Byte := [x.extractLsb' 8 8, x.extractLsb' 0 8]

/-- The bytes of a 3-byte field, most significant first (R183). -/
def bytes3 (x : BitVec 24) : List Byte := x.extractLsb' 16 8 :: bytes2 (x.extractLsb' 0 16)

/-- The bytes of a 4-byte field, most significant first (R183). -/
def bytes4 (x : BitVec 32) : List Byte := bytes2 (x.extractLsb' 16 16) ++ bytes2 (x.extractLsb' 0 16)

/-- The bytes of a 6-byte field, most significant first (R183). -/
def bytes6 (x : BitVec 48) : List Byte := bytes3 (x.extractLsb' 24 24) ++ bytes3 (x.extractLsb' 0 24)

/-- A LOAD or COMMAND request of the controller port (R155, R176). -/
def isOrder : Instr → Bool
  | .loadTarget _ _ _ | .loadStation _ _ | .loadZenith _ _ _ _ | .loadSector _ _ _ _ _ | .loadDerate _ _ _ | .start _
  | .stop _ | .aim _ _ | .pause _ | .halt _ | .resume _ | .clear _ | .abandon _ | .jog _ _ _ | .park _ | .settime _ _
  | .suspend _ _ | .restore _ _ | .key _ _ | .burn _ _ _ _ | .restart _ => true
  | _ => false

/-- A QUERY request of the controller port (R176). -/
def isQuery : Instr → Bool
  | .queryStatus _ | .queryTarget _ _ | .queryContext _ | .queryNotices _ | .querySector _ _ | .queryQueue _ => true
  | _ => false

/-- An axis as a cold reset leaves it (R83, R133, R135). -/
structure State.ColdAxis (s : State) (a : Axis) : Prop where
  position : (s.axis a).p = none
  speed : (s.axis a).s = 0
  direction : (s.axis a).dir = .plus
  setpoint : (s.axis a).setpoint = none
  motion : (s.axis a).motion = .held
  limits : (s.axis a).vmax = 8192 ∧ (s.axis a).acc = 64
  requester : (s.axis a).requester = .nobody
  waiting : (s.axis a).waiting = none
  selected : s.dsl.selected.get a = .hold
  history : s.scu.history.get a = []
  report : s.dvc.report.get a = .none
  silence : s.dvc.silenceAge.get a = 0
  slot : s.transmit.slots.get a = none
  temperature : s.sdu.driveTemp.get a = { value := none, age := 0, stale := true }
  soft : s.scs.soft.get a = List.replicate 32 none

/-- The values the spec gives a cold reset, beside DVC's state and cause, the fixed slots and the HALT line (R7, R8, R11 to
R13, R20, R41, R47, R59, R100, R117, R128, R130, R132, R136, R143, R144, R147, R154, R167, R169, R172 to R177, R181, R182). -/
structure State.Cold (s : State) : Prop where
  axes : ∀ a, s.ColdAxis a
  time : s.stc.siteTime = 0
  receivers : s.link = { rxAxis := [], rxSensor := [], rxController := [], errAxis := 0, errSensor := 0, errController := 0 }
  requests : s.requests = { buffer := [], replies := [] }
  notices : s.notices.records = List.replicate 16 { pending := false, count := 0, lastTarget := none }
    ∧ s.notices.alertWaits = false
  reports : s.reports = { queue := [], nextSequence := 0, feedCount := 0, direction := none }
  transmitters : s.transmit.controller = none ∧ s.transmit.axis = none ∧ s.transmit.sensor = none ∧ s.transmit.shots = []
  entries : s.entries = List.replicate 64 emptyEntry
  scheduler : s.osc = { mode := .stopped, queue := [], counter := 0, detectorReady := true, suspect := false }
  pointing : s.pen.pointing = none ∧ s.pen.shot = none ∧ s.pen.nextShotId = 0 ∧ s.pen.lateRanges = 0
    ∧ s.pen.retriesClosed = false
  counters : s.squ = { acquire := 0, lock := 0, loss := 0, ambiguity := 0, centre := 0, previous := none, last := none }
  station : s.station = coldStation
  zenith : s.aru.zenith = List.replicate 33 { s := 4096, k := 0 }
  tilt : s.aru.tilt = none ∧ s.aru.tiltAge = 0 ∧ s.aru.tiltStale = true ∧ s.aru.jitterSteps = [] ∧ s.aru.jitter = 0
  settle : s.apg.settle = none
  jog : s.dsl.jog = .none
  instrument : s.sdu.instrTemp = { value := none, age := 0, stale := true }
  groups : s.sdu.groups =
    List.replicate 4
      { definition := { enable := false, source := .instrTemp, high := 0, low := 0, n := 0, mode := .f8 }, active := false }
  diversion : s.dvc.resumeMode = none ∧ s.dvc.ordinary = none ∧ s.dvc.critical = none ∧ s.dvc.restartTimer = none
  level : s.dvc.level = .level ∧ s.dvc.beyond = 0 ∧ s.dvc.within = 0
  faults : s.dvc.lockoutFaults = 0
  guardStart : s.scs.guard = 0
  burn : s.scs.burn = none

end Sys2Proof.Machine
end

