-- ==== Sys2Proof/Certificates/Slice0/Obligations.lean ====
section
/-! DEFINITION. The statements about the Holmara P64 model that the provers are given. -/

section

open Sys2Proof Sys2Proof.Machine

/-! ### The queue, time and the two kinds of reset -/

/-- Log entry 1: the command at the front of the queue is executed on the state with the queue's rest, and with no command
waiting the block idles. -/
def Obligations.StepTakesTheFrontCommand : Prop :=
  (∀ (s : State) (c : Instr) (rest : List Instr), s.pending = c :: rest → step s = exec c { s with pending := rest })
    ∧ ∀ s : State, s.pending = [] → step s = .next s

/-- The cold values of the chapters' tables (R7, R8, R20, R41, R83, R117, R136, R144, R147 and the others that `State.Cold`
lists) hold of the reset state, and it meets every law that a step keeps, laws 3 and 4 among them. The BLANK fixed slots and
the inactive HALT line are the model's choice (log entry 10). -/
def Obligations.ResetIsColdAndLawful : Prop :=
  (State.reset.Cold ∧ State.reset.dvc.state = .run ∧ State.reset.dvc.cause = .none ∧ State.reset.dvc.haltLine = false
        ∧ (∀ a, State.reset.scs.slots.get a = List.replicate 32 .blank) ∧ State.reset.pending = [])
    ∧ (State.reset.portsBounded ∧ State.reset.scs.lawEight ∧ State.reset.shotLaw ∧ State.reset.holdLaw
        ∧ State.reset.criticalLaw ∧ State.reset.recordsGo ∧ State.reset.tablesWhole ∧ State.reset.guardBounded
        ∧ State.reset.queueOrdered ∧ State.reset.speedLaw ∧ State.reset.QueueLaw ∧ State.reset.WindowLaw)

/-- COLD_RESET (00_scope.md, Resets): every volatile item takes its cold value, as the chapters' tables give it; the fixed
slots are kept but for the slot of a burn in progress, which is SPOILED (R166); with the HALT line asserted the part is in
HALTED with cause HALT as the reset ends (R156). The HALT line's level and the queue are kept (log entry 11). -/
def Obligations.ColdResetRestoresTheColdValues : Prop :=
  ∀ s : State, ∃ t, exec .coldReset s = .next t ∧ t.Cold
    ∧ (t.dvc.state = if s.dvc.haltLine then .halted else .run) ∧ (t.dvc.cause = if s.dvc.haltLine then .halt else .none)
    ∧ t.dvc.haltLine = s.dvc.haltLine ∧ t.pending = s.pending
    ∧ ∀ (a : Axis) (n : Nat),
        (t.scs.slots.get a)[n]? =
          if ∃ b, s.scs.burn = some b ∧ b.axis = a ∧ b.sector = n then (s.scs.slots.get a)[n]?.map fun _ => .spoiled
          else (s.scs.slots.get a)[n]?

/-- R175 and log entries 5, 27, 29 and 43: a frame's arrival moves site time on to its stamp, SITE_TIME_WRAP takes it from 2^48 −
1 to 0, and SETTIME sets it. At a wrap and at SETTIME every sample of both histories, a capture that waits, the settle time
of the pointing in flight and the last chosen candidate move by the difference; contexts, records, a waiting DIRECTION and
every countdown and timer are left as they are. A SETTIME value that no 6-byte field can carry draws RANGE. -/
def Obligations.SiteTimeMoves : Prop :=
  (∀ (s : State) (us : Nat), s.stc.periodUs ≤ min us 1000 → s.stc.siteTime < 2 ^ 48 →
        let d := min us 1000 - s.stc.periodUs
        let t : State :=
          { s with
            stc := { siteTime := s.stc.siteTime + d, periodUs := min us 1000 }
            link := { s.link with rxController := [] } }
        (s.stc.siteTime + d < 2 ^ 48 → s.frameAt us = t)
          ∧ (2 ^ 48 ≤ s.stc.siteTime + d →
              s.frameAt us =
                { t with
                  stc := { siteTime := s.stc.siteTime + d - 2 ^ 48, periodUs := min us 1000 }
                  scu :=
                    { history :=
                        { h := s.scu.history.h.map fun x => { x with time := x.time - 2 ^ 48 },
                          v := s.scu.history.v.map fun x => { x with time := x.time - 2 ^ 48 } } }
                  pen :=
                    { s.pen with
                      shot := s.pen.shot.map (Shot.moveTime (-(2 ^ 48)))
                      pointing := s.pen.pointing.map fun p => { p with settleTime := p.settleTime.map fun x => x - 2 ^ 48 } }
                  squ := { s.squ with last := s.squ.last.map fun c => { c with time := c.time - 2 ^ 48 } } }))
    ∧ (∀ s : State,
        (s.stc.siteTime + 1 = 2 ^ 48 →
          exec .siteTimeWrap s =
            .next
              (State.moveTimes { s with stc := { siteTime := 0, periodUs := s.stc.periodUs + 1 } } (-(2 ^ 48))))
          ∧ (s.stc.siteTime + 1 ≠ 2 ^ 48 → exec .siteTimeWrap s = .next s))
    ∧ (∀ (s : State) (h : Hdr) (time : Nat), s.takesRequests → s.dvc.state ≠ .lockout →
        let u := s.frameAt h.us
        let δ := (time : Int) - (u.stc.siteTime : Int)
        (time < 2 ^ 48 →
            exec (.settime h time) s =
              .next
                (State.replied
                  { u with
                    stc := { siteTime := time, periodUs := u.stc.periodUs }
                    scu :=
                      { history :=
                          { h := u.scu.history.h.map fun x => { x with time := x.time + δ },
                            v := u.scu.history.v.map fun x => { x with time := x.time + δ } } }
                    pen :=
                      { u.pen with
                        shot := u.pen.shot.map (Shot.moveTime δ)
                        pointing := u.pen.pointing.map fun p => { p with settleTime := p.settleTime.map fun x => x + δ } }
                    squ := { u.squ with last := u.squ.last.map fun c => { c with time := c.time + δ } } }
                  h.tag .done []))
          ∧ (2 ^ 48 ≤ time → exec (.settime h time) s = .next (u.replied h.tag .range [])))

/-! ### Invariants that every step keeps -/

/-- R8, R20, R144, R164, R166, R167, R174, R177: every table keeps its size, the guard progress stays between 0 and 4, and
the receive buffer and the reply queue stay within 4 and 8 frames, at every step. -/
def Obligations.TablesAndBoundsStayWhole : Prop :=
  (∀ s t : State, s.portsBounded → step s = .next t → t.portsBounded)
    ∧ (∀ s t : State, s.tablesWhole → step s = .next t → t.tablesWhole)
    ∧ (∀ s t : State, s.guardBounded → step s = .next t → t.guardBounded)

/-- Law 8 (R164): no step gives a soft correction to a sector whose fixed slot is FIXED. -/
def Obligations.NoSoftCorrectionUnderAFixedSlot : Prop :=
  ∀ s t : State, s.scs.lawEight → step s = .next t → t.scs.lawEight

/-- Laws 5 and 6 (R59, R72, R130): after every step at most 32 records are held and reserved, a shot in hand has a pointing
with a reservation, and a pointing stands only in RUN or frozen in a stop. -/
def Obligations.ShotsAndReservationsStayLawful : Prop :=
  ∀ s t : State, s.shotLaw → step s = .next t → t.shotLaw

/-- Laws 7 and 10 (R134, R148): after every step both axes are held while DVC is in CRITICAL, HALTED or LOCKOUT, with HOLD
frames alone for an axis under HOLD, and the critical record is occupied in CRITICAL and otherwise only in LOCKOUT. -/
def Obligations.HoldAndTheCriticalRecordStayLawful : Prop :=
  ∀ s t : State, s.holdLaw → s.criticalLaw → step s = .next t → t.holdLaw ∧ t.criticalLaw

/-- R46: the due queue stays in the order of priority, sequence and target number at every step. Law 4 (R44, R25): no step
puts a number twice into the due queue, nor there and at once into a pointing in flight or a saved context, and the queue
holds the number of every DUE entry that is not deferred and no other; deferred is set only in a DUE entry engaged by a
one-off pointing, and the entry of a scheduled visit is ACTIVE from its dispatch to its end. -/
def Obligations.TheDueQueueStaysInOrder : Prop :=
  (∀ s t : State, s.queueOrdered → step s = .next t → t.queueOrdered)
    ∧ ∀ s t : State, s.QueueLaw → step s = .next t → t.QueueLaw

/-- Law 2 (R87): after every step no axis has a commanded speed above the maximum it holds for its move, and an axis STILL or
HELD has none. Law 9 (R145): the effective maximum speed is the nominal maximum times the fraction of the lowest-numbered
active group, rounded down and at least 1, or the nominal maximum where no group is active; it lies between 1 and the nominal
maximum. Law 3 (R88, R97): no step, a LOAD STATION included, leaves a V setpoint of the pointing engine or of a jog lease, on
its way or waiting, outside the window. -/
def Obligations.CommandedSpeedsStayLawful : Prop :=
  (∀ s t : State, s.speedLaw → step s = .next t → t.speedLaw)
    ∧ (∀ s t : State, s.WindowLaw → step s = .next t → t.WindowLaw)
    ∧ ∀ (s : State) (a : Axis),
        let vmax := if a = .h then s.station.n.vmaxH else s.station.n.vmaxV
        1 ≤ vmax → (∀ g ∈ s.sdu.groups, g.definition.n ≤ 7) →
        1 ≤ s.effectiveSpeed a ∧ s.effectiveSpeed a ≤ vmax
          ∧ ((∀ g ∈ s.sdu.groups, g.active = false) → s.effectiveSpeed a = vmax)
          ∧ ∀ (k : Nat) (g : DerateGroup), s.sdu.groups[k]? = some g → g.active = true →
              (∀ (j : Nat) (x : DerateGroup), j < k → s.sdu.groups[j]? = some x → x.active = false) →
              s.effectiveSpeed a =
                max 1
                  (if g.definition.mode = .f8 then vmax * (g.definition.n + 1) / 8 else vmax / (g.definition.n + 1))

/-! ### Requests: arrival, dispatch and the refusals that all share -/

/-- R172, R174, R176: a controller-port frame that finds the buffer at 4 is lost and counted, one that finds the reply queue
at 8 waits at the buffer's tail with the site time of its arrival, and otherwise it is the arrival of the request that its
kind, selector and length make, or draws RANGE where the length is wrong. That a frame lost at a count of 65,535 raises
LINK_ERROR as any other is the model's choice (log entry 42). -/
def Obligations.RequestsArrive : Prop :=
  (∀ (s : State) (us : Nat) (kind tag : Byte) (payload : List Byte),
        let b := parseRequest { us := us, tag := tag } kind payload
        let t := s.frameAt us
        (4 ≤ s.requests.buffer.length →
            exec (.controllerFrameArrival us kind tag payload) s =
              .next
                (if (s.notices.record .linkError).pending then
                  { t with link := { t.link with errController := min (s.link.errController + 1) 65535 } }
                else
                  State.raise { t with link := { t.link with errController := min (s.link.errController + 1) 65535 } }
                    .linkError none))
          ∧ (s.requests.buffer.length < 4 → 8 ≤ s.requests.replies.length →
              exec (.controllerFrameArrival us kind tag payload) s =
                .next
                { t with
                  requests := { s.requests with buffer := s.requests.buffer ++ [{ frame := b, stamp := t.stc.siteTime }] } }))
    ∧ (∀ (s : State) (us : Nat) (kind tag : Byte) (payload : List Byte),
        (∀ i, parseRequest { us := us, tag := tag } kind payload = .request i →
            exec (.controllerFrameArrival us kind tag payload) s = exec i s)
          ∧ (∀ h, parseRequest { us := us, tag := tag } kind payload = .wrongLength h → s.takesRequests →
              exec (.controllerFrameArrival us kind tag payload) s = .next ((s.frameAt us).replied tag .range [])))

/-- R176, R183 and section 11.6: the table selectors, command codes and query selectors name their requests, with the
operands in the order and sizes of their layouts, most significant byte first; a length other than the one its selector or
code fixes makes the frame one of wrong length; the queries STATUS, CONTEXT, NOTICES and QUEUE take any operand bytes, and a
LOAD ZENITH of no whole rows carries none; every other selector, code or kind, and an empty payload, is the unknown request.
The place of a LOAD SECTOR's sector, and so its length of 6, is the model's choice (log entry 16). -/
def Obligations.RequestBytesNameTheirRequests : Prop :=
  (∀ (us : Nat) (tag : Byte) (e k a : Byte) (vh0 vh1 vv0 vv1 : Byte),
    let h : Hdr := { us := us, tag := tag }
    parseRequest h 0x11 [1] = .request (.start h) ∧ parseRequest h 0x11 [2] = .request (.stop h)
      ∧ parseRequest h 0x11 [3, e] = .request (.aim h e.toNat) ∧ parseRequest h 0x11 [4] = .request (.pause h)
      ∧ parseRequest h 0x11 [5] = .request (.halt h) ∧ parseRequest h 0x11 [6] = .request (.resume h)
      ∧ parseRequest h 0x11 [7] = .request (.clear h) ∧ parseRequest h 0x11 [8] = .request (.abandon h)
      ∧ parseRequest h 0x11 [9, vh0, vh1, vv0, vv1] =
          .request (.jog h (vh0 ++ vh1 : BitVec 16).toInt (vv0 ++ vv1 : BitVec 16).toInt)
      ∧ parseRequest h 0x11 [11, e, k, vh0, vh1, vv0, vv1] =
          .request (.settime h (e ++ k ++ vh0 ++ vh1 ++ vv0 ++ vv1 : BitVec 48).toNat)
      ∧ parseRequest h 0x11 [10] = .request (.park h) ∧ parseRequest h 0x11 [12, e] = .request (.suspend h e.toNat)
      ∧ parseRequest h 0x11 [13, e] = .request (.restore h e.toNat) ∧ parseRequest h 0x11 [14, k] = .request (.key h k.toNat)
      ∧ parseRequest h 0x11 [15, a, e, vh0, vh1] =
          .request (.burn h a.toNat e.toNat (vh0 ++ vh1 : BitVec 16).toInt)
      ∧ parseRequest h 0x11 [16] = .request (.restart h) ∧ parseRequest h 0x12 [1] = .request (.queryStatus h)
      ∧ parseRequest h 0x12 [2, e] = .request (.queryTarget h e.toNat) ∧ parseRequest h 0x12 [3] = .request (.queryContext h)
      ∧ parseRequest h 0x12 [4] = .request (.queryNotices h)
      ∧ parseRequest h 0x12 [5, a] = .request (.querySector h a.toNat) ∧ parseRequest h 0x12 [6] = .request (.queryQueue h)
      ∧ (∀ kind, parseRequest h kind [] = .request (.unknownRequest h))
      ∧ (∀ kind payload, kind ≠ 0x10 → kind ≠ 0x11 → kind ≠ 0x12 →
          parseRequest h kind payload = .request (.unknownRequest h))
      ∧ (∀ c rest, 16 < c.toNat ∨ c = 0 → parseRequest h 0x11 (c :: rest) = .request (.unknownRequest h))
      ∧ (∀ c rest, 6 < c.toNat ∨ c = 0 → parseRequest h 0x12 (c :: rest) = .request (.unknownRequest h))
      ∧ ∀ c rest, 5 < c.toNat ∨ c = 0 → parseRequest h 0x10 (c :: rest) = .request (.unknownRequest h))
    ∧ (∀ (h : Hdr) (c : Byte) (rest : List Byte),
        let wrong := fun kind : Byte => parseRequest h kind (c :: rest) = .wrongLength h
        let n := rest.length + 1
        (c = 1 ∨ c = 2 ∨ (4 ≤ c.toNat ∧ c.toNat ≤ 8) ∨ c = 10 ∨ c = 16 → n ≠ 1 → wrong 0x11)
          ∧ (c = 3 ∨ (12 ≤ c.toNat ∧ c.toNat ≤ 14) → n ≠ 2 → wrong 0x11) ∧ (c = 9 ∨ c = 15 → n ≠ 5 → wrong 0x11)
          ∧ (c = 11 → n ≠ 7 → wrong 0x11) ∧ (c = 1 → n ≠ 40 → wrong 0x10) ∧ (c = 2 → n ≠ 71 → wrong 0x10)
          ∧ (c = 4 → n ≠ 6 → wrong 0x10) ∧ (c = 5 → n ≠ 10 → wrong 0x10) ∧ (c = 2 ∨ c = 5 → n ≠ 2 → wrong 0x12)
          ∧ (c = 1 → parseRequest h 0x12 (c :: rest) = .request (.queryStatus h))
          ∧ (c = 3 → parseRequest h 0x12 (c :: rest) = .request (.queryContext h))
          ∧ (c = 4 → parseRequest h 0x12 (c :: rest) = .request (.queryNotices h))
          ∧ (c = 6 → parseRequest h 0x12 (c :: rest) = .request (.queryQueue h))
          ∧ (c = 3 → (n < 3 ∨ (n - 3) % 4 ≠ 0) →
              parseRequest h 0x10 (c :: rest) =
                .request (.loadZenith h (rest.getD 0 0).toNat (rest.getD 1 0).toNat [])))
    ∧ (∀ (h : Hdr) (n kind enable priority periodic : Byte) (period offset d0 dtol dwell : BitVec 32) (hz v : BitVec 24)
        (prism w ilo ihi : BitVec 16),
        parseRequest h 0x10
            ([1, n, kind, enable, priority, periodic] ++ bytes4 period ++ bytes4 offset ++ bytes3 hz ++ bytes3 v ++ bytes4 d0
              ++ bytes4 dtol ++ bytes2 prism ++ bytes2 w ++ bytes2 ilo ++ bytes2 ihi ++ bytes4 dwell) =
          .request
            (.loadTarget h n.toNat
              { kind := kind.toNat, enable := enable.toNat, priority := priority.toNat, periodic := periodic.toNat,
                period := period.toNat, offset := offset.toNat, hz := hz.toNat, v := v.toNat, d0 := d0.toNat,
                dtol := dtol.toNat, prism := prism.toInt, w := w.toNat, ilo := ilo.toNat, ihi := ihi.toNat,
                dwell := dwell.toNat }))
    ∧ (∀ (h : Hdr) (first last axis sector mark group enable source n mode : Byte) (value high low : BitVec 16)
        (rows : List (BitVec 16 × BitVec 16)),
        parseRequest h 0x10 ([3, first, last] ++ rows.flatMap fun x => bytes2 x.1 ++ bytes2 x.2) =
            .request (.loadZenith h first.toNat last.toNat (rows.map fun x => { s := x.1.toInt, k := x.2.toInt }))
          ∧ parseRequest h 0x10 ([4, axis, sector, mark] ++ bytes2 value) =
              .request (.loadSector h axis.toNat sector.toNat mark.toNat value.toInt)
          ∧ parseRequest h 0x10 ([5, group, enable, source] ++ bytes2 high ++ bytes2 low ++ [n, mode]) =
              .request
                (.loadDerate h group.toNat
                  { enable := enable.toNat, source := source.toNat, high := high.toInt, low := low.toInt, n := n.toNat,
                    mode := mode.toNat }))
    ∧ ∀ (h : Hdr)
      (settleN acqFrames lockN lossN centreLimit ambigLimit searchLegs shotRetry exp levelN levelOkN comp missLimit crit : Byte)
      (vmaxH vmaxV accH accV settleWin settleTimeout lockTol aimTol ambig spotSilence rangeTimeout
        tiltLimit tiltStale coll trun backoffBase controlTol feedDiv trackInterval jogLease : BitVec 16)
      (vMin vMax index orient : BitVec 24) (backoffCap : BitVec 32),
      parseRequest h 0x10
          (2 :: bytes2 vmaxH ++ bytes2 vmaxV ++ bytes2 accH ++ bytes2 accV ++ bytes3 vMin ++ bytes3 vMax ++ bytes2 settleWin
            ++ [settleN] ++ bytes2 settleTimeout ++ [acqFrames, lockN] ++ bytes2 lockTol ++ [lossN] ++ bytes2 aimTol
            ++ [centreLimit] ++ bytes2 ambig ++ [ambigLimit, searchLegs] ++ bytes2 spotSilence ++ bytes2 rangeTimeout
            ++ [shotRetry, exp] ++ bytes2 tiltLimit ++ bytes2 tiltStale ++ [levelN, levelOkN, comp] ++ bytes2 coll
            ++ bytes2 trun ++ bytes3 index ++ bytes3 orient ++ [missLimit] ++ bytes2 backoffBase ++ bytes4 backoffCap
            ++ bytes2 controlTol ++ [crit] ++ bytes2 feedDiv ++ bytes2 trackInterval ++ bytes2 jogLease) =
        .request
          (.loadStation h
            { n :=
                { vmaxH := vmaxH.toNat, vmaxV := vmaxV.toNat, accH := accH.toNat, accV := accV.toNat, vMin := vMin.toNat,
                  vMax := vMax.toNat, settleWin := settleWin.toNat, settleN := settleN.toNat,
                  settleTimeout := settleTimeout.toNat, acqFrames := acqFrames.toNat, lockN := lockN.toNat,
                  lockTol := lockTol.toNat, lossN := lossN.toNat, aimTol := aimTol.toNat, centreLimit := centreLimit.toNat,
                  ambig := ambig.toNat, ambigLimit := ambigLimit.toNat, searchLegs := searchLegs.toNat,
                  spotSilence := spotSilence.toNat, rangeTimeout := rangeTimeout.toNat, shotRetry := shotRetry.toNat,
                  angleSilenceExp := exp.toNat, tiltLimit := tiltLimit.toNat, tiltStale := tiltStale.toNat,
                  levelN := levelN.toNat, levelOkN := levelOkN.toNat, coll := coll.toInt, trun := trun.toInt,
                  index := index.toInt, orient := orient.toNat, missLimit := missLimit.toNat,
                  backoffBase := backoffBase.toNat, backoffCap := backoffCap.toNat, controlTol := controlTol.toNat,
                  feedDiv := feedDiv.toNat, trackInterval := trackInterval.toNat, jogLease := jogLease.toNat },
              compEnable := comp.toNat, criticalEnable := crit.toNat })

/-- R155, R167, R176: an unknown request is answered UNKNOWN in every DVC state, and in LOCKOUT every LOAD and COMMAND is
refused with LOCKOUT; either changes no more than the guard progress, which becomes 0. -/
def Obligations.SharedRefusals : Prop :=
  (∀ (s : State) (h : Hdr), s.takesRequests → exec (.unknownRequest h) s = .next ((s.frameAt h.us).replied h.tag .unknown []))
    ∧ (∀ (s : State) (i : Instr), s.takesRequests → s.dvc.state = .lockout → isOrder i = true →
        exec i s = .next ((s.frameAt (Instr.hdr i).us).replied (Instr.hdr i).tag .lockout []))

/-- R167, R177 to R180 and the query entries: outside QUERY NOTICES a query changes no state but the guard progress and the
reply queue, in any DVC state; QUERY NOTICES answers DONE with the 16 records as they stood, and leaves every record cleared
and the alert slot empty. -/
def Obligations.QueriesReadAndNoticesClear : Prop :=
  (∀ (s : State) (i : Instr), s.takesRequests → isQuery i = true → (∀ h, i ≠ .queryNotices h) →
        ∃ code body, (code = .done ∨ (code = .range ∧ body = []))
          ∧ exec i s = .next ((s.frameAt (Instr.hdr i).us).replied (Instr.hdr i).tag code body))
    ∧ (∀ (s : State) (h : Hdr), s.takesRequests →
        exec (.queryNotices h) s =
          .next
            (State.replied
              { s.frameAt h.us with
                notices := { records := List.replicate 16 { pending := false, count := 0, lastTarget := none }, alertWaits := false } }
              h.tag .done
              (s.notices.records.flatMap fun r =>
                [if r.pending then 1 else 0] ++ putNat 1 r.count
                  ++ match r.lastTarget with
                      | none => [0]
                      | some n => 1 :: putNat 1 n)))

/-- R177: a notice raised sets its kind's pending, counts it up to 255 and stores or clears its target, leaves every other
kind's record, and places an ALERT when no kind was pending before; a pending set that is not empty places none. -/
def Obligations.RaisingANotice : Prop :=
  ∀ (n : Notices) (k j : NoticeKind) (target : Option Nat), n.records.length = 16 →
    (n.raise k target).record k = { pending := true, count := min ((n.record k).count + 1) 255, lastTarget := target }
      ∧ (j ≠ k → (n.raise k target).record j = n.record j)
      ∧ ((n.raise k target).alertWaits = true ↔ n.alertWaits = true ∨ ∀ r ∈ n.records, r.pending = false)

/-- R172, R173, R183: the receivers of the three ports. In HUNT a receiver passes over every byte other than 0xA5; a length
above 240 discards the frame at that byte and a CRC other than the frame's at its last byte, each counted, and the receiver
goes on at the byte after the discarded frame's sync; bytes short of a whole frame wait, and a frame may be split over two
commands. A whole frame of the controller port is the arrival of that frame; one of the axis or the sensor port is the typed
row of its kind, with its fields most significant byte first; a kind that the port does not receive is discarded without
being counted, and a wrong length or a byte past its list discards the frame and counts it. The CRC is that of x^16 + x^12 +
x^5 + 1 from 0xFFFF, each byte most significant bit first. That a run of bytes is one command is the model's choice (log
entry 12), as are the arrival time it carries (entry 5) and the LINK_ERROR of an error at a count of 65,535 (entry 42). -/
def Obligations.ReceiversFindFrames : Prop :=
  (∀ (s : State) (us : Nat) (port : Port), s.link.rx port = [] →
        ∀ bytes, (∀ b ∈ bytes, b ≠ 0xA5) → exec (.badFrame us port bytes) s = .next (s.advanceTo us))
    ∧ (∀ (s : State) (us : Nat) (port : Port) (kind tag len b c0 c1 : Byte) (payload more : List Byte),
        s.link.rx port = [] →
        let inner := kind :: tag :: len :: payload
        let bytes := fun l : List Byte => exec (.badFrame us port l)
        let lost := (s.advanceTo us).linkError port
        (b ≠ 0xA5 → bytes (b :: more) s = bytes more s)
          ∧ (240 < len.toNat → bytes (0xA5 :: kind :: tag :: len :: more) s = bytes (kind :: tag :: len :: more) lost)
          ∧ (len.toNat ≤ 240 → payload.length = len.toNat → c0 ++ c1 ≠ crc16 inner →
              bytes (0xA5 :: inner ++ c0 :: c1 :: more) s = bytes (inner ++ c0 :: c1 :: more) lost)
          ∧ (len.toNat ≤ 240 → payload.length < len.toNat + 2 →
              bytes (0xA5 :: inner) s =
                .next { s.advanceTo us with link := (s.advanceTo us).link.setRx port (0xA5 :: inner) }))
    ∧ (∀ (s : State) (us : Nat) (port : Port) (first second : List Byte),
        ∀ t, exec (.badFrame us port first) s = .next t →
          exec (.badFrame us port second) t = exec (.badFrame us port (first ++ second)) s)
    ∧ (∀ (s : State) (us : Nat) (kind tag : Byte) (payload : List Byte), s.link.rxController = [] → payload.length ≤ 240 →
        let inner := kind :: tag :: BitVec.ofNat 8 payload.length :: payload
        exec (.badFrame us .controller (0xA5 :: inner ++ bytes2 (crc16 inner))) s =
          exec (.controllerFrameArrival us kind tag payload) s)
    ∧ (∀ (s : State) (us : Nat) (kind tag a st cause : Byte) (payload : List Byte) (raw : BitVec 24) (age temp : BitVec 16)
        (ax : Axis),
        let frame := fun (kind tag : Byte) (payload : List Byte) =>
          let inner := kind :: tag :: BitVec.ofNat 8 payload.length :: payload
          0xA5 :: inner ++ bytes2 (crc16 inner)
        let rx := fun (kind : Byte) (l : List Byte) => exec (.badFrame us .axis (frame kind tag l)) s
        let code : Byte := if ax = .h then 0 else 1
        let fault := fun f : DriveFault => exec (.driveStatusFrame us ax (.fault f) temp.toInt) s
        let lost := Host.Outcome.next ((s.advanceTo us).linkError .axis)
        s.link.rxAxis = [] → payload.length ≤ 240 →
        rx 0x30 (code :: bytes3 raw ++ bytes2 age) = exec (.angleFrame us ax raw.toNat age.toNat) s
          ∧ (payload.length ≠ 6 → rx 0x30 payload = lost)
          ∧ (1 < a.toNat → rx 0x30 (a :: bytes3 raw ++ bytes2 age) = lost)
          ∧ rx 0x31 ([code, 0, 0] ++ bytes2 temp) = exec (.driveStatusFrame us ax .ready temp.toInt) s
          ∧ rx 0x31 ([code, 1, 1] ++ bytes2 temp) = fault .stall ∧ rx 0x31 ([code, 1, 2] ++ bytes2 temp) = fault .overcurrent
          ∧ rx 0x31 ([code, 1, 3] ++ bytes2 temp) = fault .overtemp ∧ rx 0x31 ([code, 1, 4] ++ bytes2 temp) = fault .encoder
          ∧ (payload.length ≠ 5 → rx 0x31 payload = lost)
          ∧ ((1 < a.toNat ∨ 1 < st.toNat ∨ (st = 0 ∧ cause ≠ 0) ∨ (st = 1 ∧ (cause = 0 ∨ 4 < cause.toNat))) →
              rx 0x31 ([a, st, cause] ++ bytes2 temp) = lost)
          ∧ (kind ≠ 0x30 → kind ≠ 0x31 → rx kind payload = .next (s.advanceTo us)))
    ∧ (∀ (s : State) (us : Nat) (kind tag id strength status flag : Byte) (payload : List Byte) (age tl tc temp : BitVec 16)
        (distance : BitVec 32) (spots : List (BitVec 24 × BitVec 24 × BitVec 16)),
        let frame := fun (kind tag : Byte) (payload : List Byte) =>
          let inner := kind :: tag :: BitVec.ofNat 8 payload.length :: payload
          0xA5 :: inner ++ bytes2 (crc16 inner)
        let rx := fun (kind : Byte) (l : List Byte) => exec (.badFrame us .sensor (frame kind tag l)) s
        let range := fun st : RangeStatus => exec (.rangeFrame us id.toNat age.toNat distance.toNat strength.toNat st) s
        let answer := fun c : Byte => rx 0x41 (id :: bytes2 age ++ bytes4 distance ++ [strength, c])
        let tilt := fun c : Byte => rx 0x42 (bytes2 tl ++ bytes2 tc ++ c :: bytes2 temp)
        let lost := Host.Outcome.next ((s.advanceTo us).linkError .sensor)
        s.link.rxSensor = [] → payload.length ≤ 240 → spots.length ≤ 29 →
        rx 0x40 (bytes2 age ++ BitVec.ofNat 8 spots.length :: spots.flatMap fun x => bytes3 x.1 ++ bytes3 x.2.1 ++ bytes2 x.2.2) =
            exec (.spotFrame us age.toNat (spots.map fun x => { dx := x.1.toInt, dy := x.2.1.toInt, intensity := x.2.2.toNat })) s
          ∧ (payload.length ≠ 3 + 8 * (payload.getD 2 0).toNat → rx 0x40 payload = lost)
          ∧ answer 0 = range .ok ∧ answer 1 = range .weak ∧ answer 2 = range .noisy ∧ answer 3 = range .multi
          ∧ answer 4 = range .noReturn ∧ (4 < status.toNat → answer status = lost)
          ∧ (payload.length ≠ 9 → rx 0x41 payload = lost)
          ∧ tilt 0 = exec (.tiltFrame us tl.toInt tc.toInt false temp.toInt) s
          ∧ tilt 1 = exec (.tiltFrame us tl.toInt tc.toInt true temp.toInt) s ∧ (1 < flag.toNat → tilt flag = lost)
          ∧ (payload.length ≠ 7 → rx 0x42 payload = lost)
          ∧ (kind ≠ 0x40 → kind ≠ 0x41 → kind ≠ 0x42 → rx kind payload = .next (s.advanceTo us)))
    ∧ ∀ (bs : List Byte) (b : Byte),
      let step := fun c : BitVec 16 => if c.msb then (c <<< 1) ^^^ 0x1021#16 else c <<< 1
      crc16 [] = 0xFFFF#16
        ∧ crc16 (bs ++ [b]) =
            step (step (step (step (step (step (step (step (crc16 bs ^^^ (b.setWidth 16 <<< 8)))))))))
        ∧ crc16 [0x31, 0x32, 0x33, 0x34, 0x35, 0x36, 0x37, 0x38, 0x39] = 0x29B1#16

/-- R39, R58, R163, R171, R180, R183 and section 11.6: the code of every enumerated value, a place in its list counted from
0, with the bytes of a cause and of a drive report; the bytes of a number that fits its field; and the bodies of the five
queries that only read. STATUS: modes, phase, target, counts, effective speeds, flags, guard progress, burn timer, link error
counts, late answers, lockout faults and site time. TARGET: the definition and the run-time fields of the entry; an entry
above 63 draws RANGE. CONTEXT: the state, the cause and the resume mode, the restart timer, the HALT line (1 asserted, log
entry 19), the level state and its counts, the drive reports, and both contexts field by field, the prior state by its code
among the six DVC states (log entry 41). SECTOR: each sector's soft correction and slot, the guard progress as it stood, and
the burn; an axis past the list draws RANGE. QUEUE: the mode, the counter, the queue in order, and the numbers of the entries
DUE with deferred set, ascending. -/
def Obligations.QueryBodiesSayTheState : Prop :=
  ([TargetKind.monitor, .control, .track, .noKind].map kindCode = [0, 1, 2, 3]
      ∧ [DvcState.run, .stopping, .held, .critical, .halted, .lockout].map DvcState.code = [0, 1, 2, 3, 4, 5]
      ∧ [Phase.slew, .settle, .acquire, .searchMove, .look, .locking, .centre, .measure, .follow].map Phase.code =
          [1, 2, 3, 4, 5, 6, 7, 8, 9]
      ∧ [EntryState.empty, .disabled, .armed, .due, .active, .backoff, .spent, .suspended].map EntryState.code =
          [0, 1, 2, 3, 4, 5, 6, 7]
      ∧ [Verdict.done, .partialDone, .obscured, .crowded, .mismatch, .unsettled, .nosensor, .norange, .abandoned].map
            Verdict.code =
          [0, 1, 2, 3, 4, 5, 6, 7, 8]
      ∧ [PointingKind.scheduled, .oneOff].map PointingKind.code = [0, 1]
      ∧ [Cause.none, .pause, .level, .restart, .halt].map Cause.bytes =
          [[0, 0, 0], [1, 0, 0], [2, 0, 0], [3, 0, 0], [4, 0, 0]]
      ∧ [DriveFault.stall, .overcurrent, .overtemp, .encoder].map (Cause.bytes ∘ Cause.drive .h) =
          [[5, 0, 1], [5, 0, 2], [5, 0, 3], [5, 0, 4]]
      ∧ [DriveFault.stall, .overcurrent, .overtemp, .encoder].map (Cause.bytes ∘ Cause.drive .v) =
          [[5, 1, 1], [5, 1, 2], [5, 1, 3], [5, 1, 4]]
      ∧ [Axis.h, .v].map (Cause.bytes ∘ Cause.silence) = [[6, 0, 0], [6, 1, 0]]
      ∧ [DriveReport.none, .ready, .fault .stall, .fault .overcurrent, .fault .overtemp, .fault .encoder].map
            DriveReport.bytes =
          [[0, 0], [1, 0], [2, 1], [2, 2], [2, 3], [2, 4]]
      ∧ [ResumeMode.command, .auto].map ResumeMode.code = [0, 1] ∧ [LevelState.level, .lost].map LevelState.code = [0, 1]
      ∧ [Axis.h, .v].map axisCode = [0, 1])
    ∧ (∀ x : Nat,
        (x < 2 ^ 8 → putNat 1 x = [BitVec.ofNat 8 x]) ∧ (x < 2 ^ 16 → putNat 2 x = bytes2 (BitVec.ofNat 16 x))
          ∧ (x < 2 ^ 32 → putNat 4 x = bytes4 (BitVec.ofNat 32 x)) ∧ (x < 2 ^ 48 → putNat 6 x = bytes6 (BitVec.ofNat 48 x)))
    ∧ (∀ x : Int,
        (0 ≤ x → x < 2 ^ 16 → putUInt 2 x = bytes2 (BitVec.ofInt 16 x))
          ∧ (0 ≤ x → x < 2 ^ 24 → putAngle x = bytes3 (BitVec.ofInt 24 x))
          ∧ (0 ≤ x → x < 2 ^ 32 → putUInt 4 x = bytes4 (BitVec.ofInt 32 x))
          ∧ (-(2 ^ 15) ≤ x → x < 2 ^ 15 → putInt 2 x = bytes2 (BitVec.ofInt 16 x))
          ∧ (-(2 ^ 31) ≤ x → x < 2 ^ 31 → putInt 4 x = bytes4 (BitVec.ofInt 32 x)))
    ∧ ∀ (s : State) (h : Hdr), s.takesRequests →
    let u := s.frameAt h.us
    let yes := fun b : Bool => (if b then 1 else 0 : Byte)
    let opt := fun (x : Option (List Byte)) =>
      match x with
      | none => [(0 : Byte)]
      | some bs => 1 :: bs
    let deferred := (List.range s.entries.length).filter fun n => (s.entry n).state = .due && (s.entry n).deferred
    let fields := fun d : Definition =>
      [kindCode d.kind, yes d.enable] ++ putNat 1 d.priority ++ [yes d.periodic] ++ putNat 4 d.period ++ putNat 4 d.offset
        ++ putAngle d.hz ++ putAngle d.v ++ putUInt 4 d.d0 ++ putUInt 4 d.dtol ++ putInt 2 d.prism ++ putUInt 2 d.w
        ++ putNat 2 d.ilo ++ putNat 2 d.ihi ++ putNat 4 d.dwell
    let part := fun p : PointingPart =>
      [p.kind.code, p.phase.code] ++ putNat 1 p.searchLeg ++ putNat 1 p.legsCompleted ++ putInt 4 p.ox ++ putInt 4 p.oy
        ++ putNat 1 p.attempts ++ putNat 2 p.followCount ++ opt (p.dwell.map fun x => putNat 4 x) ++ fields p.frozenCopy
    let saved := fun c : Context =>
      opt (c.target.map fun n => putNat 1 n ++ opt (c.part.map part)) ++ c.cause.bytes ++ [yes c.recoverable]
        ++ putNat 6 c.savedAt ++ [yes ((c.target.map fun n => (s.entry n).pendingDef.isSome).getD false)]
    exec (.queryStatus h) s =
        .next
          (u.replied h.tag .done
            ([if s.osc.mode = .running then 1 else 0, s.dvc.state.code, (s.pen.pointing.map fun p => p.phase.code).getD 0]
              ++ opt (s.pen.pointing.map fun p => putNat 1 p.target) ++ putNat 1 s.osc.queue.length
              ++ putNat 1 s.reports.queue.length ++ putNat 1 (if s.pen.pointing.any (·.reservation) then 1 else 0)
              ++ putNat 2 (s.effectiveSpeed .h)
              ++ putNat 2 (s.effectiveSpeed .v) ++ [yes s.osc.suspect, yes s.osc.detectorReady, yes s.aru.tiltStale]
              ++ putNat 1 s.scs.guard ++ opt (s.scs.burn.map fun b => putNat 2 b.timer) ++ putNat 2 s.link.errAxis
              ++ putNat 2 s.link.errSensor ++ putNat 2 s.link.errController ++ putNat 1 s.pen.lateRanges
              ++ putNat 1 s.dvc.lockoutFaults ++ putNat 6 u.stc.siteTime))
      ∧ (∀ n, 63 < n → exec (.queryTarget h n) s = .next (u.replied h.tag .range []))
      ∧ (∀ n, n ≤ 63 →
          let e := s.entry n
          exec (.queryTarget h n) s =
            .next
              (u.replied h.tag .done
                (putNat 1 n ++ fields e.definition ++ [e.state.code] ++ putNat 4 e.countdown ++ putNat 1 e.misses
                  ++ putNat 1 e.overruns ++ opt (e.retry.map fun x => putNat 4 x)
                  ++ [yes e.deferred, yes (s.engaged n), yes e.pendingDef.isSome]
                  ++ opt (e.lastOutcome.map fun o => [o.code])
                  ++ opt
                      (e.lastSummary.map fun x =>
                        putNat 6 x.siteTime ++ putAngle x.hz ++ putAngle x.v ++ putUInt 4 x.distance))))
      ∧ exec (.queryContext h) s =
          .next
            (u.replied h.tag .done
              ([s.dvc.state.code] ++ s.dvc.cause.bytes ++ opt (s.dvc.resumeMode.map fun m => [m.code])
                ++ opt (s.dvc.restartTimer.map fun x => putNat 2 x) ++ [yes s.dvc.haltLine, s.dvc.level.code]
                ++ putNat 1 s.dvc.beyond ++ putNat 1 s.dvc.within ++ s.dvc.report.h.bytes ++ s.dvc.report.v.bytes
                ++ opt (s.dvc.ordinary.map saved)
                ++ opt
                    (s.dvc.critical.map fun c =>
                      saved c.context ++ [c.priorState.code] ++ c.priorCause.bytes
                        ++ opt (c.priorResume.map fun m => [m.code]) ++ [yes c.cleared])))
      ∧ (∀ axis, 1 < axis → exec (.querySector h axis) s = .next (u.replied h.tag .range []))
      ∧ (∀ a : Axis, (s.scs.soft.get a).length = 32 → (s.scs.slots.get a).length = 32 →
          exec (.querySector h (axisCode a).toNat) s =
            .next
              (u.replied h.tag .done
                ([axisCode a]
                  ++ ((List.range 32).flatMap fun n =>
                      opt (((s.scs.soft.get a).getD n none).map fun x => putInt 2 x)
                        ++ match (s.scs.slots.get a).getD n .blank with
                            | .blank => 0 :: putInt 2 0
                            | .fixed x => 1 :: putInt 2 x
                            | .spoiled => 2 :: putInt 2 0)
                  ++ putNat 1 s.scs.guard
                  ++ opt
                      (s.scs.burn.map fun b =>
                        [axisCode b.axis] ++ putNat 1 b.sector ++ putInt 2 b.value ++ putNat 2 b.timer))))
      ∧ exec (.queryQueue h) s =
          .next
            (u.replied h.tag .done
              ([if s.osc.mode = .running then 1 else 0] ++ putNat 2 s.osc.counter ++ putNat 1 s.osc.queue.length
                ++ (s.osc.queue.flatMap fun x => putNat 1 (x.priority * 64 + x.target) ++ putNat 2 x.seq)
                ++ putNat 1 deferred.length ++ deferred.flatMap fun n => putNat 1 n))

/-! ### Loads -/

/-- R9: LOAD ZENITH outside LOCKOUT, in every DVC state: RANGE when first exceeds last, last exceeds 32 or the number of
pairs is not last − first + 1; otherwise DONE, every named row takes its pair, every other row keeps its values, and nothing
else changes. -/
def Obligations.LoadZenithWritesTheNamedRows : Prop :=
  ∀ (s : State) (h : Hdr) (first last : Nat) (rows : List ZRow), s.takesRequests →
    (s.dvc.state = .lockout →
        exec (.loadZenith h first last rows) s = .next ((s.frameAt h.us).replied h.tag .lockout []))
      ∧ (s.dvc.state ≠ .lockout → (last < first ∨ 32 < last ∨ rows.length + first ≠ last + 1) →
          exec (.loadZenith h first last rows) s = .next ((s.frameAt h.us).replied h.tag .range []))
      ∧ (s.dvc.state ≠ .lockout → first ≤ last → last ≤ 32 → rows.length + first = last + 1 →
          ∃ table : List ZRow,
            (∀ k : Nat,
                table[k]? =
                  if first ≤ k ∧ k ≤ last ∧ k < s.aru.zenith.length then rows[k - first]? else s.aru.zenith[k]?)
              ∧ exec (.loadZenith h first last rows) s =
                  .next (State.replied { s.frameAt h.us with aru := { s.aru with zenith := table } } h.tag .done []))

/-- R165: LOAD SECTOR. A value or the mark "absent" (0) replaces the soft correction of the named sector, and no other; a
FIXED slot draws FIXED for both. -/
def Obligations.LoadSectorSetsOneSoftCorrection : Prop :=
  ∀ (s : State) (h : Hdr) (axis sector mark : Nat) (value : Int), s.takesRequests →
    (s.dvc.state = .lockout →
        exec (.loadSector h axis sector mark value) s = .next ((s.frameAt h.us).replied h.tag .lockout []))
      ∧ (s.dvc.state ≠ .lockout →
          (1 < axis ∨ 1 < mark ∨ 31 < sector ∨ (mark = 1 ∧ (value < -2048 ∨ 2047 < value))) →
          exec (.loadSector h axis sector mark value) s = .next ((s.frameAt h.us).replied h.tag .range []))
      ∧ ∀ a : Axis, s.dvc.state ≠ .lockout → axis = (axisCode a).toNat → sector ≤ 31 → mark ≤ 1 →
          (mark = 1 → -2048 ≤ value ∧ value ≤ 2047) →
          (∀ x, (s.scs.slots.get a).getD sector .blank = .fixed x →
              exec (.loadSector h axis sector mark value) s = .next ((s.frameAt h.us).replied h.tag .fixed []))
            ∧ ((∀ x, (s.scs.slots.get a).getD sector .blank ≠ .fixed x) →
                exec (.loadSector h axis sector mark value) s =
                  .next
                    (State.replied
                      { s.frameAt h.us with
                        scs :=
                          { s.scs with
                            soft :=
                              s.scs.soft.set a
                                ((s.scs.soft.get a).set sector (if mark = 1 then some value else none)) } }
                      h.tag .done []))

/-- R146, R143 to R145: LOAD DERATE, by the numbers it carries: enable 0 or 1, the source 0 to 3 in the order of R143, the
mode 0 for F8 and 1 for FN. A group above 3, a byte past its list, n above 7 or high not above low draws RANGE; an accepted
load replaces the definition, and the flag is set exactly when the group is enabled and its source holds a value above high
that is not stale. A DERATE notice is raised exactly when the selected fraction's value changes (R145). A source holds its
value while it is not stale, and the jitter always; the selected fraction is that of the lowest active group, (n + 1)/8 or
1/(n + 1), and 1 with none. -/
def Obligations.LoadDerateReplacesAGroup : Prop :=
  (∀ s : State,
      let sensed := fun x : TempSource => if x.stale = true then none else x.value
      s.sourceValue .instrTemp = sensed s.sdu.instrTemp ∧ s.sourceValue .driveHTemp = sensed s.sdu.driveTemp.h
        ∧ s.sourceValue .driveVTemp = sensed s.sdu.driveTemp.v ∧ s.sourceValue .tiltJitter = some s.aru.jitter)
    ∧ (∀ (before after : List DerateGroup) (g : DerateGroup),
        ((∀ x ∈ before, x.active = false) → selectedFraction before = (1, 1))
          ∧ ((∀ x ∈ before, x.active = false) → g.active = true →
              selectedFraction (before ++ g :: after) =
                if g.definition.mode = .f8 then (g.definition.n + 1, 8) else (1, g.definition.n + 1)))
    ∧ ∀ (s : State) (h : Hdr) (group : Nat) (l : DerateLoad), s.takesRequests →
    (s.dvc.state = .lockout → exec (.loadDerate h group l) s = .next ((s.frameAt h.us).replied h.tag .lockout []))
      ∧ (s.dvc.state ≠ .lockout →
          (3 < group ∨ 1 < l.enable ∨ 3 < l.source ∨ 1 < l.mode ∨ 7 < l.n ∨ l.high ≤ l.low ∨ l.low < -32768
            ∨ 32767 < l.high) →
          exec (.loadDerate h group l) s = .next ((s.frameAt h.us).replied h.tag .range []))
      ∧ (s.dvc.state ≠ .lockout → group ≤ 3 → l.enable ≤ 1 → l.source ≤ 3 → l.mode ≤ 1 → l.n ≤ 7 → l.low < l.high →
          -32768 ≤ l.low → l.high ≤ 32767 →
          let e := decide (l.enable = 1)
          let src : DerateSource :=
            if l.source = 0 then .instrTemp else if l.source = 1 then .driveHTemp else if l.source = 2 then .driveVTemp
            else .tiltJitter
          let m : FractionMode := if l.mode = 0 then .f8 else .fn
          ∃ on : Bool,
            (on = true ↔ e = true ∧ ∃ x, s.sourceValue src = some x ∧ l.high < x)
              ∧
              let d : DerateDef := { enable := e, source := src, high := l.high, low := l.low, n := l.n, mode := m }
              let groups := s.sdu.groups.set group { definition := d, active := on }
              let t : State := { s.frameAt h.us with sdu := { s.sdu with groups := groups } }
              let f := selectedFraction s.sdu.groups
              let g := selectedFraction groups
              exec (.loadDerate h group l) s =
                .next (State.replied (if f.1 * g.2 = g.1 * f.2 then t else t.raise .derate none) h.tag .done []))

/-- R21: a LOAD TARGET outside LOCKOUT with an entry number above 63, a byte past its list, or, unless its kind is NONE, a
field out of its range or a failed cross-condition, is refused with RANGE and changes nothing but the guard progress. -/
def Obligations.LoadTargetChecksItsFields : Prop :=
  ∀ (s : State) (h : Hdr) (n : Nat) (l : TargetLoad), s.takesRequests → s.dvc.state ≠ .lockout →
    (63 < n ∨ 3 < l.kind ∨ 1 < l.enable ∨ 1 < l.periodic
      ∨ (l.kind < 3
          ∧ (3 < l.priority ∨ l.period < 100 ∨ 86400000 < l.period ∨ l.period < l.offset ∨ l.hz < 0 ∨ 16777215 < l.hz
            ∨ l.v < 262144 ∨ 8126464 < l.v ∨ l.d0 < 0 ∨ 30000000 < l.d0 ∨ l.dtol < 1 ∨ 100000 < l.dtol ∨ l.prism < -1000
            ∨ 1000 < l.prism ∨ l.w < 256 ∨ 65535 < l.w ∨ 4095 < l.ihi ∨ l.ihi < l.ilo
            ∨ (l.kind = 2 ∧ (l.dwell < 1000 ∨ 600000 < l.dwell))))) →
    exec (.loadTarget h n l) s = .next ((s.frameAt h.us).replied h.tag .range [])

/-- R21 to R23, R183: a LOAD TARGET in range. It carries the definition of its own fields, with kind 0 to 3 for MONITOR,
CONTROL, TRACK and NONE and 1 for on or yes; out of range, by the list of LoadTargetChecksItsFields, it carries none. An
entry is engaged where a one-off pointing part names it (R25). Of an entry named in no ordinary context: STATE when the entry
is ACTIVE or engaged, otherwise its number leaves the due queue and the entry becomes EMPTY, DISABLED or ARMED with the
definition carried and every other run-time field cleared. Of the entry named in the ordinary context: the context is no
longer recoverable and the definition is pending. -/
def Obligations.LoadTargetChangesAnEntry : Prop :=
  (∀ l : TargetLoad,
      let carried : Definition :=
        { kind := if l.kind = 0 then .monitor else if l.kind = 1 then .control else if l.kind = 2 then .track else .noKind,
          enable := decide (l.enable = 1), priority := l.priority, periodic := decide (l.periodic = 1), period := l.period,
          offset := l.offset, hz := l.hz, v := l.v, d0 := l.d0, dtol := l.dtol, prism := l.prism, w := l.w, ilo := l.ilo,
          ihi := l.ihi, dwell := l.dwell }
      let outside :=
        3 < l.kind ∨ 1 < l.enable ∨ 1 < l.periodic
          ∨ (l.kind < 3
              ∧ (3 < l.priority ∨ l.period < 100 ∨ 86400000 < l.period ∨ l.period < l.offset ∨ l.hz < 0 ∨ 16777215 < l.hz
                ∨ l.v < 262144 ∨ 8126464 < l.v ∨ l.d0 < 0 ∨ 30000000 < l.d0 ∨ l.dtol < 1 ∨ 100000 < l.dtol ∨ l.prism < -1000
                ∨ 1000 < l.prism ∨ l.w < 256 ∨ 65535 < l.w ∨ 4095 < l.ihi ∨ l.ihi < l.ilo
                ∨ (l.kind = 2 ∧ (l.dwell < 1000 ∨ 600000 < l.dwell))))
      (¬outside → definitionOfLoad l = some carried) ∧ (outside → definitionOfLoad l = none))
    ∧ (∀ (s : State) (n : Nat), s.engaged n = true ↔ s.holdsAt n .oneOff)
    ∧ (∀ (s : State) (h : Hdr) (n : Nat) (l : TargetLoad) (d : Definition), s.takesRequests → s.dvc.state ≠ .lockout → n ≤ 63 →
        definitionOfLoad l = some d → (∀ c, s.dvc.ordinary = some c → c.target ≠ some n) →
        ((s.entry n).state = .active ∨ s.engaged n = true →
            exec (.loadTarget h n l) s = .next ((s.frameAt h.us).replied h.tag .state []))
          ∧ ((s.entry n).state ≠ .active → s.engaged n = false →
              let e : Entry :=
                { definition := if d.kind = .noKind then zeroDefinition else d,
                  state := if d.kind = .noKind then .empty else if d.enable then .armed else .disabled,
                  countdown := if d.kind ≠ .noKind ∧ d.enable = true then d.offset else 0, retry := none, misses := 0,
                  overruns := 0, deferred := false, pendingDef := none, lastOutcome := none, lastSummary := none }
              exec (.loadTarget h n l) s =
                .next
                  (State.replied
                    { s.frameAt h.us with
                      entries := s.entries.set n e
                      osc := { s.osc with queue := s.osc.queue.filter fun x => x.target ≠ n } }
                    h.tag .done [])))
    ∧ (∀ (s : State) (h : Hdr) (n : Nat) (l : TargetLoad) (d : Definition) (c : Context), s.takesRequests →
        s.dvc.state ≠ .lockout → n ≤ 63 → definitionOfLoad l = some d → s.dvc.ordinary = some c → c.target = some n →
        exec (.loadTarget h n l) s =
          .next
            (State.replied
              { s.frameAt h.us with
                entries := s.entries.set n { s.entry n with pendingDef := some d }
                dvc := { s.dvc with ordinary := some { c with recoverable := false } } }
              h.tag .done []))

/-- R6, R7, R97, R151, R155: LOAD STATION is refused with LOCKOUT in LOCKOUT; with RANGE when an on/off byte, a number or a
cross-condition is out of its range; and with STATE when a V position in use would leave the window, or tilt_limit is lowered
while the level is LOST. A refusal changes no more than the guard progress. -/
def Obligations.LoadStationRefusals : Prop :=
  (∀ (s : State) (h : Hdr) (l : StationLoad), s.takesRequests →
        (s.dvc.state = .lockout → exec (.loadStation h l) s = .next ((s.frameAt h.us).replied h.tag .lockout []))
          ∧ (s.dvc.state ≠ .lockout →
              (1 < l.compEnable ∨ 1 < l.criticalEnable ∨ l.n.vMax ≤ l.n.vMin ∨ l.n.backoffCap < l.n.backoffBase
                ∨ l.n.vmaxH < 1 ∨ 16383 < l.n.vmaxH ∨ l.n.vmaxV < 1 ∨ 16383 < l.n.vmaxV ∨ l.n.accH < 1 ∨ 1023 < l.n.accH
                ∨ l.n.accV < 1 ∨ 1023 < l.n.accV ∨ l.n.vMin < 262144 ∨ 8126464 < l.n.vMax ∨ l.n.settleWin < 0
                ∨ 65535 < l.n.settleWin ∨ l.n.settleN < 1 ∨ 255 < l.n.settleN ∨ l.n.settleTimeout < 1
                ∨ 5000 < l.n.settleTimeout ∨ l.n.acqFrames < 1 ∨ 8 < l.n.acqFrames ∨ l.n.lockN < 1 ∨ 8 < l.n.lockN
                ∨ l.n.lockTol < 0 ∨ 65535 < l.n.lockTol ∨ l.n.lossN < 1 ∨ 16 < l.n.lossN ∨ l.n.aimTol < 0
                ∨ 65535 < l.n.aimTol ∨ l.n.centreLimit < 1 ∨ 64 < l.n.centreLimit ∨ l.n.ambig < 0 ∨ 65535 < l.n.ambig
                ∨ l.n.ambigLimit < 1 ∨ 32 < l.n.ambigLimit ∨ l.n.searchLegs < 1 ∨ 24 < l.n.searchLegs
                ∨ l.n.spotSilence < 1 ∨ 2000 < l.n.spotSilence ∨ l.n.rangeTimeout < 1 ∨ 5000 < l.n.rangeTimeout
                ∨ 3 < l.n.shotRetry ∨ l.n.angleSilenceExp < 10 ∨ 17 < l.n.angleSilenceExp ∨ l.n.tiltLimit < 0
                ∨ 8191 < l.n.tiltLimit ∨ l.n.tiltStale < 20 ∨ 1000 < l.n.tiltStale ∨ l.n.levelN < 1 ∨ 255 < l.n.levelN
                ∨ l.n.levelOkN < 1 ∨ 255 < l.n.levelOkN ∨ l.n.coll < -32767 ∨ 32767 < l.n.coll ∨ l.n.trun < -32767
                ∨ 32767 < l.n.trun ∨ l.n.index < -65535 ∨ 65535 < l.n.index ∨ l.n.orient < 0 ∨ 16777215 < l.n.orient
                ∨ l.n.missLimit < 1 ∨ 15 < l.n.missLimit ∨ l.n.backoffBase < 1 ∨ 65535 < l.n.backoffBase
                ∨ 3600000 < l.n.backoffCap ∨ l.n.controlTol < 0 ∨ 65535 < l.n.controlTol ∨ 999 < l.n.feedDiv
                ∨ l.n.trackInterval < 1 ∨ 5000 < l.n.trackInterval ∨ l.n.jogLease < 1 ∨ 2000 < l.n.jogLease) →
              exec (.loadStation h l) s = .next ((s.frameAt h.us).replied h.tag .range [])))
    ∧ (∀ (s : State) (h : Hdr) (l : StationLoad) (st : Station), s.takesRequests → s.dvc.state ≠ .lockout →
        stationOfLoad l = some st →
        let leaves := fun (x : Int) =>
          s.station.n.vMin ≤ x ∧ x ≤ s.station.n.vMax ∧ (x < st.n.vMin ∨ st.n.vMax < x)
        let v := s.axis .v
        ((∃ x, v.p = some x ∧ leaves x) ∨ (∃ x, v.motion = .moving ∧ v.setpoint = some x ∧ leaves x)
          ∨ (v.motion = .braking ∧ leaves (v.stopPoint .v)) ∨ (∃ x, v.motion = .braking ∧ v.setpoint = some x ∧ leaves x)
          ∨ (∃ w, v.motion = .held ∧ v.waiting = some w ∧ leaves w.setpoint)
          ∨ (s.dvc.level = .lost ∧ st.n.tiltLimit < s.station.n.tiltLimit)) →
        exec (.loadStation h l) s = .next ((s.frameAt h.us).replied h.tag .state []))

/-- R6, R38, R111, R132: an accepted LOAD STATION replaces the whole block with the numbers it carries and its two on/off
bytes, 1 for on; with no number, byte or cross-condition out of range, by the list of LoadStationRefusals, there is such a
block, and otherwise none. An entry that is neither ACTIVE nor engaged and whose misses stand at or above the new miss_limit
takes misses equal to it, and leaves ARMED, DUE or BACKOFF for SUSPENDED and the due queue, with one SUSPENDED notice of its
number each, in ascending order; no other notice is raised. SQU's counters of a pointing in flight come below their new
limits; the feed count restarts with a new feed_div; no axis, diversion, shot or correction changes. -/
def Obligations.LoadStationReplacesTheBlock : Prop :=
  (∀ l : StationLoad,
      let outside :=
        (1 < l.compEnable ∨ 1 < l.criticalEnable ∨ l.n.vMax ≤ l.n.vMin ∨ l.n.backoffCap < l.n.backoffBase
          ∨ l.n.vmaxH < 1 ∨ 16383 < l.n.vmaxH ∨ l.n.vmaxV < 1 ∨ 16383 < l.n.vmaxV ∨ l.n.accH < 1 ∨ 1023 < l.n.accH
          ∨ l.n.accV < 1 ∨ 1023 < l.n.accV ∨ l.n.vMin < 262144 ∨ 8126464 < l.n.vMax ∨ l.n.settleWin < 0
          ∨ 65535 < l.n.settleWin ∨ l.n.settleN < 1 ∨ 255 < l.n.settleN ∨ l.n.settleTimeout < 1
          ∨ 5000 < l.n.settleTimeout ∨ l.n.acqFrames < 1 ∨ 8 < l.n.acqFrames ∨ l.n.lockN < 1 ∨ 8 < l.n.lockN
          ∨ l.n.lockTol < 0 ∨ 65535 < l.n.lockTol ∨ l.n.lossN < 1 ∨ 16 < l.n.lossN ∨ l.n.aimTol < 0
          ∨ 65535 < l.n.aimTol ∨ l.n.centreLimit < 1 ∨ 64 < l.n.centreLimit ∨ l.n.ambig < 0 ∨ 65535 < l.n.ambig
          ∨ l.n.ambigLimit < 1 ∨ 32 < l.n.ambigLimit ∨ l.n.searchLegs < 1 ∨ 24 < l.n.searchLegs
          ∨ l.n.spotSilence < 1 ∨ 2000 < l.n.spotSilence ∨ l.n.rangeTimeout < 1 ∨ 5000 < l.n.rangeTimeout
          ∨ 3 < l.n.shotRetry ∨ l.n.angleSilenceExp < 10 ∨ 17 < l.n.angleSilenceExp ∨ l.n.tiltLimit < 0
          ∨ 8191 < l.n.tiltLimit ∨ l.n.tiltStale < 20 ∨ 1000 < l.n.tiltStale ∨ l.n.levelN < 1 ∨ 255 < l.n.levelN
          ∨ l.n.levelOkN < 1 ∨ 255 < l.n.levelOkN ∨ l.n.coll < -32767 ∨ 32767 < l.n.coll ∨ l.n.trun < -32767
          ∨ 32767 < l.n.trun ∨ l.n.index < -65535 ∨ 65535 < l.n.index ∨ l.n.orient < 0 ∨ 16777215 < l.n.orient
          ∨ l.n.missLimit < 1 ∨ 15 < l.n.missLimit ∨ l.n.backoffBase < 1 ∨ 65535 < l.n.backoffBase
          ∨ 3600000 < l.n.backoffCap ∨ l.n.controlTol < 0 ∨ 65535 < l.n.controlTol ∨ 999 < l.n.feedDiv
          ∨ l.n.trackInterval < 1 ∨ 5000 < l.n.trackInterval ∨ l.n.jogLease < 1 ∨ 2000 < l.n.jogLease)
      (¬outside →
          stationOfLoad l =
            some { n := l.n, compEnable := decide (l.compEnable = 1), criticalEnable := decide (l.criticalEnable = 1) })
        ∧ (outside → stationOfLoad l = none))
    ∧ ∀ (s : State) (h : Hdr) (l : StationLoad) (st : Station), s.takesRequests → s.dvc.state ≠ .lockout →
    stationOfLoad l = some st →
    let leaves := fun (x : Int) =>
      s.station.n.vMin ≤ x ∧ x ≤ s.station.n.vMax ∧ (x < st.n.vMin ∨ st.n.vMax < x)
    let v := s.axis .v
    ¬((∃ x, v.p = some x ∧ leaves x) ∨ (∃ x, v.motion = .moving ∧ v.setpoint = some x ∧ leaves x)
      ∨ (v.motion = .braking ∧ leaves (v.stopPoint .v)) ∨ (∃ x, v.motion = .braking ∧ v.setpoint = some x ∧ leaves x)
      ∨ (∃ w, v.motion = .held ∧ v.waiting = some w ∧ leaves w.setpoint)
      ∨ (s.dvc.level = .lost ∧ st.n.tiltLimit < s.station.n.tiltLimit)) →
    let limit := st.n.missLimit
    let judged := fun (n : Nat) (e : Entry) =>
      decide (limit ≤ e.misses) && decide (e.state ≠ .active) && !s.engaged n
    let waits := fun (e : Entry) => decide (e.state = .armed ∨ e.state = .due ∨ e.state = .backoff)
    ∃ (entries : List Entry) (queue : List QueueItem) (notices : Notices) (squ : Squ),
      exec (.loadStation h l) s =
          .next
            (State.replied
              { s.frameAt h.us with
                station := st
                entries := entries
                osc := { s.osc with queue := queue }
                notices := notices
                squ := squ
                reports :=
                  { s.reports with
                    feedCount := if st.n.feedDiv = s.station.n.feedDiv then s.reports.feedCount else 0 } }
              h.tag .done [])
        ∧ entries.length = s.entries.length
        ∧ (∀ n e, s.entries[n]? = some e →
            entries[n]? =
              some
                (if judged n e = true ∧ waits e = true then
                  { e with state := .suspended, misses := limit, retry := none }
                else if judged n e = true ∧ e.state = .suspended then { e with misses := limit }
                else e))
        ∧ (∀ x, x ∈ queue ↔
            x ∈ s.osc.queue ∧ ¬∃ e, s.entries[x.target]? = some e ∧ judged x.target e = true ∧ waits e = true)
        ∧ (s.busy = false → squ = (s.frameAt h.us).squ)
        ∧ (s.busy = true → 0 < st.n.acqFrames → 0 < st.n.lockN → 0 < st.n.lossN → 0 < st.n.ambigLimit →
            0 < st.n.centreLimit →
            squ.acquire = min s.squ.acquire (st.n.acqFrames - 1) ∧ squ.lock = min s.squ.lock (st.n.lockN - 1)
              ∧ squ.loss = min s.squ.loss (st.n.lossN - 1) ∧ squ.ambiguity = min s.squ.ambiguity (st.n.ambigLimit - 1)
              ∧ squ.centre = min s.squ.centre (st.n.centreLimit - 1) ∧ squ.previous = s.squ.previous
              ∧ squ.last = (s.frameAt h.us).squ.last)
        ∧ notices =
            ((List.range s.entries.length).filter fun n => judged n (s.entry n) && waits (s.entry n)).foldl
              (fun m n => m.raise .suspended (some n)) s.notices

/-! ### The target table and the scheduler -/

/-- R42, R43, R49, R50: STOP outside LOCKOUT sets the mode to STOPPED and changes nothing else. START sets it to RUNNING;
where a dispatch condition fails that is all, and where all hold the head of the due queue is dispatched as DISPATCH does. -/
def Obligations.StartAndStopSetTheMode : Prop :=
  (∀ (s : State) (h : Hdr), s.takesRequests →
        (s.dvc.state = .lockout → exec (.stop h) s = .next ((s.frameAt h.us).replied h.tag .lockout []))
          ∧ (s.dvc.state ≠ .lockout →
              exec (.stop h) s =
                .next (State.replied { s.frameAt h.us with osc := { s.osc with mode := .stopped } } h.tag .done [])))
    ∧ (∀ (s : State) (h : Hdr), s.takesRequests → s.dvc.state ≠ .lockout →
        let t : State := { s.frameAt h.us with osc := { s.osc with mode := .running } }
        ((s.dvc.state ≠ .run ∨ s.pen.pointing ≠ none ∨ s.scs.burn ≠ none ∨ s.dsl.jog ≠ .none ∨ s.dsl.selected ≠ both .park
            ∨ s.osc.detectorReady = false ∨ 32 ≤ s.reports.queue.length ∨ s.osc.queue = []) →
            exec (.start h) s = .next (t.replied h.tag .done []))
          ∧ (s.dvc.state = .run → s.pen.pointing = none → s.scs.burn = none → s.dsl.jog = .none →
              s.dsl.selected = both .park → s.osc.detectorReady = true → s.reports.queue.length < 32 → s.osc.queue ≠ [] →
              ∃ d, exec .dispatch t = .next d ∧ d.pen.pointing ≠ none ∧ exec (.start h) s = .next (d.replied h.tag .done [])))

/-- R49, R50: a DISPATCH changes nothing while a condition of R49 fails. R49 to R51, R60, R62: where every condition holds,
the head of the queue and no other number leaves it, its entry becomes ACTIVE, SQU's counters are 0, and a SCHEDULED pointing
begins with a frozen copy of the entry's definition; both axes are given the inverse reduction of the target, and AIM is
selected. No report slot is reserved and nothing outside the pointing, the axes, their selection and frames, and the entry
changes. -/
def Obligations.DispatchTakesTheHead : Prop :=
  (∀ s : State,
        (s.osc.mode = .stopped ∨ s.dvc.state ≠ .run ∨ s.pen.pointing ≠ none ∨ s.scs.burn ≠ none ∨ s.dsl.jog ≠ .none
          ∨ s.dsl.selected ≠ both .park ∨ s.osc.detectorReady = false ∨ 32 ≤ s.reports.queue.length ∨ s.osc.queue = []) →
        exec .dispatch s = .next s)
    ∧ (∀ (s : State) (x : QueueItem) (rest : List QueueItem),
        s.osc.queue = x :: rest → s.osc.mode = .running → s.dvc.state = .run → s.pen.pointing = none → s.scs.burn = none →
        s.dsl.jog = .none → s.dsl.selected = both .park → s.osc.detectorReady = true → s.reports.queue.length < 32 →
        (∀ a, (s.axis a).motion = .still) → (∀ a, (s.latestRaw a).isSome) → s.dsl.restartHold = both false →
        let d := (s.entry x.target).definition
        let sp := inverseReduction s d.hz d.v 0 0
        ∃ (t : State) (p : Pointing), exec .dispatch s = .next t ∧ t.base = s.base
          ∧ t.osc = { s.osc with queue := rest }
          ∧ t.entries = s.entries.set x.target { s.entry x.target with state := .active }
          ∧ t.squ = { acquire := 0, lock := 0, loss := 0, ambiguity := 0, centre := 0, previous := none, last := none }
          ∧ t.pen = { s.pen with pointing := some p, retriesClosed := false }
          ∧ p.target = x.target ∧ p.kind = .scheduled ∧ (p.phase = .slew ∨ p.phase = .settle) ∧ p.frozenCopy = d
          ∧ p.searchLeg = 0 ∧ p.legsCompleted = 0 ∧ p.ox = 0 ∧ p.oy = 0 ∧ p.source = .acquire ∧ p.limited = sp.limited
          ∧ p.settleTime = none ∧ p.settleTimer = 0 ∧ p.silence = 0 ∧ p.attempts = 0 ∧ p.reservation = false
          ∧ p.onAim = false ∧ p.followCount = 0 ∧ p.dwell = none ∧ p.track = none ∧ p.frozen = false
          ∧ (t.axis .h).setpoint = some sp.h ∧ (t.axis .v).setpoint = some sp.v ∧ (∀ a, (t.axis a).requester = .pointing)
          ∧ (∀ a, (t.axis a).p = (s.axis a).p) ∧ t.dsl.selected = both .aim
          ∧ t.reports = s.reports ∧ t.notices = s.notices ∧ t.dvc = s.dvc ∧ t.sdu = s.sdu ∧ t.scu = s.scu
          ∧ t.transmit = s.transmit ∧ t.stc = s.stc)

/-- R56, R25, R60: AIM outside LOCKOUT draws the first refusal of its list, RANGE, BURNING, BUSY, STATE, and then changes
nothing but the guard progress; otherwise it begins a ONE-OFF pointing at the entry, whatever detector-ready says: the entry
becomes engaged and keeps its state and every other field, and the due queue is untouched. -/
def Obligations.AimRefusesOrBegins : Prop :=
  (∀ (s : State) (h : Hdr) (n : Nat), s.takesRequests → s.dvc.state ≠ .lockout →
        (63 < n → exec (.aim h n) s = .next ((s.frameAt h.us).replied h.tag .range []))
          ∧ (n ≤ 63 → s.scs.burn ≠ none → exec (.aim h n) s = .next ((s.frameAt h.us).replied h.tag .burning []))
          ∧ (n ≤ 63 → s.scs.burn = none → s.pen.pointing ≠ none →
              exec (.aim h n) s = .next ((s.frameAt h.us).replied h.tag .busy []))
          ∧ (n ≤ 63 → s.scs.burn = none → s.pen.pointing = none →
              (s.osc.mode = .running ∨ s.dvc.state ≠ .run ∨ s.dsl.jog ≠ .none ∨ s.dsl.selected ≠ both .park
                ∨ 32 ≤ s.reports.queue.length ∨ (s.entry n).state = .empty ∨ (s.entry n).state = .active
                ∨ (s.entry n).state = .due ∨ (s.entry n).state = .backoff) →
              exec (.aim h n) s = .next ((s.frameAt h.us).replied h.tag .state [])))
    ∧ (∀ (s : State) (h : Hdr) (n : Nat), s.takesRequests → n ≤ 63 → s.scs.burn = none → s.pen.pointing = none →
        s.osc.mode = .stopped → s.dvc.state = .run → s.dsl.jog = .none → s.dsl.selected = both .park →
        s.reports.queue.length < 32 →
        ((s.entry n).state = .armed ∨ (s.entry n).state = .disabled ∨ (s.entry n).state = .spent
          ∨ (s.entry n).state = .suspended) →
        ∃ (t : State) (p : Pointing), exec (.aim h n) s = .next (t.replied h.tag .done []) ∧ t.base = (s.frameAt h.us).base
          ∧ t.pen.pointing = some p ∧ p.target = n ∧ p.kind = .oneOff ∧ p.frozenCopy = (s.entry n).definition
          ∧ (p.phase = .slew ∨ p.phase = .settle) ∧ p.attempts = 0 ∧ p.reservation = false ∧ p.searchLeg = 0
          ∧ t.engaged n = true ∧ t.entries = s.entries ∧ t.osc = s.osc ∧ t.squ = zeroSqu ∧ t.reports = s.reports
          ∧ t.notices = s.notices ∧ t.dvc = s.dvc ∧ t.pen.shot = (s.frameAt h.us).pen.shot)

/-- R36, R37: SUSPEND and RESTORE of an entry. -/
def Obligations.SuspendAndRestore : Prop :=
  (∀ (s : State) (h : Hdr) (n : Nat), s.takesRequests →
        let e := s.entry n
        (s.dvc.state = .lockout → exec (.suspend h n) s = .next ((s.frameAt h.us).replied h.tag .lockout []))
          ∧ (s.dvc.state ≠ .lockout → 63 < n → exec (.suspend h n) s = .next ((s.frameAt h.us).replied h.tag .range []))
          ∧ (s.dvc.state ≠ .lockout → n ≤ 63 → (e.state = .empty ∨ e.state = .active ∨ s.engaged n = true) →
              exec (.suspend h n) s = .next ((s.frameAt h.us).replied h.tag .state []))
          ∧ (s.dvc.state ≠ .lockout → n ≤ 63 → e.state = .suspended → s.engaged n = false →
              exec (.suspend h n) s = .next ((s.frameAt h.us).replied h.tag .done []))
          ∧ (s.dvc.state ≠ .lockout → n ≤ 63 → s.engaged n = false →
              (e.state = .armed ∨ e.state = .due ∨ e.state = .backoff ∨ e.state = .disabled ∨ e.state = .spent) →
              exec (.suspend h n) s =
                .next
                  (State.replied
                    { s.frameAt h.us with
                      entries := s.entries.set n { e with state := .suspended, retry := none }
                      osc := { s.osc with queue := s.osc.queue.filter fun x => x.target ≠ n } }
                    h.tag .done [])))
    ∧ (∀ (s : State) (h : Hdr) (n : Nat), s.takesRequests →
        let e := s.entry n
        (s.dvc.state = .lockout → exec (.restore h n) s = .next ((s.frameAt h.us).replied h.tag .lockout []))
          ∧ (s.dvc.state ≠ .lockout → 63 < n → exec (.restore h n) s = .next ((s.frameAt h.us).replied h.tag .range []))
          ∧ (s.dvc.state ≠ .lockout → n ≤ 63 → (e.state ≠ .suspended ∨ s.engaged n = true) →
              exec (.restore h n) s = .next ((s.frameAt h.us).replied h.tag .state []))
          ∧ (s.dvc.state ≠ .lockout → n ≤ 63 → e.state = .suspended → s.engaged n = false →
              exec (.restore h n) s =
                .next
                  (State.replied
                    { s.frameAt h.us with
                      entries := s.entries.set n { e with state := .armed, countdown := e.definition.period, misses := 0 } }
                    h.tag .done [])))

/-- R26 to R30 and log entry 2: one period expiry at one entry, and COUNTDOWN_EXPIRY and RETRY_TIMER_EXPIRY with the part at
rest and the scheduler STOPPED. The countdown of an entry that is counted down goes down by one and is set afresh when it is
0; an ARMED entry then falls due, deferred where it is engaged, and another counts an overrun; a BACKOFF entry's retry timer
goes down by one and, at 0, makes the entry DUE and hands it over, once; an entry that is not counted down is left as it is.
-/
def Obligations.EntriesFallDue : Prop :=
  (∀ (e : Entry) (engaged : Bool),
        let afresh := if e.definition.periodic then e.definition.period else 4294967295
        let counted := (e.state = .armed ∨ e.state = .due ∨ e.state = .active ∨ e.state = .backoff) ∧ e.countdown ≠ 4294967295
        let expires := counted ∧ e.countdown ≤ 1
        let overruns := expires ∧ e.state ≠ .armed
        let fires := e.state = .backoff ∧ ∃ r, e.retry = some r ∧ r ≤ 1
        ∃ (x : Entry) (handed overrun : Bool), e.tick engaged = { entry := x, handed := handed, overrun := overrun }
          ∧ (overrun = true ↔ overruns)
          ∧ (handed = true ↔ fires ∨ (expires ∧ e.state = .armed ∧ engaged = false))
          ∧ (expires → x.countdown = afresh)
          ∧ (counted → ¬expires → x.countdown = e.countdown - 1)
          ∧ (¬counted → x.countdown = e.countdown)
          ∧ (overruns → x.overruns = min (e.overruns + 1) 255)
          ∧ (¬overruns → x.overruns = e.overruns)
          ∧ (fires ∨ (expires ∧ e.state = .armed) → x.state = .due)
          ∧ (¬fires → ¬(expires ∧ e.state = .armed) → x.state = e.state)
          ∧ (fires → x.retry = none)
          ∧ (e.state = .backoff → ¬fires → x.retry = e.retry.map fun r => r - 1)
          ∧ (e.state ≠ .backoff → x.retry = e.retry)
          ∧ (x.deferred = if expires ∧ e.state = .armed ∧ engaged = true then true else e.deferred)
          ∧ x.definition = e.definition ∧ x.misses = e.misses ∧ x.pendingDef = e.pendingDef ∧ x.lastOutcome = e.lastOutcome
          ∧ x.lastSummary = e.lastSummary)
    ∧ (∀ (s : State) (n : Nat) (e : Entry), s.AtRest → s.entries[n]? = some e → e.countdown ≠ 4294967295 →
        let afresh := if e.definition.periodic then e.definition.period else 4294967295
        (e.state = .armed → s.engaged n = false →
            exec (.countdownExpiry n) s =
              .next (State.enqueue { s with entries := s.entries.set n { e with state := .due, countdown := afresh } } [n]))
          ∧ (e.state = .armed → s.engaged n = true →
              exec (.countdownExpiry n) s =
                .next { s with entries := s.entries.set n { e with state := .due, countdown := afresh, deferred := true } })
          ∧ ((e.state = .due ∨ e.state = .active ∨ e.state = .backoff) →
              exec (.countdownExpiry n) s =
                .next
                  (State.raise
                    { s with entries := s.entries.set n { e with countdown := afresh, overruns := min (e.overruns + 1) 255 } }
                    .overrun (some n))))
    ∧ (∀ (s : State) (n : Nat) (e : Entry), s.AtRest → s.entries[n]? = some e → e.state = .backoff →
        exec (.retryTimerExpiry n) s =
          .next (State.enqueue { s with entries := s.entries.set n { e with state := .due, retry := none } } [n]))

/-- R45 to R47: an enqueue gives every number handed the counter's value and its entry's priority, and puts it in its place
among those queued, all of which keep their keys: a queue in the order of R46 stays in it. The counter goes up by one, and at
65,535 the sequence values become their places in ascending order, which keeps every comparison of two of them, and the
counter becomes the number of distinct values. -/
def Obligations.EnqueueKeysAndRenumbers : Prop :=
  ∀ (s : State) (nums : List Nat), nums ≠ [] →
    let item := fun n : Nat => ({ target := n, priority := (s.entry n).definition.priority, seq := s.osc.counter } : QueueItem)
    let q := (s.enqueue nums).osc.queue
    (s.osc.counter < 65535 → q.Perm (nums.map item ++ s.osc.queue) ∧ (s.enqueue nums).osc.counter = s.osc.counter + 1)
      ∧ (65535 ≤ s.osc.counter → ∃ f : Nat → Nat,
          q.Perm ((nums.map item ++ s.osc.queue).map fun x => { x with seq := f x.seq })
            ∧ (∀ x ∈ nums.map item ++ s.osc.queue, ∀ y ∈ nums.map item ++ s.osc.queue, f x.seq < f y.seq ↔ x.seq < y.seq)
            ∧ (∀ x ∈ q, x.seq < (s.enqueue nums).osc.counter)
            ∧ (∀ k < (s.enqueue nums).osc.counter, ∃ x ∈ q, x.seq = k))
      ∧ (s.queueOrdered → (s.enqueue nums).queueOrdered) ∧ (s.enqueue nums).osc.mode = s.osc.mode
        ∧ (s.enqueue nums).osc.detectorReady = s.osc.detectorReady
      ∧ (s.enqueue nums).osc.suspect = s.osc.suspect

/-- R32 to R34: what a scheduled outcome makes of its entry, its misses and its retry timer. -/
def Obligations.OutcomesMoveTheEntry : Prop :=
  (∀ (e : Entry) (n : StationNumbers) (o : Verdict),
        ((o = .obscured ∨ o = .crowded ∨ o = .mismatch) → e.misses + 1 < n.missLimit →
            e.afterOutcome n o =
              { entry :=
                  { e with
                    misses := e.misses + 1, state := .backoff,
                    retry := some (min (n.backoffBase * 2 ^ (e.misses + 1 - 1)) n.backoffCap) },
                handed := false, suspended := false })
          ∧ ((o = .unsettled ∨ o = .nosensor ∨ o = .norange) → e.misses < n.missLimit →
              e.afterOutcome n o =
                { entry := { e with state := .backoff, retry := some n.backoffBase }, handed := false, suspended := false }))
    ∧ (∀ (e : Entry) (n : StationNumbers) (o : Verdict),
        ((o = .done ∨ o = .partialDone) →
            e.afterOutcome n o =
              { entry := { e with misses := 0, state := if e.definition.periodic then .armed else .spent }, handed := false,
                suspended := false })
          ∧ (((o = .obscured ∨ o = .crowded ∨ o = .mismatch) ∧ n.missLimit ≤ e.misses + 1
                ∨ (o = .unsettled ∨ o = .nosensor ∨ o = .norange ∨ o = .abandoned) ∧ n.missLimit ≤ e.misses) →
              e.afterOutcome n o =
                { entry := { e with state := .suspended, misses := n.missLimit, retry := none }, handed := false,
                  suspended := true })
          ∧ (o = .abandoned → e.misses < n.missLimit →
              e.afterOutcome n o =
                { entry := { e with state := if e.definition.periodic then .armed else .due },
                  handed := !e.definition.periodic, suspended := false }))

/-! ### Diversions, jogging, site time and the guard sequence -/

/-- R149, R150, R80, R81, R142, R148: PAUSE. Outside RUN and HELD it is refused; in HELD it makes the resume mode COMMAND. In
RUN with an axis in motion or a shot in hand it leads to STOPPING: the jog ends, a pointing is frozen with its shot and its
reservation, retries close, and each axis in motion heads for its stop point with requester DIVERSION. In RUN at rest it
reaches HELD at once, with the pointing in flight in the ordinary context, recoverable; no outcome is given and no entry
changes. -/
def Obligations.PauseStopsAndHolds : Prop :=
  (∀ (s : State) (h : Hdr), s.takesRequests →
        (s.dvc.state = .lockout → exec (.pause h) s = .next ((s.frameAt h.us).replied h.tag .lockout []))
          ∧ ((s.dvc.state = .stopping ∨ s.dvc.state = .critical ∨ s.dvc.state = .halted) →
              exec (.pause h) s = .next ((s.frameAt h.us).replied h.tag .state []))
          ∧ (s.dvc.state = .held →
              exec (.pause h) s =
                .next (State.replied { s.frameAt h.us with dvc := { s.dvc with resumeMode := some .command } } h.tag .done [])))
    ∧ (∀ (s : State) (h : Hdr), s.takesRequests → s.dvc.state = .run →
        (∀ a, (s.latestRaw a).isSome) → s.dsl.restartHold = both false →
        (s.pen.shot.isSome = true ∨ ∃ a, (s.axis a).inMotion = true ∧ (s.axis a).s ≠ 0) →
        ∃ t : State, exec (.pause h) s = .next (t.replied h.tag .done []) ∧ t.base = (s.frameAt h.us).base
          ∧ t.dvc = { s.dvc with state := .stopping, cause := .pause, resumeMode := none } ∧ t.dsl.jog = .none
          ∧ t.pen.pointing = (s.frameAt h.us).pen.pointing.map (fun p => { p with frozen := true })
          ∧ t.pen.shot = (s.frameAt h.us).pen.shot ∧ (s.pen.pointing ≠ none → t.pen.retriesClosed = true)
          ∧ (∀ a, (s.axis a).inMotion = true → (s.axis a).s ≠ 0 →
              (t.axis a).setpoint = some ((s.axis a).stopPoint a) ∧ (t.axis a).requester = .diversion
                ∧ (t.axis a).p = (s.axis a).p ∧ (t.axis a).s = (s.axis a).s
                ∧ ((t.axis a).motion = .moving ∨ (t.axis a).motion = .braking))
          ∧ t.apg.settle = none ∧ t.entries = s.entries ∧ t.osc = s.osc ∧ t.reports = s.reports ∧ t.notices = s.notices)
    ∧ (∀ (s : State) (h : Hdr), s.takesRequests → s.dvc.state = .run → s.pen.shot = none →
        (∀ a, (s.axis a).inMotion = false) →
        ∃ t : State, exec (.pause h) s = .next (t.replied h.tag .done []) ∧ t.base = (s.frameAt h.us).base
          ∧ t.dvc.state = .held ∧ t.dvc.cause = .pause ∧ t.dvc.resumeMode = some .command
          ∧ t.dvc.ordinary =
              some
                { target := s.pen.pointing.map (·.target), part := s.pen.pointing.map (·.part), cause := .pause,
                  recoverable := true, savedAt := (s.frameAt h.us).stc.siteTime }
          ∧ t.dvc.critical = s.dvc.critical ∧ t.pen.pointing = none ∧ t.pen.shot = none ∧ t.dsl.jog = .none
          ∧ t.entries = s.entries ∧ t.osc = s.osc ∧ t.reports = s.reports ∧ t.notices = s.notices)

/-- R156, R161: a HALT by command outside LOCKOUT and a rise of the HALT line, taken in any DVC state but HALTED and LOCKOUT,
the restart stop included: DVC enters HALTED with cause HALT, both contexts and the jog are gone, no pointing and no shot
remain, and both axes are under HOLD with speed 0 and no setpoint. The entry of the pointing or of a context's target takes
what its ABANDONED outcome leaves, once where the ordinary context and a critical record taken from HELD both name it. No
notice is raised but the SUSPENDED of an entry that this outcome sets aside (R34); in the restart stop the summary is cleared
before it. R156: a HALT command in HALTED is answered DONE and changes nothing; the HALT line, asserted in HALTED or LOCKOUT,
is noted and changes no more of the diversion; asserted again while it is asserted, nothing; released, the line reads
inactive and nothing else changes. -/
def Obligations.HaltHoldsAndDiscards : Prop :=
  (∀ s : State, s.dvc.state ≠ .halted → s.dvc.state ≠ .lockout → (∀ a, s.axisHeldLaw a) → s.shotLaw →
        let ends := fun (t : State) (n : Nat) (k : PointingKind) =>
          t.entries = (s.afterAbandoned n k).entries ∧ t.osc = (s.afterAbandoned n k).osc
            ∧ t.notices = (s.afterAbandoned n k).notices
        let cleared : Notices :=
          { records := List.replicate 16 { pending := false, count := 0, lastTarget := none }, alertWaits := false }
        let tells := fun (t : State) =>
          (∀ k, k ≠ .suspended →
              t.notices.record k =
                if s.restarting = true then { pending := false, count := 0, lastTarget := none } else s.notices.record k)
            ∧ (s.pen.pointing = none → (∀ c, s.dvc.ordinary = some c → c.target = none) →
                (∀ r, s.dvc.critical = some r → r.context.target = none) →
                t.notices = (if s.restarting = true then cleared else s.notices))
            ∧ (s.dvc.ordinary = none → s.dvc.critical = none → ∀ p, s.pen.pointing = some p → ends t p.target p.kind)
            ∧ (s.pen.pointing = none → s.restarting = false → (∀ r, s.dvc.critical = some r → r.context.part = none) →
                ∀ c, s.dvc.ordinary = some c → ∀ n, c.target = some n → ∀ x, c.part = some x → ends t n x.kind)
            ∧ (s.pen.pointing = none → s.restarting = false → s.dvc.ordinary = none → ∀ r, s.dvc.critical = some r →
                ∀ n, r.context.target = some n → ∀ x, r.context.part = some x → ends t n x.kind)
        let holds := fun (line : Bool) (t : State) =>
          tells t ∧ t.dvc.state = .halted ∧ t.dvc.cause = .halt ∧ t.dvc.resumeMode = none ∧ t.dvc.ordinary = none
            ∧ t.dvc.critical = none ∧ t.dvc.haltLine = line ∧ t.pen.pointing = none ∧ t.pen.shot = none ∧ t.dsl.jog = .none
            ∧ t.dsl.selected = both .hold ∧ t.reports.queue = s.reports.queue
            ∧ ∀ a, (t.axis a).motion = .held ∧ (t.axis a).p = (s.axis a).p ∧ (s.dsl.selected.get a ≠ .hold →
                (t.axis a).s = 0 ∧ (t.axis a).setpoint = none)
        (∀ h : Hdr, s.takesRequests → ∃ t : State, exec (.halt h) s = .next (t.replied h.tag .done [])
            ∧ t.base = (s.frameAt h.us).base ∧ holds s.dvc.haltLine t)
          ∧ ∀ us : Nat, s.dvc.haltLine = false → ∃ t : State, exec (.haltLineAsserted us) s = .next t
              ∧ t.base = (s.advanceTo us).base ∧ holds true t)
    ∧ (∀ s : State,
        (∀ h : Hdr, s.takesRequests → s.dvc.state = .halted →
            exec (.halt h) s = .next ((s.frameAt h.us).replied h.tag .done []))
          ∧ (∀ us : Nat, s.dvc.haltLine = true → exec (.haltLineAsserted us) s = .next (s.advanceTo us))
          ∧ (∀ us : Nat, s.dvc.haltLine = false → (s.dvc.state = .halted ∨ s.dvc.state = .lockout) →
              ∃ t : State, exec (.haltLineAsserted us) s = .next t ∧ t.dvc = { s.dvc with haltLine := true }
                ∧ t.base = (s.advanceTo us).base ∧ t.entries = s.entries ∧ t.osc = s.osc ∧ t.notices = s.notices)
          ∧ ∀ us : Nat,
              exec (.haltLineReleased us) s = .next { s.advanceTo us with dvc := { s.dvc with haltLine := false } })

/-- R157: CLEAR is refused with LOCKOUT in LOCKOUT, with STATE outside CRITICAL, while either drive report reads FAULT, and
while either axis has had no sample accepted since CRITICAL was entered (log entry 26); otherwise the critical record becomes
cleared and nothing else changes. -/
def Obligations.ClearAcknowledgesTheFault : Prop :=
  ∀ (s : State) (h : Hdr), s.takesRequests →
    (s.dvc.state = .lockout → exec (.clear h) s = .next ((s.frameAt h.us).replied h.tag .lockout []))
      ∧ (s.dvc.state ≠ .lockout →
          (s.dvc.state ≠ .critical ∨ (∃ a c, s.dvc.report.get a = .fault c) ∨ ∃ a, s.dvc.fresh.get a = false) →
          exec (.clear h) s = .next ((s.frameAt h.us).replied h.tag .state []))
      ∧ (s.dvc.state = .critical → (∀ a c, s.dvc.report.get a ≠ .fault c) → (∀ a, s.dvc.fresh.get a = true) →
          exec (.clear h) s =
            .next
              (State.replied
                { s.frameAt h.us with
                  dvc := { s.dvc with critical := s.dvc.critical.map fun c => { c with cleared := true } } }
                h.tag .done []))

/-- R158, R159, R152, R82 and log entry 33: every refusal of RESUME; and RESUME from HELD with a recoverable target and no
burn: the context is freed, DVC is in RUN, and the pointing restarts at SLEW from the context with its search offset, legs,
attempts, follow count and dwell, SQU's counters at 0; a level LOST is taken as LEVEL with both counts 0. From HELD with a
context that is not recoverable (R23, R24) the target ends ABANDONED, or takes its pending definition. From a cleared
CRITICAL (R159) DVC returns to the prior state: RUN with the record's pointing restarted, its setpoints waiting while the
axes are HELD, or with none; HELD with a new ordinary context after a stop, or HELD as it was, in either with the automatic
resume at once where the resume mode is AUTO, the level LEVEL and no burn in progress; or HALTED. In CRITICAL a level LOST
stays LOST, which is the model's choice (log entry 33: R158's LOST to LEVEL is read of HELD alone). The scheduler is STOPPED
in these. -/
def Obligations.ResumeRefusesOrRestarts : Prop :=
  (∀ (s : State) (h : Hdr), s.takesRequests →
        ((s.dvc.state = .run ∨ s.dvc.state = .stopping ∨ (s.dvc.state = .halted ∧ s.dvc.haltLine = true)
            ∨ (s.dvc.state = .critical ∧ ∀ c, s.dvc.critical = some c → c.cleared = false)) →
            exec (.resume h) s = .next ((s.frameAt h.us).replied h.tag .state []))
          ∧ (s.dvc.state = .held → s.scs.burn ≠ none →
              (∃ c n, s.dvc.ordinary = some c ∧ c.recoverable = true ∧ c.target = some n) →
              exec (.resume h) s = .next ((s.frameAt h.us).replied h.tag .burning []))
          ∧ (∀ c n, s.dvc.state = .critical → s.dvc.critical = some c → c.cleared = true → s.scs.burn ≠ none →
              c.priorState = .run → c.context.target = some n →
              exec (.resume h) s = .next ((s.frameAt h.us).replied h.tag .burning [])))
    ∧ (∀ (s : State) (h : Hdr) (c : Context) (n : Nat) (part : PointingPart), s.takesRequests → s.dvc.state = .held →
        s.scs.burn = none → s.dvc.ordinary = some c → c.recoverable = true → c.target = some n → c.part = some part →
        ∃ (t : State) (p : Pointing), exec (.resume h) s = .next (t.replied h.tag .done []) ∧ t.base = (s.frameAt h.us).base
          ∧ t.dvc.state = .run ∧ t.dvc.cause = .none ∧ t.dvc.resumeMode = none ∧ t.dvc.ordinary = none
          ∧ t.dvc.level = .level
          ∧ (s.dvc.level = .lost → t.dvc.beyond = 0 ∧ t.dvc.within = 0)
          ∧ t.pen.pointing = some p ∧ p.target = n ∧ p.kind = part.kind ∧ p.frozenCopy = part.frozenCopy
          ∧ (p.phase = .slew ∨ p.phase = .settle) ∧ p.searchLeg = part.searchLeg ∧ p.legsCompleted = part.legsCompleted
          ∧ p.ox = part.ox ∧ p.oy = part.oy ∧ p.attempts = part.attempts ∧ p.followCount = part.followCount
          ∧ p.dwell = part.dwell ∧ p.frozen = false ∧ p.reservation = false ∧ t.squ = zeroSqu
          ∧ t.entries = s.entries ∧ t.osc = s.osc ∧ t.reports = s.reports ∧ t.notices = s.notices)
    ∧ (∀ (s : State) (h : Hdr),
        s.takesRequests → s.osc.mode = .stopped → s.dvc.state = .held →
        ∀ c, s.dvc.ordinary = some c → c.recoverable = false → ∀ n, c.target = some n → ∀ part, c.part = some part →
        ∃ t : State, exec (.resume h) s = .next (t.replied h.tag .done []) ∧ t.base = (s.frameAt h.us).base
          ∧ t.dvc =
              { (if s.dvc.level = .lost then { s.dvc with level := .level, beyond := 0, within := 0 } else s.dvc) with
                state := .run, cause := .none, resumeMode := none, ordinary := none }
          ∧ t.entries = (s.afterAbandoned n part.kind).entries ∧ t.osc = (s.afterAbandoned n part.kind).osc
          ∧ t.notices = (s.afterAbandoned n part.kind).notices ∧ t.pen = (s.frameAt h.us).pen ∧ t.reports = s.reports)
    ∧ ∀ (s : State) (h : Hdr),
      s.takesRequests → s.osc.mode = .stopped → s.dvc.state = .critical →
      let kept := fun t : State =>
        t.base = (s.frameAt h.us).base ∧ t.pen = (s.frameAt h.us).pen ∧ t.entries = s.entries ∧ t.osc = s.osc
          ∧ t.reports = s.reports
          ∧ t.notices = s.notices
      let restarts := fun (t : State) (n : Nat) (part : PointingPart) =>
        t.entries = s.entries ∧ t.osc = s.osc ∧ t.reports = s.reports ∧ t.notices = s.notices ∧ t.squ = zeroSqu
          ∧ (t.pen.pointing.map fun p => (p.target, p.kind, p.frozenCopy)) = some (n, part.kind, part.frozenCopy)
          ∧ (t.pen.pointing.map fun p => (p.searchLeg, p.legsCompleted, p.ox, p.oy, p.attempts)) =
              some (part.searchLeg, part.legsCompleted, part.ox, part.oy, part.attempts)
          ∧ (t.pen.pointing.map fun p => (p.followCount, p.dwell, p.frozen, p.reservation)) =
              some (part.followCount, part.dwell, false, false)
          ∧ t.pen.pointing.all fun p => p.phase = .slew || p.phase = .settle
      ∀ c, s.dvc.critical = some c → c.cleared = true →
        (∀ n, c.context.target = some n → ∀ part, c.context.part = some part → c.priorState = .run → s.scs.burn = none →
            let sp := inverseReduction s part.frozenCopy.hz part.frozenCopy.v part.ox part.oy
            ∃ t : State, exec (.resume h) s = .next (t.replied h.tag .done []) ∧ t.base = (s.frameAt h.us).base
              ∧ t.dvc = { s.dvc with state := .run, cause := .none, resumeMode := none, critical := none } ∧ restarts t n part
              ∧ ((s.axis .h).motion = .held → (t.axis .h).waiting = some { setpoint := sp.h, requester := .pointing })
              ∧ ((s.axis .v).motion = .held → (t.axis .v).waiting = some { setpoint := sp.v, requester := .pointing }))
          ∧ (c.priorState = .run → c.context.target = none → s.pen.pointing = none →
              ∃ t : State, exec (.resume h) s = .next (t.replied h.tag .done []) ∧ kept t
                ∧ t.dvc = { s.dvc with state := .run, cause := .none, resumeMode := none, critical := none })
          ∧ (c.priorState = .stopping → (c.priorCause = .pause ∨ (c.priorCause = .level ∧ (s.dvc.level = .lost
            ∨ s.scs.burn ≠ none))) →
              ∃ t : State, exec (.resume h) s = .next (t.replied h.tag .done []) ∧ kept t
                ∧ t.dvc =
                    { s.dvc with
                      state := .held, cause := c.priorCause, resumeMode := some (if c.priorCause = .pause then .command else .auto),
                      critical := none,
                      ordinary :=
                        some
                          { target := c.context.target, part := c.context.part, cause := c.priorCause, recoverable := true,
                            savedAt := (s.frameAt h.us).stc.siteTime } })
          ∧ (c.priorState = .stopping → c.priorCause = .level → s.dvc.level = .level → s.scs.burn = none →
              (∀ n, c.context.target = some n → ∀ part, c.context.part = some part →
                  ∃ t : State, exec (.resume h) s = .next (t.replied h.tag .done []) ∧ t.base = (s.frameAt h.us).base
                    ∧ t.dvc =
                        { s.dvc with state := .run, cause := .none, resumeMode := none, critical := none, ordinary := none }
                    ∧ restarts t n part)
                ∧ (c.context.target = none → s.pen.pointing = none →
                    ∃ t : State, exec (.resume h) s = .next (t.replied h.tag .done []) ∧ kept t
                      ∧ t.dvc =
                          { s.dvc with state := .run, cause := .none, resumeMode := none, critical := none, ordinary := none }))
          ∧ (c.priorState = .held → (c.priorResume ≠ some .auto ∨ s.dvc.level = .lost ∨ s.scs.burn ≠ none) →
              ∃ t : State, exec (.resume h) s = .next (t.replied h.tag .done []) ∧ kept t
                ∧ t.dvc =
                    { s.dvc with state := .held, cause := c.priorCause, resumeMode := c.priorResume, critical := none })
          ∧ (c.priorState = .held → c.priorResume = some .auto → s.dvc.level = .level → s.scs.burn = none →
              ∀ o, s.dvc.ordinary = some o → o.recoverable = true → ∀ n, o.target = some n → ∀ part, o.part = some part →
              ∃ t : State, exec (.resume h) s = .next (t.replied h.tag .done []) ∧ t.base = (s.frameAt h.us).base
                ∧ t.dvc =
                    { s.dvc with state := .run, cause := .none, resumeMode := none, critical := none, ordinary := none }
                ∧ restarts t n part)
          ∧ (c.priorState = .halted →
              ∃ t : State, exec (.resume h) s = .next (t.replied h.tag .done []) ∧ kept t
                ∧ t.dvc = { s.dvc with state := .halted, cause := .halt, resumeMode := none, critical := none })

/-- R158 to R160, R34, R24, R25, with the scheduler STOPPED: RESUME from HELD with an empty context, RESUME from HALTED with
the line inactive, and ABANDON in HELD with an empty context return DVC to RUN with cause none and give no outcome. ABANDON's
refusals. ABANDON in HELD, and in CRITICAL once cleared with the HALT line inactive, frees both contexts: the target of a
scheduled or one-off context ends ABANDONED, once where both name it, with its pending definition applied in place of a
change of state, and a deferred entry of a one-off handed over. From HELD a periodic entry so ended is ARMED again with its
misses and countdown kept. -/
def Obligations.DiversionsEndWithoutAPointing : Prop :=
  (∀ (s : State) (h : Hdr), s.takesRequests → s.osc.mode = .stopped →
        let runs := fun (t : State) =>
          t.base = (s.frameAt h.us).base ∧ t.dvc.state = .run ∧ t.dvc.cause = .none ∧ t.dvc.resumeMode = none
            ∧ t.dvc.ordinary = none ∧ t.dvc.critical = s.dvc.critical ∧ t.pen = (s.frameAt h.us).pen ∧ t.entries = s.entries
            ∧ t.osc = s.osc ∧ t.notices = s.notices ∧ t.reports = s.reports
        (∀ c, s.dvc.state = .held → s.dvc.ordinary = some c → c.target = none → c.part = none → s.dvc.critical = none →
            (∃ t : State, exec (.resume h) s = .next (t.replied h.tag .done []) ∧ runs t)
              ∧ ∃ t : State, exec (.abandon h) s = .next (t.replied h.tag .done []) ∧ runs t)
          ∧ (s.dvc.state = .halted → s.dvc.haltLine = false → s.dvc.ordinary = none →
              ∃ t : State, exec (.resume h) s = .next (t.replied h.tag .done []) ∧ runs t))
    ∧ (∀ (s : State) (h : Hdr), s.takesRequests →
        ((s.dvc.state = .run ∨ s.dvc.state = .stopping ∨ s.dvc.state = .halted
            ∨ (s.dvc.state = .critical
                ∧ (s.dvc.haltLine = true ∨ ∀ c, s.dvc.critical = some c → c.cleared = false))) →
            exec (.abandon h) s = .next ((s.frameAt h.us).replied h.tag .state []))
          ∧ ∀ (c : Context) (n : Nat) (part : PointingPart) (e : Entry), s.dvc.state = .held → s.osc.mode = .stopped →
              s.dvc.ordinary = some c → s.dvc.critical = none → c.target = some n → c.part = some part →
              part.kind = .scheduled → s.entries[n]? = some e → e.pendingDef = none → e.definition.periodic = true →
              e.misses < s.station.n.missLimit →
              ∃ t : State, exec (.abandon h) s = .next (t.replied h.tag .done []) ∧ t.base = (s.frameAt h.us).base
                ∧ t.entries = s.entries.set n { e with state := .armed, lastOutcome := some .abandoned }
                ∧ t.dvc = { s.dvc with state := .run, cause := .none, resumeMode := none, ordinary := none, critical := none }
                ∧ t.pen = (s.frameAt h.us).pen ∧ t.osc = s.osc ∧ t.notices = s.notices ∧ t.reports = s.reports)
    ∧ ∀ (s : State) (h : Hdr),
      s.takesRequests → s.osc.mode = .stopped →
      let runs := fun t : State =>
        t.base = (s.frameAt h.us).base ∧ t.pen = (s.frameAt h.us).pen ∧ t.reports = s.reports
          ∧ t.dvc = { s.dvc with state := .run, cause := .none, resumeMode := none, ordinary := none, critical := none }
      let ends := fun (t : State) (n : Nat) (k : PointingKind) =>
        t.entries = (s.afterAbandoned n k).entries ∧ t.osc = (s.afterAbandoned n k).osc
          ∧ t.notices = (s.afterAbandoned n k).notices
      let left := (s.dvc.state = .held ∧ s.dvc.critical = none)
        ∨ (s.dvc.state = .critical ∧ s.dvc.haltLine = false ∧ ∃ r, s.dvc.critical = some r ∧ r.cleared = true)
      (left → (∀ c, s.dvc.ordinary = some c → c.target = none) → (∀ r, s.dvc.critical = some r → r.context.target = none) →
          ∃ t : State, exec (.abandon h) s = .next (t.replied h.tag .done []) ∧ runs t ∧ t.entries = s.entries ∧ t.osc = s.osc
            ∧ t.notices = s.notices)
        ∧ (left → ∀ c, s.dvc.ordinary = some c → ∀ n, c.target = some n → ∀ part, c.part = some part →
            (∀ r, s.dvc.critical = some r → r.context.part = none) →
            ∃ t : State, exec (.abandon h) s = .next (t.replied h.tag .done []) ∧ runs t ∧ ends t n part.kind)
        ∧ (left → s.dvc.ordinary = none → ∀ r, s.dvc.critical = some r → ∀ n, r.context.target = some n →
            ∀ part, r.context.part = some part →
            ∃ t : State, exec (.abandon h) s = .next (t.replied h.tag .done []) ∧ runs t ∧ ends t n part.kind)

/-- R161, R162, R40, R99, R144, R177: RESTART with both axes at rest applies the warm values at once: the pointing, the
ordinary context and a critical record with a pointing part of its own end ABANDONED, an entry named in both contexts once,
every ARMED, DUE, ACTIVE and BACKOFF entry is then ARMED from its offset, the scheduler is STOPPED with an empty queue, no
pointing, shot, jog or context remains, the summary is cleared and holds no notice but the SUSPENDED of an entry set aside at
its ABANDONED outcome (log entry 37, from R177), the guard progress is cleared and the level is LEVEL. A waiting setpoint
becomes absent (log entry 34: R99 against R83). The station block, the zenith table, the corrections and slots, a burn, the
reports, the reply queue, the lockout fault count, the drive reports and the histories are kept. With an axis in motion it
begins the restart stop with restart timer 0; a second RESTART in that stop is answered DONE and changes nothing. -/
def Obligations.RestartStopsAndWarms : Prop :=
  (∀ (s : State) (h : Hdr), s.takesRequests → s.dvc.state ≠ .lockout → s.restarting = false → s.shotReserved →
        (∀ a, (s.axis a).inMotion = false) →
        let cleared := ({ records := List.replicate 16 { pending := false, count := 0, lastTarget := none }, alertWaits := false } : Notices)
        let before : State := { s with notices := cleared }
        let warm := fun e : Entry =>
          if e.state = .armed ∨ e.state = .due ∨ e.state = .active ∨ e.state = .backoff then
            { e with state := .armed, countdown := e.definition.offset, misses := 0, retry := none, deferred := false }
          else if e.state = .empty then { e with countdown := 0, misses := 0, overruns := 0, retry := none, deferred := false }
          else { e with retry := none, deferred := false }
        let ends := fun (t : State) (n : Nat) (k : PointingKind) =>
          t.entries = (before.afterAbandoned n k).entries.map warm ∧ t.notices = (before.afterAbandoned n k).notices
        ∃ t : State, exec (.restart h) s = .next (t.replied h.tag .done []) ∧ t.base = (s.frameAt h.us).base
          ∧ t.dvc.state = .run ∧ t.dvc.cause = .none ∧ t.dvc.resumeMode = none ∧ t.dvc.ordinary = none
          ∧ t.dvc.critical = none ∧ t.dvc.restartTimer = none ∧ t.dvc.level = .level ∧ t.dvc.beyond = 0 ∧ t.dvc.within = 0
          ∧ t.dvc.report = s.dvc.report ∧ t.dvc.silenceAge = s.dvc.silenceAge ∧ t.dvc.lockoutFaults = s.dvc.lockoutFaults
          ∧ t.osc.mode = .stopped ∧ t.osc.queue = [] ∧ t.osc.counter = 0 ∧ t.osc.suspect = false
          ∧ t.osc.detectorReady = s.osc.detectorReady ∧ t.pen.pointing = none ∧ t.pen.shot = none
          ∧ t.pen.nextShotId = s.pen.nextShotId ∧ t.pen.lateRanges = s.pen.lateRanges ∧ t.squ = zeroSqu ∧ t.dsl.jog = .none
          ∧ t.reports.queue = s.reports.queue ∧ t.reports.nextSequence = s.reports.nextSequence ∧ t.reports.feedCount = 0
          ∧ t.sdu.groups = s.sdu.groups.map (fun g : DerateGroup => { g with active := false })
          ∧ (t.scu = (s.frameAt h.us).scu) ∧ t.apg.settle = none ∧ (∀ a, (t.axis a).waiting = none)
          ∧ t.entries.length = s.entries.length
          ∧ (∀ k, k ≠ .suspended → t.notices.record k = { pending := false, count := 0, lastTarget := none })
          ∧ (s.pen.pointing = none → (∀ c, s.dvc.ordinary = some c → c.target = none) →
              (∀ r, s.dvc.critical = some r → r.context.target = none) →
              t.entries = s.entries.map warm ∧ t.notices = cleared)
          ∧ (s.dvc.ordinary = none → s.dvc.critical = none → ∀ p, s.pen.pointing = some p → ends t p.target p.kind)
          ∧ (s.pen.pointing = none → (∀ r, s.dvc.critical = some r → r.context.part = none) →
              ∀ c, s.dvc.ordinary = some c → ∀ n, c.target = some n → ∀ part, c.part = some part → ends t n part.kind)
          ∧ (s.pen.pointing = none → s.dvc.ordinary = none → ∀ r, s.dvc.critical = some r → ∀ n, r.context.target = some n →
              ∀ part, r.context.part = some part → ends t n part.kind)
          ∧ ∀ e ∈ t.entries, e.state ≠ .due ∧ e.state ≠ .active ∧ e.state ≠ .backoff)
    ∧ (∀ (s : State) (h : Hdr), s.takesRequests →
        (s.restarting = true → exec (.restart h) s = .next ((s.frameAt h.us).replied h.tag .done []))
          ∧ (s.dvc.state ≠ .lockout → s.restarting = false → s.dvc.state.holds = false → (∀ a, (s.latestRaw a).isSome) →
              s.dsl.restartHold = both false → (∃ a, (s.axis a).inMotion = true ∧ (s.axis a).s ≠ 0) →
              ∃ t : State, exec (.restart h) s = .next (t.replied h.tag .done []) ∧ t.base = (s.frameAt h.us).base
                ∧ t.dvc.state = .stopping ∧ t.dvc.cause = .restart ∧ t.dvc.restartTimer = some 0 ∧ t.pen.pointing = none
                ∧ (s.pen.pointing ≠ none → t.pen.shot = none) ∧ t.dsl.jog = .none
                ∧ (∀ a, (s.axis a).inMotion = true → (s.axis a).s ≠ 0 →
                    (t.axis a).setpoint = some ((s.axis a).stopPoint a) ∧ (t.axis a).requester = .diversion
                      ∧ (t.axis a).s = (s.axis a).s)
                ∧ t.reports = s.reports ∧ t.station = s.station))

/-- R137, R138, R140, R141 and log entries 2, 3 and 24: every refusal of JOG in order; an accepted JOG stores each speed
clamped to ± the axis's effective speed, sends an axis with a speed not 0, at rest or in motion, to its far end with
requester JOG, stops one with speed 0, grants the lease and selects JOG; PARK in LEASED and LEASE_EXPIRY make the phase
STOPPING, which keeps the jog speeds (log entry 24), and stop the axes under control; without a lease they change nothing. -/
def Obligations.JoggingGrantsAndEndsALease : Prop :=
  (∀ (s : State) (h : Hdr) (x y : Int), s.takesRequests → s.dvc.state ≠ .lockout →
        (s.scs.burn ≠ none → exec (.jog h x y) s = .next ((s.frameAt h.us).replied h.tag .burning []))
          ∧ (s.scs.burn = none → s.pen.pointing ≠ none →
              exec (.jog h x y) s = .next ((s.frameAt h.us).replied h.tag .busy []))
          ∧ (s.scs.burn = none → s.pen.pointing = none →
              (s.dvc.state ≠ .run ∨ ∃ a, (s.axis a).motion = .held) →
              exec (.jog h x y) s = .next ((s.frameAt h.us).replied h.tag .state [])))
    ∧ (∀ (s : State) (h : Hdr) (x y : Int),
        s.takesRequests → s.dvc.state = .run → s.scs.burn = none → s.pen.pointing = none →
        (∀ a, (s.axis a).motion ≠ .held) → (∀ a, s.dsl.selected.get a ≠ .hold) → (∀ a, (s.latestRaw a).isSome) →
        s.dsl.restartHold = both false →
        let jH := max (-(s.effectiveSpeed .h : Int)) (min x (s.effectiveSpeed .h))
        let jV := max (-(s.effectiveSpeed .v : Int)) (min y (s.effectiveSpeed .v))
        let stops := fun (a : Axis) (t : State) =>
          ((s.axis a).inMotion = false → (t.axis a).motion = .still ∧ (t.axis a).setpoint = (s.axis a).p)
            ∧ ((s.axis a).inMotion = true → (s.axis a).s ≠ 0 →
                (t.axis a).setpoint = some ((s.axis a).stopPoint a) ∧ (t.axis a).requester = .jog)
        ∃ t : State, exec (.jog h x y) s = .next (t.replied h.tag .done []) ∧ t.base = (s.frameAt h.us).base
          ∧ t.dsl.jog = .leased s.station.n.jogLease { h := jH, v := jV } ∧ t.dsl.selected = both .jog
          ∧ (0 < jH → (t.axis .h).setpoint = some (mod24 ((s.axis .h).pos + 8000000)) ∧ (t.axis .h).requester = .jog)
          ∧ (jH < 0 → (t.axis .h).setpoint = some (mod24 ((s.axis .h).pos - 8000000)) ∧ (t.axis .h).requester = .jog)
          ∧ (0 < jV → (t.axis .v).setpoint = some s.station.n.vMax ∧ (t.axis .v).requester = .jog)
          ∧ (jV < 0 → (t.axis .v).setpoint = some s.station.n.vMin ∧ (t.axis .v).requester = .jog)
          ∧ (jH = 0 → stops .h t) ∧ (jV = 0 → stops .v t)
          ∧ (∀ a, (t.axis a).p = (s.axis a).p ∧ ((s.axis a).inMotion = true → (s.axis a).s ≠ 0 → (t.axis a).s = (s.axis a).s))
          ∧ t.dvc = s.dvc ∧ t.entries = s.entries ∧ t.osc = s.osc ∧ t.notices = s.notices ∧ t.reports = s.reports)
    ∧ (∀ (s : State) (n : Nat) (speed : PerAxis Int), s.dsl.jog = .leased n speed → s.dvc.state = .run → s.pen.pointing = none →
        (∀ a, (s.latestRaw a).isSome) → s.dsl.restartHold = both false →
        (∃ a, (s.axis a).inMotion = true ∧ (s.axis a).s ≠ 0) →
        let stops := fun (t : State) =>
          t.dsl.jog = .stopping speed ∧ (∀ a, (s.axis a).inMotion = true → (s.axis a).s ≠ 0 →
              (t.axis a).setpoint = some ((s.axis a).stopPoint a) ∧ (t.axis a).requester = .jog
                ∧ (t.axis a).p = (s.axis a).p ∧ (t.axis a).s = (s.axis a).s)
            ∧ t.dvc = s.dvc ∧ t.entries = s.entries ∧ t.notices = s.notices ∧ t.pen.pointing = none ∧ t.osc = s.osc
        (∀ h : Hdr, s.takesRequests →
            ∃ t : State, exec (.park h) s = .next (t.replied h.tag .done []) ∧ t.base = (s.frameAt h.us).base ∧ stops t)
          ∧ ∃ t : State, exec .leaseExpiry s = .next t ∧ t.base = s.base ∧ stops t)
    ∧ (∀ s : State, (∀ n speed, s.dsl.jog ≠ .leased n speed) →
        (∀ h : Hdr, s.takesRequests → s.dvc.state ≠ .lockout →
            exec (.park h) s = .next ((s.frameAt h.us).replied h.tag .done []))
          ∧ exec .leaseExpiry s = .next s)

/-- R167, R168, R170 and log entry 2: KEY changes nothing but the guard progress; BURN draws the first refusal of its list
and sets the progress to 0, or starts the burn; BURN_COMPLETION, with the part at rest, makes the slot FIXED and removes the
soft correction where the cell shows the value, and makes it SPOILED otherwise. No other slot or correction changes. -/
def Obligations.BurnsNeedTheirSequence : Prop :=
  (∀ (s : State) (h : Hdr) (k : Nat), s.takesRequests →
        (s.dvc.state = .lockout → exec (.key h k) s = .next ((s.frameAt h.us).answered h.tag .lockout [] 0))
          ∧ (s.dvc.state ≠ .lockout → (k < 1 ∨ 4 < k) →
              exec (.key h k) s = .next ((s.frameAt h.us).answered h.tag .range [] 0))
          ∧ (s.dvc.state ≠ .lockout → 1 ≤ k → k ≤ 4 →
              exec (.key h k) s =
                .next
                  ((s.frameAt h.us).answered h.tag .done []
                    (if k = s.scs.guard + 1 then k else if k = 1 then 1 else 0))))
    ∧ (∀ (s : State) (h : Hdr) (axis sector : Nat) (value : Int), s.takesRequests → s.dvc.state ≠ .lockout →
        let bad := 1 < axis ∨ 31 < sector ∨ value < -2048 ∨ 2047 < value
        (s.scs.burn ≠ none → exec (.burn h axis sector value) s = .next ((s.frameAt h.us).replied h.tag .burning []))
          ∧ (s.scs.burn = none → s.scs.guard ≠ 4 →
              exec (.burn h axis sector value) s = .next ((s.frameAt h.us).replied h.tag .state []))
          ∧ (s.scs.burn = none → s.scs.guard = 4 → bad →
              exec (.burn h axis sector value) s = .next ((s.frameAt h.us).replied h.tag .range []))
          ∧ ∀ a : Axis, s.scs.burn = none → s.scs.guard = 4 → ¬bad → axis = (axisCode a).toNat →
              ((s.scs.slots.get a).getD sector .blank ≠ .blank →
                  exec (.burn h axis sector value) s = .next ((s.frameAt h.us).replied h.tag .fixed []))
                ∧ ((s.scs.slots.get a).getD sector .blank = .blank →
                    (s.pen.pointing ≠ none ∨ s.dsl.jog ≠ .none ∨ ∃ b, (s.axis b).inMotion = true) →
                    exec (.burn h axis sector value) s = .next ((s.frameAt h.us).replied h.tag .busy []))
                ∧ ((s.scs.slots.get a).getD sector .blank = .blank → s.pen.pointing = none → s.dsl.jog = .none →
                    (∀ b, (s.axis b).inMotion = false) →
                    exec (.burn h axis sector value) s =
                      .next
                        (State.replied
                          { s.frameAt h.us with
                            scs := { s.scs with burn := some { axis := a, sector := sector, value := value, timer := 0 } } }
                          h.tag .done [])))
    ∧ (∀ (s : State) (cell : CellRead),
        (s.scs.burn = none → exec (.burnCompletion cell) s = .next s)
          ∧ ∀ b : Burn, s.AtRest → s.scs.burn = some b →
              (cell = .value b.value →
                  exec (.burnCompletion cell) s =
                    .next
                      (State.raise
                        { s with
                          scs :=
                            { s.scs with
                              slots := s.scs.slots.set b.axis ((s.scs.slots.get b.axis).set b.sector (.fixed b.value))
                              soft := s.scs.soft.set b.axis ((s.scs.soft.get b.axis).set b.sector none)
                              burn := none } }
                        .burnDone none))
                ∧ (cell ≠ .value b.value →
                    exec (.burnCompletion cell) s =
                      .next
                        (State.raise
                          { s with
                            scs :=
                              { s.scs with
                                slots := s.scs.slots.set b.axis ((s.scs.slots.get b.axis).set b.sector .spoiled)
                                burn := none } }
                          .burnFailed none)))

/-! ### Motion of one axis -/

/-- R84: D(s) = q·s − a·q(q+1)/2 with q = floor(s/a); it is 0 from 0 to a, and D(s) = (s − a) + D(s − a) above a. Only the
held acceleration enters. -/
def Obligations.StoppingDistance : Prop :=
  ∀ a s : Nat, 0 < a →
    (stopDistance a s : Int) = ((s / a : Nat) : Int) * s - a * ((((s / a) * (s / a + 1)) / 2 : Nat) : Int)
      ∧ 2 * stopDistance a s = 2 * (s / a) * s - a * ((s / a) * (s / a + 1))
      ∧ (s ≤ a → stopDistance a s = 0)
      ∧ (a < s → stopDistance a s = (s - a) + stopDistance a (s - a))

/-- R85 to R87 and laws 1 and 2: the remaining distance, for H by the shorter way round and by plus at an exact half turn;
and one period of a MOVING axis that can stop before its setpoint. The speed changes by no more than the acceleration and
stays within the held maximum; the axis moves along its path by the speed its DRIVE frame carries; it either arrives, by a
last step of at most the acceleration, or goes on in the direction of its setpoint, nearer to it, and can still stop before
it. -/
def Obligations.MovingAxisObeysTheSpeedRule : Prop :=
  (∀ p sp : Int,
      remaining .v p sp = sp - p ∧ mod24 p = p % 16777216 ∧ (dirOf p = .minus ↔ p < 0)
        ∧ (0 ≤ p → p < 16777216 → 0 ≤ sp → sp < 16777216 →
            -8388608 < remaining .h p sp ∧ remaining .h p sp ≤ 8388608 ∧ (p + remaining .h p sp) % 16777216 = sp))
    ∧ (Dir.sign .plus = 1 ∧ Dir.sign .minus = -1)
    ∧ ∀ (ax : Axis) (r : AxisRec) (p sp : Int) (vmax acc cap : Nat), r.motion = .moving → r.p = some p → r.setpoint = some sp →
    0 < vmax → 0 < acc → 0 < cap → (ax = .h → 0 ≤ sp ∧ sp < 16777216 ∧ 0 ≤ p ∧ p < 16777216) →
    let d := remaining ax p sp
    d ≠ 0 → (0 < r.s → 0 < r.vmax ∧ 0 < r.acc ∧ r.s ≤ r.vmax ∧ stopDistance r.acc r.s ≤ d.natAbs ∧ r.dir = dirOf d) →
    let t := (r.period ax vmax acc cap).axis
    let a := if r.s = 0 then acc else r.acc
    let m := if r.s = 0 then vmax else r.vmax
    let v := t.stepSpeed.natAbs
    t.acc = a ∧ t.vmax = m ∧ 0 < v ∧ v ≤ m ∧ v ≤ r.s + a ∧ r.s ≤ v + a ∧ v ≤ max (min cap m) (r.s - a)
      ∧ t.stepSpeed = (if d < 0 then -(v : Int) else v)
      ∧ t.p = some (if ax = .h then mod24 (p + t.stepSpeed) else p + t.stepSpeed)
      ∧ t.setpoint = some sp ∧ t.requester = r.requester
      ∧ ((r.period ax vmax acc cap).arrives = true → t.motion = .still ∧ t.s = 0 ∧ t.p = some sp ∧ v = d.natAbs ∧ v ≤ a)
      ∧ ((r.period ax vmax acc cap).arrives = false →
          t.motion = .moving ∧ t.s = v ∧ t.dir = dirOf d ∧ remaining ax t.pos sp = d - t.stepSpeed
            ∧ (remaining ax t.pos sp).natAbs + v = d.natAbs ∧ stopDistance a v ≤ (remaining ax t.pos sp).natAbs
            ∧ dirOf (remaining ax t.pos sp) = dirOf d)

/-- R88 to R90: retargets, controlled stops and braking of an axis in motion with speed above 0. A retarget stays MOVING
exactly when the setpoint lies ahead and no nearer than the stopping distance; a controlled stop heads for the stop point,
MOVING above the acceleration and BRAKING at or below it; a braking axis sheds the acceleration at each period, keeps its
stop point, and at rest is STILL where it stands at its setpoint and MOVING toward it otherwise. -/
def Obligations.RetargetsStopsAndBraking : Prop :=
  ∀ (ax : Axis) (r : AxisRec) (p sp : Int) (req : Requester), (r.motion = .moving ∨ r.motion = .braking) → 0 < r.s →
    0 < r.acc → r.p = some p → (ax = .h → 0 ≤ p ∧ p < 16777216) →
    let dist := stopDistance r.acc r.s
    let stop := if ax = .h then mod24 (p + r.dir.sign * dist) else p + r.dir.sign * dist
    let d := remaining ax p sp
    (∃ t : AxisRec, r.retarget ax sp req = { axis := t, arrives := false }
        ∧ t = { r with setpoint := some sp, requester := req, motion := t.motion }
        ∧ (t.motion = .moving ↔ (dist ≤ d.natAbs ∧ d ≠ 0 ∧ r.dir = dirOf d))
        ∧ (t.motion = .moving ∨ t.motion = .braking))
      ∧ r.stopPoint ax = stop
      ∧ (dist < 8388608 →
          r.controlledStop ax req =
            { axis := { r with setpoint := some stop, requester := req, motion := if r.acc < r.s then .moving else .braking },
              arrives := false })
      ∧ (r.motion = .braking → ∀ vmax acc cap : Nat,
          let b := r.period ax vmax acc cap
          b.axis.s = r.s - r.acc ∧ b.axis.stepSpeed = r.dir.sign * ((r.s - r.acc : Nat) : Int)
            ∧ b.axis.stopPoint ax = stop
            ∧ b.axis.p = some (if ax = .h then mod24 (p + b.axis.stepSpeed) else p + b.axis.stepSpeed)
            ∧ (r.acc < r.s → b.arrives = false ∧ b.axis.motion = .braking ∧ b.axis.dir = r.dir)
            ∧ (r.s ≤ r.acc → b.axis.p = some p)
            ∧ (r.s ≤ r.acc → r.setpoint = some p → b.arrives = true ∧ b.axis.motion = .still)
            ∧ (r.s ≤ r.acc → r.setpoint = some sp → sp ≠ p →
                b.arrives = false ∧ b.axis.motion = .moving ∧ b.axis.dir = dirOf d))

/-! ### The spot qualifier, the reduction and the histories -/

/-- R102 to R104: the result of a frame, of which the first eight spots count (R101), and R113: the search offsets. No
candidate exactly when no spot qualifies. A chosen candidate is a qualifying spot, listed before every other of its score, of
least score; the frame is ambiguous exactly when another qualifying spot, at a different place in the list, has a score less
than ambig above the best. Leg n changes the offset by ceil(n/2) windows in the (n mod 4)th direction of its cycle. -/
def Obligations.SpotResultsAndSearchOffsets : Prop :=
  (∀ (d : Definition) (ambig : Int) (spots : List Spot), 0 ≤ ambig →
      let list := spots.take 8
      let score := fun x : Spot => (x.dx.natAbs : Int) + x.dy.natAbs
      let fits := fun (i : Nat) (x : Spot) =>
        list[i]? = some x ∧ -d.w ≤ x.dx ∧ x.dx ≤ d.w ∧ -d.w ≤ x.dy ∧ x.dy ≤ d.w ∧ d.ilo ≤ x.intensity ∧ x.intensity ≤ d.ihi
      let best := fun (i : Nat) (x : Spot) =>
        fits i x ∧ ∀ (j : Nat) (y : Spot), fits j y → score x < score y ∨ (score x = score y ∧ i ≤ j)
      let near := fun (i : Nat) (x : Spot) => ∃ (j : Nat) (y : Spot), j ≠ i ∧ fits j y ∧ score y - score x < ambig
      (spotResult d ambig spots = .noCandidate ↔ ∀ (i : Nat) (x : Spot), ¬fits i x)
        ∧ (spotResult d ambig spots = .ambiguous ↔ ∃ (i : Nat) (x : Spot), best i x ∧ near i x)
        ∧ ∀ o : Offset,
            spotResult d ambig spots = .chosen o ↔ ∃ (i : Nat) (x : Spot), best i x ∧ ¬near i x ∧ o = { dx := x.dx, dy := x.dy })
    ∧ (∀ w : Int, searchOffset w 0 = { dx := 0, dy := 0 })
    ∧ ∀ (w : Int) (k : Nat),
        let len := fun n : Nat => (((n + 1) / 2 : Nat) : Int) * w
        let o := fun n : Nat => searchOffset w n
        o (4 * k + 1) = { dx := (o (4 * k)).dx + len (4 * k + 1), dy := (o (4 * k)).dy }
          ∧ o (4 * k + 2) = { dx := (o (4 * k + 1)).dx, dy := (o (4 * k + 1)).dy + len (4 * k + 2) }
          ∧ o (4 * k + 3) = { dx := (o (4 * k + 2)).dx - len (4 * k + 3), dy := (o (4 * k + 2)).dy }
          ∧ o (4 * k + 4) = { dx := (o (4 * k + 3)).dx, dy := (o (4 * k + 3)).dy - len (4 * k + 4) }
          ∧ o (4 * k) = { dx := -(k : Int) * w, dy := -(k : Int) * w }

/-- R10, R14 to R17: the forward and the inverse reduction term by term, with the sector correction of the value each looks
up, the tilt pair, the index, the collimation and trunnion terms, the rounding and the orientation; LIMITED is set exactly
when the window clamp acts; the factor lookup interpolates between two rows, with its zenith clamped. Where no sector
correction and no clamp enters, forward reduction of the setpoints of a target with an image offset, with that offset as the
residual, gives the target's direction back; the V setpoint is always within the window; and the factors at a table row's
zenith are that row's. -/
def Obligations.ReductionsInvertEachOther : Prop :=
  (∀ (s : State) (ht vt ox oy : Int), 0 ≤ ht → ht < 16777216 → 0 ≤ vt → vt < 16777216 →
      (∀ a n, effectiveCorrection s.scs a n = 0) →
      (inverseReduction s ht vt ox oy).limited = false → s.station.n.vMin ≤ s.station.n.vMax →
      0 ≤ (inverseReduction s ht vt ox oy).v → (inverseReduction s ht vt ox oy).v < 16777216 →
      forwardReduction s (inverseReduction s ht vt ox oy).h (inverseReduction s ht vt ox oy).v { dx := ox, dy := oy } =
        { hz := ht, v := vt })
    ∧ (∀ (s : State) (ht vt ox oy : Int), s.station.n.vMin ≤ s.station.n.vMax →
        s.station.n.vMin ≤ (inverseReduction s ht vt ox oy).v ∧ (inverseReduction s ht vt ox oy).v ≤ s.station.n.vMax
          ∧ 0 ≤ (inverseReduction s ht vt ox oy).h ∧ (inverseReduction s ht vt ox oy).h < 16777216)
    ∧ (∀ (rows : List ZRow) (k : Nat) (x : ZRow), k ≤ 31 → rows[k]? = some x → factorAt rows (262144 * (k : Int)) = x)
    ∧ (∀ (rows : List ZRow) (k : Nat) (x y : ZRow) (r : Int), k ≤ 31 → rows[k]? = some x → rows[k + 1]? = some y → 0 ≤ r →
        r < 262144 → x.s ≤ y.s →
        x.s ≤ (factorAt rows (262144 * (k : Int) + r)).s ∧ (factorAt rows (262144 * (k : Int) + r)).s ≤ y.s)
    ∧ (∀ (s : State) (rH rV dx dy : Int),
        let σ := fun (a : Axis) (x : Int) =>
          let sector := ((x % 16777216) / 524288).toNat
          match (s.scs.slots.get a).getD sector .blank with
          | .fixed y => y
          | _ => ((s.scs.soft.get a).getD sector none).getD 0
        let tl : Int := if s.station.compEnable = true then (s.aru.tilt.map (·.tl)).getD 0 else 0
        let tc : Int := if s.station.compEnable = true then (s.aru.tilt.map (·.tc)).getD 0 else 0
        let v := ((rV + σ .v rV) % 16777216 + s.station.n.index + tl + dy) % 16777216
        let f := factorAt s.aru.zenith v
        let corr := (2 * ((s.station.n.coll + dx) * f.s + (s.station.n.trun + tc) * f.k) + 4096) / 8192
        forwardReduction s rH rV { dx := dx, dy := dy } =
          { hz := ((rH + σ .h rH) % 16777216 + corr + s.station.n.orient) % 16777216, v := v })
    ∧ (∀ (s : State) (ht vt ox oy : Int),
        let σ := fun (a : Axis) (x : Int) =>
          let sector := ((x % 16777216) / 524288).toNat
          match (s.scs.slots.get a).getD sector .blank with
          | .fixed y => y
          | _ => ((s.scs.soft.get a).getD sector none).getD 0
        let tl : Int := if s.station.compEnable = true then (s.aru.tilt.map (·.tl)).getD 0 else 0
        let tc : Int := if s.station.compEnable = true then (s.aru.tilt.map (·.tc)).getD 0 else 0
        let gV := vt - oy - s.station.n.index - tl
        let pV := gV - σ .v gV
        let f := factorAt s.aru.zenith vt
        let corr := (2 * ((s.station.n.coll + ox) * f.s + (s.station.n.trun + tc) * f.k) + 4096) / 8192
        let gH := (ht - s.station.n.orient - corr) % 16777216
        let sp := inverseReduction s ht vt ox oy
        s.station.n.vMin ≤ s.station.n.vMax →
        sp.h = (gH - σ .h gH) % 16777216 ∧ sp.v = max s.station.n.vMin (min pV s.station.n.vMax)
          ∧ (sp.limited = true ↔ pV < s.station.n.vMin ∨ s.station.n.vMax < pV))
    ∧ ∀ (rows : List ZRow) (z : Int),
      let row := fun k : Nat => rows.getD k { s := 4096, k := 0 }
      let k := (z / 262144).toNat
      let r := z % 262144
      let mid := fun x y : Int => x + (2 * ((y - x) * r) + 262144) / 524288
      (0 ≤ z → z ≤ 8388607 →
          factorAt rows z = { s := mid (row k).s (row (k + 1)).s, k := mid (row k).k (row (k + 1)).k })
        ∧ (z < 0 → factorAt rows z = factorAt rows 0) ∧ (8388607 < z → factorAt rows z = factorAt rows 8388607)

/-- R3, R125: the signed wrap difference, in −8,388,608–8,388,607 and congruent to a − b; the value of one axis at an
instant, over a history whose capture times rise: a stored sample's own value; between two consecutive samples the rounded
linear value, by the shorter way round for H; stale before the oldest; waiting after the newest and in an empty history. -/
def Obligations.InterpolationOfAHistory : Prop :=
  (∀ a b : Int, -8388608 ≤ wrapDiff a b ∧ wrapDiff a b < 8388608 ∧ (a - b - wrapDiff a b) % 16777216 = 0)
    ∧ ∀ (ax : Axis) (hist : List Sample) (t : Int), hist.Pairwise (fun x y => x.time < y.time) →
    (hist = [] → interpolate ax hist t = .waits)
      ∧ (∀ x, x ∈ hist → x.time = t → interpolate ax hist t = .value x.raw)
      ∧ (∀ (i : Nat) (a b : Sample), hist[i]? = some a → hist[i + 1]? = some b → a.time < t → t < b.time →
          interpolate ax hist t =
            .value
              (match ax with
                | .v => a.raw + (2 * ((b.raw - a.raw) * (t - a.time)) + (b.time - a.time)) / (2 * (b.time - a.time))
                | .h =>
                  (a.raw + (2 * (wrapDiff b.raw a.raw * (t - a.time)) + (b.time - a.time)) / (2 * (b.time - a.time)))
                    % 16777216))
      ∧ (∀ x, hist.head? = some x → t < x.time → interpolate ax hist t = .stale)
      ∧ ∀ x, hist.getLast? = some x → x.time < t → interpolate ax hist t = .waits

/-! ### Frames from the axes -/

/-- R124, R126, R153, R132: an ANGLE frame always sets the silence age of its axis to 0. A sample not later than the newest
is discarded and does nothing else. An accepted sample joins the history, which keeps its 128 newest, and marks the axis
fresh (the model's flag for R157, log entry 26); an H sample also moves the direction feed, which at feed_div forms the
DIRECTION of the newest samples. Where a capture waits for the axis, with its pointing in flight or frozen (R122), the sample
gives the value once the history reaches the capture's time: kept while the other axis waits, and completing the capture when
it is the second. -/
def Obligations.AngleFramesFillTheHistory : Prop :=
  (∀ (s : State) (us : Nat) (a : Axis) (raw : Int) (age : Nat),
      let u : State := { s.advanceTo us with link := { (s.advanceTo us).link with rxAxis := [] } }
      let time : Int := (u.stc.siteTime : Int) - (age : Int)
      let past := u.scu.history.get a
      let x : Sample := { time := time, raw := raw }
      let d : Dvc := { u.dvc with silenceAge := u.dvc.silenceAge.set a 0 }
      let t : State :=
        { u with
          scu := { history := u.scu.history.set a (if past.length < 128 then past ++ [x] else past.drop 1 ++ [x]) }
          dvc := { d with fresh := u.dvc.fresh.set a true } }
      ((∃ y, past.getLast? = some y ∧ time ≤ y.time) → exec (.angleFrame us a raw age) s = .next { u with dvc := d })
        ∧ ((past = [] ∨ ∃ y, past.getLast? = some y ∧ y.time < time) → u.dsl.selected = both .hold → u.dsl.jog = .none →
            u.dvc.state ≠ .stopping → u.pen.shot = none → u.apg.settle = none → (a = .v ∨ u.station.n.feedDiv = 0) →
            exec (.angleFrame us a raw age) s = .next t)
        ∧ ((∃ y, past.getLast? = some y ∧ y.time < time) → u.AtRest →
            ((a = .v ∨ u.station.n.feedDiv = 0) → exec (.angleFrame us a raw age) s = .next t)
              ∧ (a = .h → u.station.n.feedDiv ≠ 0 → u.reports.feedCount + 1 ≠ u.station.n.feedDiv →
                  exec (.angleFrame us a raw age) s =
                    .next { t with reports := { u.reports with feedCount := u.reports.feedCount + 1 } })
              ∧ (∀ rV : Int, a = .h → u.reports.feedCount + 1 = u.station.n.feedDiv → u.latestRaw .v = some rV →
                  let hd := forwardReduction u raw rV { dx := 0, dy := 0 }
                  exec (.angleFrame us a raw age) s =
                    .next
                      { t with
                        reports :=
                          { u.reports with
                            feedCount := 0
                            direction := some { siteTime := (time % 281474976710656).toNat, hz := hd.hz, v := hd.v } } })))
    ∧ ∀ (s : State) (us : Nat) (a : Axis) (raw : Int) (age id : Nat) (c : Capture) (p : Pointing),
      let u : State := { s.advanceTo us with link := { (s.advanceTo us).link with rxAxis := [] } }
      let time : Int := (u.stc.siteTime : Int) - (age : Int)
      let past := u.scu.history.get a
      let x : Sample := { time := time, raw := raw }
      let after := if past.length < 128 then past ++ [x] else past.drop 1 ++ [x]
      let t : State :=
        { u with
          scu := { history := u.scu.history.set a after }
          dvc := { u.dvc with silenceAge := u.dvc.silenceAge.set a 0, fresh := u.dvc.fresh.set a true } }
      let other := if a = .h then c.found.v else c.found.h
      (u.InFlight p ∨ u.Frozen p) → u.apg.settle = none → (a = .v ∨ u.station.n.feedDiv = 0) →
      u.pen.shot = some { id := id, stage := .awaitingAngles c } → (∀ y, past.getLast? = some y → y.time < time) →
      (c.found.get a ≠ none → exec (.angleFrame us a raw age) s = .next t)
        ∧ (c.found.get a = none → interpolate a after c.time = .waits → exec (.angleFrame us a raw age) s = .next t)
        ∧ ∀ y : Int, c.found.get a = none → interpolate a after c.time = .value y →
            (other = none →
                exec (.angleFrame us a raw age) s =
                  .next
                    { t with
                      pen :=
                        { u.pen with
                          shot := some { id := id, stage := .awaitingAngles { c with found := c.found.set a (some y) } } } })
              ∧ (other ≠ none → exec (.angleFrame us a raw age) s = exec (.captureComplete y y) t)

/-- R153, R143 to R145: a DRIVE_STATUS frame that makes no fault event, in every DVC state (at rest, held, with a pointing in
flight, or frozen in a stop that goes on), stores the report and the temperature, offers it to the groups that take it, and
raises DERATE exactly when the selected fraction's value changes. A FAULT of the cause already reported makes no fault event;
a fault event in LOCKOUT is only counted (R155). CLEAR reads the READY so stored in CRITICAL (R157). -/
def Obligations.DriveStatusFramesReport : Prop :=
  ∀ (s : State) (us : Nat) (a : Axis) (c : DriveFault) (temp : Int),
    let u : State := { s.advanceTo us with link := { (s.advanceTo us).link with rxAxis := [] } }
    let source : DerateSource := if a = .h then .driveHTemp else .driveVTemp
    let groups :=
      u.sdu.groups.map fun g : DerateGroup =>
        if g.definition.enable = true ∧ g.definition.source = source then
          if g.definition.high < temp then { g with active := true }
          else if temp < g.definition.low then { g with active := false }
          else g
        else g
    let f := selectedFraction u.sdu.groups
    let g := selectedFraction groups
    let heated := fun (d : Dvc) =>
      let t : State :=
        { u with
          dvc := d
          sdu :=
            { u.sdu with
              driveTemp := u.sdu.driveTemp.set a { value := some temp, age := 0, stale := false }, groups := groups } }
      if f.1 * g.2 = g.1 * f.2 then t else t.raise .derate none
    (u.Steady →
        exec (.driveStatusFrame us a .ready temp) s = .next (heated { u.dvc with report := u.dvc.report.set a .ready }))
      ∧ (u.Steady → u.dvc.report.get a = .fault c →
          exec (.driveStatusFrame us a (.fault c) temp) s = .next (heated u.dvc))
      ∧ (u.dvc.state = .lockout → u.dsl.selected = both .hold → u.dsl.jog = .none → u.dvc.report.get a ≠ .fault c →
          exec (.driveStatusFrame us a (.fault c) temp) s =
            .next
              (heated
                { u.dvc with
                  report := u.dvc.report.set a (.fault c), lockoutFaults := min (u.dvc.lockoutFaults + 1) 255 }))

/-- R154, R155, R161: a fault event, of a DRIVE_STATUS frame or of a silent encoder (ENCODER_SILENCE at any silence age, log
entry 2). With critical_enable on, in any DVC state but CRITICAL, LOCKOUT and the restart stop, DVC enters CRITICAL with that
cause, the critical record takes the pointing in flight (or, in HELD, the ordinary context's target) with the state before,
the ordinary context is kept, no pointing, shot or jog remains and both axes are held, not fresh (log entry 26), and
DRIVE_FAULT is raised with the record's target; with it off DVC enters LOCKOUT, a pointing in flight ends ABANDONED at the
table, and LOCKOUT is raised with no target. In CRITICAL an event of the axis of the cause, not yet cleared, changes no more
than the report and raises nothing; any other leads to LOCKOUT. A DERATE notice that the same frame's temperature brings
joins them (R145). In the restart stop the warm values come first, and the fault is then taken as in RUN with no pointing,
its notice in the cleared summary. -/
def Obligations.FaultsLeadToCriticalOrLockout : Prop :=
  (∀ (s : State) (us : Nat) (a : Axis) (c : DriveFault) (temp : Int),
      let u : State := { s.advanceTo us with link := { (s.advanceTo us).link with rxAxis := [] } }
      let told := fun (u t : State) (n : Notices) =>
        let f := selectedFraction u.sdu.groups
        let g := selectedFraction t.sdu.groups
        t.notices = if f.1 * g.2 = g.1 * f.2 then n else n.raise .derate none
      let held := fun (u t : State) =>
        t.dsl.jog = .none ∧ t.dsl.selected = both .hold
          ∧ ∀ b, (t.axis b).motion = .held ∧ (t.axis b).p = (u.axis b).p
              ∧ (u.dsl.selected.get b ≠ .hold → (t.axis b).s = 0 ∧ (t.axis b).setpoint = none)
      let critical := fun (u t : State) (cause : Cause) =>
        let target :=
          match u.pen.pointing with
          | some p => some p.target
          | none => if u.dvc.state = .held then u.dvc.ordinary.bind (·.target) else none
        t.dvc.state = .critical ∧ t.dvc.cause = cause ∧ t.dvc.resumeMode = none ∧ t.dvc.ordinary = u.dvc.ordinary
          ∧ t.dvc.critical =
              some
                { context :=
                    { target := target,
                      part :=
                        u.pen.pointing.map fun p =>
                          Pointing.part { p with attempts := p.attempts - (if u.pen.shot = none then 0 else 1) },
                      cause := cause, recoverable := true, savedAt := u.stc.siteTime },
                  priorState := u.dvc.state, priorCause := u.dvc.cause, priorResume := u.dvc.resumeMode, cleared := false }
          ∧ t.dvc.fresh = both false ∧ t.pen.pointing = none ∧ t.pen.shot = none ∧ held u t ∧ t.entries = u.entries
          ∧ t.osc = u.osc ∧ t.reports = u.reports ∧ told u t (u.notices.raise .driveFault target)
      let lockout := fun (u t : State) (cause : Cause) =>
        let ended :=
          match u.pen.pointing with
          | some p => u.afterAbandoned p.target p.kind
          | none => u
        t.dvc.state = .lockout ∧ t.dvc.cause = cause ∧ t.dvc.resumeMode = none ∧ t.dvc.ordinary = u.dvc.ordinary
          ∧ t.dvc.critical = u.dvc.critical ∧ t.pen.pointing = none ∧ held u t ∧ t.reports = u.reports
          ∧ t.entries = ended.entries ∧ t.osc = ended.osc ∧ told u t (ended.notices.raise .lockout none)
      let fault : Instr := .driveStatusFrame us a (.fault c) temp
      let elsewhere := fun (u : State) => u.dvc.state ≠ .critical ∧ u.dvc.state ≠ .lockout ∧ u.restarting = false
      ((∀ b, u.axisHeldLaw b) → u.dvc.report.get a ≠ .fault c → elsewhere u →
          ∃ t : State, exec fault s = .next t ∧ t.dvc.report = u.dvc.report.set a (.fault c)
            ∧ (u.station.criticalEnable = true → critical u t (.drive a c))
            ∧ (u.station.criticalEnable = false → lockout u t (.drive a c)))
        ∧ ((∀ b, u.axisHeldLaw b) → u.dvc.report.get a ≠ .fault c → u.dvc.state = .critical → u.dsl.selected = both .hold →
            u.pen.pointing = none → u.dsl.jog = .none → ∀ r, u.dvc.critical = some r →
            ∃ t : State, exec fault s = .next t ∧ t.dvc.report = u.dvc.report.set a (.fault c)
              ∧ ((u.dvc.cause.axis = some a ∧ r.cleared = false) →
                    t.dvc = { u.dvc with report := t.dvc.report } ∧ told u t u.notices)
              ∧ (¬(u.dvc.cause.axis = some a ∧ r.cleared = false) → lockout u t (.drive a c)))
        ∧ ((s.axis a).motion = .held → exec (.encoderSilence a) s = .next s)
        ∧ ((s.axis a).motion ≠ .held → (∀ b, s.axisHeldLaw b) → (∀ f, s.dvc.report.get a ≠ .fault f) → elsewhere s →
            ∃ t : State, exec (.encoderSilence a) s = .next t ∧ t.dvc.silenceAge = s.dvc.silenceAge.set a 0
              ∧ (s.station.criticalEnable = true → critical s t (.silence a))
              ∧ (s.station.criticalEnable = false → lockout s t (.silence a))))
    ∧ ∀ (s : State) (us : Nat) (a : Axis) (c : DriveFault) (temp : Int),
      let u : State := { s.advanceTo us with link := { (s.advanceTo us).link with rxAxis := [] } }
      let warmed := fun (u t : State) (cause : Cause) =>
        t.osc.mode = .stopped ∧ t.osc.queue = [] ∧ t.pen.pointing = none ∧ t.dsl.jog = .none ∧ t.dsl.selected = both .hold
          ∧ (∀ b, (t.axis b).motion = .held ∧ (t.axis b).p = (u.axis b).p ∧ (u.dsl.selected.get b ≠ .hold →
              (t.axis b).s = 0 ∧ (t.axis b).setpoint = none))
          ∧ t.dvc.cause = cause ∧ t.dvc.ordinary = none ∧ t.dvc.restartTimer = none ∧ t.dvc.level = .level
          ∧ (∀ e ∈ t.entries, e.state ≠ .due ∧ e.state ≠ .active ∧ e.state ≠ .backoff)
          ∧ (u.station.criticalEnable = true →
              t.dvc.state = .critical
                ∧ t.dvc.critical =
                    some
                      { context := { target := none, part := none, cause := cause, recoverable := true, savedAt := u.stc.siteTime },
                        priorState := .run, priorCause := .none, priorResume := none, cleared := false }
                ∧ t.notices.record .driveFault = { pending := true, count := 1, lastTarget := none })
          ∧ (u.station.criticalEnable = false →
              t.dvc.state = .lockout ∧ t.dvc.critical = none
                ∧ t.notices.record .lockout = { pending := true, count := 1, lastTarget := none })
      ((∀ b, u.axisHeldLaw b) → u.restarting = true → u.pen.pointing = none → u.dvc.report.get a ≠ .fault c →
          ∃ t : State, exec (.driveStatusFrame us a (.fault c) temp) s = .next t
            ∧ t.dvc.report = u.dvc.report.set a (.fault c) ∧ warmed u t (.drive a c))
        ∧ ((∀ b, s.axisHeldLaw b) → s.restarting = true → s.pen.pointing = none → (s.axis a).motion ≠ .held →
            (∀ f, s.dvc.report.get a ≠ .fault f) →
            ∃ t : State, exec (.encoderSilence a) s = .next t ∧ t.dvc.silenceAge = s.dvc.silenceAge.set a 0
              ∧ warmed s t (.silence a))

/-! ### Frames from the camera, the ranger and the tilt sensor -/

/-- R61, R53, R65 to R68, R71, R80: a SPOT frame always makes detector-ready yes and the silence count 0. It is set aside
while the pointing is frozen in a PAUSE or LEVEL stop. It is not taken in SLEW, SETTLE and SEARCH_MOVE, nor in ACQUIRE and
LOOK unless its capture is later than the settle time. In ACQUIRE and LOOK a candidate begins LOCKING (or CENTRE, with lock_n
1), and an empty frame counts in ACQUIRE until search leg 1 begins; in LOOK it ends the leg: the next begins, and after the
last the pointing ends OBSCURED. In LOCKING the lock count goes up with a consistent candidate, and an empty frame goes back
to ACQUIRE, or on from the leg where the lock began. An ambiguous frame counts, and at ambig_limit the pointing ends CROWDED.
PARTIAL stands for either outcome of a TRACK pointing that has made a record (R77). -/
def Obligations.SpotFramesBeforeTheLock : Prop :=
  (∀ (s : State) (us age : Nat) (spots : List Spot),
        let u : State := { s.advanceTo us with link := { (s.advanceTo us).link with rxSensor := [] } }
        u.AtRest → exec (.spotFrame us age spots) s = .next { u with osc := { u.osc with detectorReady := true } })
    ∧ (∀ (s : State) (us age : Nat) (spots : List Spot) (p : Pointing),
        let u : State := { s.advanceTo us with link := { (s.advanceTo us).link with rxSensor := [] } }
        u.Frozen p → u.stopWaits →
        exec (.spotFrame us age spots) s =
          .next
            { u with
              osc := { u.osc with detectorReady := true }, pen := { u.pen with pointing := some { p with silence := 0 } } })
    ∧ ∀ (s : State) (us age : Nat) (spots : List Spot) (p : Pointing),
      let u : State := { s.advanceTo us with link := { (s.advanceTo us).link with rxSensor := [] } }
      let time : Int := (u.stc.siteTime : Int) - (age : Int)
      let ready : State := { u with osc := { u.osc with detectorReady := true } }
      let frame : Instr := .spotFrame us age spots
      u.InFlight p →
      let n := u.station.n
      let r := spotResult p.frozenCopy n.ambig spots
      let w := fun (q : Pointing) (c : Squ) =>
        ({ ready with pen := { u.pen with pointing := some { q with silence := 0 } }, squ := c } : State)
      let late := ∃ x, p.settleTime = some x ∧ x < time
      let looks := p.phase = .acquire ∨ p.phase = .look
      let soft := fun o : Verdict => if p.frozenCopy.kind = .track ∧ 1 ≤ p.followCount then .partialDone else o
      let locks := fun (q : Pointing) (count : Nat) (o : Offset) =>
        let c : Squ := { u.squ with lock := count, previous := some o, last := some { at_ := o, time := time } }
        if count = n.lockN then w { q with phase := .centre, onAim := false } { c with loss := 0, centre := 0 }
        else w { q with phase := .locking } c
      let leg := fun (k done : Nat) (c : Squ) =>
        let o := searchOffset p.frozenCopy.w k
        let sp := inverseReduction u p.frozenCopy.hz p.frozenCopy.v o.dx o.dy
        ∃ (t : State) (q : Pointing), exec frame s = .next t ∧ t.pen.pointing = some q ∧ q.searchLeg = k ∧ q.legsCompleted = done
          ∧ q.ox = o.dx ∧ q.oy = o.dy ∧ (q.phase = .searchMove ∨ q.phase = .settle) ∧ q.limited = (p.limited || sp.limited)
          ∧ (t.axis .h).setpoint = some sp.h ∧ (t.axis .v).setpoint = some sp.v ∧ (∀ a, (t.axis a).requester = .pointing)
          ∧ (∀ a, (t.axis a).p = (u.axis a).p) ∧ t.squ = c ∧ t.osc = ready.osc ∧ t.entries = u.entries ∧ t.dvc = u.dvc
          ∧ t.reports = u.reports ∧ t.notices = u.notices
      ((p.phase = .slew ∨ p.phase = .settle ∨ p.phase = .searchMove ∨ (looks ∧ ¬late)) → exec frame s = .next (w p u.squ))
        ∧ (looks → late → ∀ o, r = .chosen o →
            exec frame s = .next (locks { p with source := if p.phase = .acquire then .acquire else .search p.searchLeg } 1 o))
        ∧ (looks → late → r = .ambiguous → u.squ.ambiguity + 1 ≠ n.ambigLimit →
            exec frame s = .next (w p { u.squ with ambiguity := u.squ.ambiguity + 1 }))
        ∧ ((looks ∧ late ∨ p.phase = .locking) → r = .ambiguous → u.squ.ambiguity + 1 = n.ambigLimit → u.MayEnd p →
            exec frame s = .next ((w p { u.squ with ambiguity := u.squ.ambiguity + 1 }).afterEnd p (soft .crowded)))
        ∧ (p.phase = .acquire → late → r = .noCandidate → u.squ.acquire + 1 ≠ n.acqFrames →
            exec frame s = .next (w p { u.squ with acquire := u.squ.acquire + 1 }))
        ∧ (p.phase = .acquire → late → r = .noCandidate → u.squ.acquire + 1 = n.acqFrames →
            leg 1 p.legsCompleted { u.squ with acquire := u.squ.acquire + 1 })
        ∧ (p.phase = .look → late → r = .noCandidate → p.searchLeg < n.searchLegs →
            leg (p.searchLeg + 1) p.searchLeg u.squ)
        ∧ (p.phase = .look → late → r = .noCandidate → n.searchLegs ≤ p.searchLeg → u.MayEnd p →
            exec frame s = .next ((w { p with legsCompleted := p.searchLeg } u.squ).afterEnd p (soft .obscured)))
        ∧ (p.phase = .locking → ∀ o, r = .chosen o →
            (∀ x, u.squ.previous = some x → u.squ.lock ≠ 0 → -n.lockTol ≤ o.dx - x.dx → o.dx - x.dx ≤ n.lockTol →
                -n.lockTol ≤ o.dy - x.dy → o.dy - x.dy ≤ n.lockTol →
                exec frame s = .next (locks p (u.squ.lock + 1) o))
              ∧ ((u.squ.lock = 0 ∨ ∀ x, u.squ.previous = some x →
                    o.dx - x.dx < -n.lockTol ∨ n.lockTol < o.dx - x.dx ∨ o.dy - x.dy < -n.lockTol
                      ∨ n.lockTol < o.dy - x.dy) →
                  exec frame s = .next (locks p 1 o)))
        ∧ (p.phase = .locking → r = .ambiguous → u.squ.ambiguity + 1 ≠ n.ambigLimit →
            exec frame s = .next (w p { u.squ with ambiguity := u.squ.ambiguity + 1, lock := 0 }))
        ∧ (p.phase = .locking → r = .noCandidate → p.source = .acquire → n.acqFrames ≠ 1 →
            exec frame s = .next (w { p with phase := .acquire } { u.squ with lock := 0, acquire := 1 }))
        ∧ (p.phase = .locking → r = .noCandidate → p.source = .acquire → n.acqFrames = 1 →
            leg 1 p.legsCompleted { u.squ with lock := 0, acquire := 1 })
        ∧ (p.phase = .locking → r = .noCandidate → p.source = .search p.searchLeg → p.searchLeg < n.searchLegs →
            leg (p.searchLeg + 1) p.searchLeg { u.squ with lock := 0 })
        ∧ (p.phase = .locking → r = .noCandidate → p.source = .search p.searchLeg → n.searchLegs ≤ p.searchLeg → u.MayEnd p →
            exec frame s =
              .next ((w { p with legsCompleted := p.searchLeg } { u.squ with lock := 0 }).afterEnd p (soft .obscured)))

/-- R69 to R73, R75, R108, R112: a SPOT frame in CENTRE, MEASURE or FOLLOW. A candidate moves the setpoints of both axes by
its offset (V inside the window, H by the offset times S/4096), zeroes the loss count and becomes the last chosen candidate;
within aim_tol CENTRE becomes MEASURE, and a shot is sent where none is in hand, a report slot is free or held, and a FOLLOW
waits for it. An empty frame, and an ambiguous one short of ambig_limit, counts toward loss_n, where the lock is lost; at
ambig_limit the pointing ends CROWDED, and at centre_limit in CENTRE, with the chosen candidate outside aim_tol or none,
UNSETTLED. -/
def Obligations.SpotFramesOnTheTarget : Prop :=
  ∀ (s : State) (us age : Nat) (spots : List Spot) (p : Pointing),
    let u : State := { s.advanceTo us with link := { (s.advanceTo us).link with rxSensor := [] } }
    let time : Int := (u.stc.siteTime : Int) - (age : Int)
    let frame : Instr := .spotFrame us age spots
    let n := u.station.n
    let r := spotResult p.frozenCopy n.ambig spots
    let centre := if p.phase = .centre then u.squ.centre + 1 else u.squ.centre
    let limit := p.phase = .centre ∧ centre = n.centreLimit
    let osc := { u.osc with detectorReady := true }
    let w := fun (c : Squ) =>
      ({ u with
          osc := osc, pen := { u.pen with pointing := some { p with silence := 0, onAim := false } }, squ := c } : State)
    let soft := fun o : Verdict => if p.frozenCopy.kind = .track ∧ 1 ≤ p.followCount then .partialDone else o
    let lost : Verdict := if p.phase = .follow then .partialDone else soft .obscured
    u.InFlight p → (p.phase = .centre ∨ p.phase = .measure ∨ p.phase = .follow) →
    (∀ o, r = .chosen o →
        let h := ((u.axis .h).target + (2 * (o.dx * (factorAt u.aru.zenith p.frozenCopy.v).s) + 4096) / 8192) % 16777216
        let raw := (u.axis .v).target + o.dy
        let v := if raw < n.vMin then n.vMin else if n.vMax < raw then n.vMax else raw
        let aim := -n.aimTol ≤ o.dx ∧ o.dx ≤ n.aimTol ∧ -n.aimTol ≤ o.dy ∧ o.dy ≤ n.aimTol
        let shoots :=
          aim ∧ u.pen.shot = none ∧ (p.reservation = true ∨ u.reports.queue.length < 32)
            ∧ (p.phase = .follow → p.track = some 0 ∧ p.dwell ≠ some 0)
        let seen : Squ := { u.squ with loss := 0, centre := centre, last := some { at_ := o, time := time } }
        (¬aim → limit → u.MayEnd p → exec frame s = .next ((w seen).afterEnd p (soft .unsettled)))
          ∧ ((aim ∨ ¬limit) →
              ∃ (t : State) (q : Pointing), exec frame s = .next t ∧ t.pen.pointing = some q ∧ (q.onAim = true ↔ aim)
                ∧ q.phase = (if p.phase = .centre ∧ aim then .measure else p.phase) ∧ q.silence = 0
                ∧ (q.limited = true ↔ p.limited = true ∨ v ≠ raw) ∧ (t.axis .h).setpoint = some h
                ∧ (t.axis .v).setpoint = some v ∧ (∀ a, (t.axis a).requester = .pointing) ∧ (∀ a, (t.axis a).p = (u.axis a).p)
                ∧ t.squ = seen ∧ t.osc = osc ∧ t.entries = u.entries ∧ t.reports = u.reports ∧ t.dvc = u.dvc
                ∧ t.notices = u.notices
                ∧ (shoots →
                    t.pen.shot = some { id := u.pen.nextShotId, stage := .awaitingRange 0 }
                      ∧ t.pen.nextShotId = (u.pen.nextShotId + 1) % 256
                      ∧ t.transmit.shots = u.transmit.shots ++ [u.pen.nextShotId] ∧ q.attempts = p.attempts + 1
                      ∧ q.reservation = true)
                ∧ (¬shoots →
                    t.pen.shot = u.pen.shot ∧ t.pen.nextShotId = u.pen.nextShotId ∧ t.transmit = u.transmit
                      ∧ q.attempts = p.attempts ∧ q.reservation = p.reservation)))
      ∧ (r = .ambiguous → u.squ.ambiguity + 1 = n.ambigLimit → u.MayEnd p →
          exec frame s =
            .next ((w { u.squ with ambiguity := u.squ.ambiguity + 1, centre := centre }).afterEnd p (soft .crowded)))
      ∧ ((r = .noCandidate ∨ (r = .ambiguous ∧ u.squ.ambiguity + 1 ≠ n.ambigLimit)) →
          let counts : Squ :=
            { u.squ with
              ambiguity := if r = .ambiguous then u.squ.ambiguity + 1 else u.squ.ambiguity, loss := u.squ.loss + 1,
              centre := centre }
          (u.squ.loss + 1 ≠ n.lossN → ¬limit → exec frame s = .next (w counts))
            ∧ (u.squ.loss + 1 = n.lossN → u.MayEnd p → exec frame s = .next ((w counts).afterEnd p lost))
            ∧ (u.squ.loss + 1 ≠ n.lossN → limit → u.MayEnd p →
                exec frame s = .next ((w counts).afterEnd p (soft .unsettled))))

/-- R119 to R122, R126, R76, R77, R80: the answers of the ranger and its timeout, which acts as a row at any timer value (log
entries 2 and 3). A RANGE frame that is not the answer of the shot that awaits it is counted late. WEAK, NOISY, a stale
capture and the timeout draw another shot while the attempts do not exceed shot_retry and retries are open; where retries are
closed the pointing ends DONE, and where the attempts exceed it the pointing fails. In FOLLOW after the dwell every failure
ends DONE (R76). With the pointing frozen in a PAUSE stop (R80, R122, R149), retries closed, a retry due is declined: the
pointing stays frozen with its attempts and without shot and reservation, and a failure ends it with its outcome (log entry
15); either completes the stop with both axes at rest (R150), as HELD with the pointing, or nothing, in the ordinary context.
MULTI fails as CROWDED and NO_RETURN as OBSCURED. An OK whose instant a history does not yet reach waits for angles with the
values found. -/
def Obligations.RangeAnswersAndRetries : Prop :=
  ∀ (s : State) (us id age : Nat) (distance : Int) (strength : Nat),
    let u : State := { s.advanceTo us with link := { (s.advanceTo us).link with rxSensor := [] } }
    let time : Int := (u.stc.siteTime : Int) - (age : Int)
    let frame := fun (status : RangeStatus) => (.rangeFrame us id age distance strength status : Instr)
    let soft := fun (p : Pointing) (o : Verdict) =>
      if p.frozenCopy.kind = .track ∧ 1 ≤ p.followCount then .partialDone else o
    let ends := fun (p : Pointing) (o : Verdict) => if p.phase = .follow ∧ p.dwell = some 0 then .done else soft p o
    let declined := fun (x : State) (p : Pointing) =>
      State.pauseEnds { x with pen := { x.pen with shot := none, pointing := some { p with reservation := false } } }
    let again := fun (x : State) (p : Pointing) =>
      ({ x with
          pen :=
            { x.pen with
              nextShotId := (x.pen.nextShotId + 1) % 256
              shot := some { id := x.pen.nextShotId, stage := .awaitingRange 0 }
              pointing := some { p with attempts := p.attempts + 1 } }
          transmit := { x.transmit with shots := x.transmit.shots ++ [x.pen.nextShotId] } } : State)
    (∀ status, (∀ k, u.pen.shot ≠ some { id := id, stage := .awaitingRange k }) → u.Steady →
        exec (frame status) s = .next { u with pen := { u.pen with lateRanges := min (u.pen.lateRanges + 1) 255 } })
      ∧ (∀ (p : Pointing) (k : Nat), u.InFlight p → u.pen.shot = some { id := id, stage := .awaitingRange k } →
          let fH := interpolate .h u.scu.history.h time
          let fV := interpolate .v u.scu.history.v time
          let poor := fun (x : RangeStatus) => x = .weak ∨ x = .noisy
          (∀ x, (poor x ∨ (x = .ok ∧ (fH = .stale ∨ fV = .stale))) → p.attempts ≤ u.station.n.shotRetry →
              (u.pen.retriesClosed = false → exec (frame x) s = .next (again u p))
                ∧ (u.pen.retriesClosed = true → u.MayEnd p → exec (frame x) s = .next (u.afterEnd p .done)))
            ∧ (u.MayEnd p →
                (∀ x, poor x → u.station.n.shotRetry < p.attempts →
                    exec (frame x) s = .next (u.afterEnd p (ends p .obscured)))
                  ∧ exec (frame .multi) s = .next (u.afterEnd p (ends p .crowded))
                  ∧ exec (frame .noReturn) s = .next (u.afterEnd p (ends p .obscured))
                  ∧ ((fH = .stale ∨ fV = .stale) → u.station.n.shotRetry < p.attempts →
                      exec (frame .ok) s = .next (u.afterEnd p (ends p .norange)))))
      ∧ (∀ (p : Pointing) (k : Nat), u.Frozen p → u.dvc.cause = .pause →
          u.pen.shot = some { id := id, stage := .awaitingRange k } →
          let fH := interpolate .h u.scu.history.h time
          let fV := interpolate .v u.scu.history.v time
          let poor := fun (x : RangeStatus) => x = .weak ∨ x = .noisy
          (∀ x, (poor x ∨ (x = .ok ∧ (fH = .stale ∨ fV = .stale))) → p.attempts ≤ u.station.n.shotRetry →
              u.pen.retriesClosed = true → exec (frame x) s = .next (declined u p))
            ∧ ((u.entry p.target).pendingDef = none →
                (∀ x, poor x → u.station.n.shotRetry < p.attempts →
                    exec (frame x) s = .next (u.afterFrozenEnd p (soft p .obscured)))
                  ∧ exec (frame .multi) s = .next (u.afterFrozenEnd p (soft p .crowded))
                  ∧ exec (frame .noReturn) s = .next (u.afterFrozenEnd p (soft p .obscured))
                  ∧ ((fH = .stale ∨ fV = .stale) → u.station.n.shotRetry < p.attempts →
                      exec (frame .ok) s = .next (u.afterFrozenEnd p (soft p .norange)))))
      ∧ (∀ (p : Pointing) (k : Nat), (u.InFlight p ∨ u.Frozen p) →
          u.pen.shot = some { id := id, stage := .awaitingRange k } →
          let fH := interpolate .h u.scu.history.h time
          let fV := interpolate .v u.scu.history.v time
          (fH ≠ .stale → fV ≠ .stale → (fH = .waits ∨ fV = .waits) →
                let found := fun (x : Found) =>
                  match x with
                  | .value y => some y
                  | _ => none
                exec (frame .ok) s =
                  .next
                    { u with
                      pen :=
                        { u.pen with
                          shot :=
                            some
                              { id := id,
                                stage :=
                                  .awaitingAngles
                                    { time := time, distance := distance, strength := strength,
                                      found := { h := found fH, v := found fV } } } } }))
      ∧ (∀ (p : Pointing) (j k : Nat), s.InFlight p → s.pen.shot = some { id := j, stage := .awaitingRange k } →
          (p.attempts ≤ s.station.n.shotRetry → s.pen.retriesClosed = false →
              exec .rangeTimeout s = .next (again s p))
            ∧ (p.attempts ≤ s.station.n.shotRetry → s.pen.retriesClosed = true → s.MayEnd p →
                exec .rangeTimeout s = .next (s.afterEnd p .done))
            ∧ (s.station.n.shotRetry < p.attempts → s.MayEnd p →
                exec .rangeTimeout s = .next (s.afterEnd p (ends p .norange))))
      ∧ (∀ (p : Pointing) (j k : Nat), s.Frozen p → s.dvc.cause = .pause →
          s.pen.shot = some { id := j, stage := .awaitingRange k } →
          (p.attempts ≤ s.station.n.shotRetry → s.pen.retriesClosed = true →
              exec .rangeTimeout s = .next (declined s p))
            ∧ (s.station.n.shotRetry < p.attempts → (s.entry p.target).pendingDef = none →
                exec .rangeTimeout s = .next (s.afterFrozenEnd p (soft p .norange))))
      ∧ ((∀ j k, s.pen.shot ≠ some { id := j, stage := .awaitingRange k }) → exec .rangeTimeout s = .next s)

/-- R126 to R129, R131, R54, R74, R76, R80: a capture whose values are found, in CAPTURE_COMPLETE by its operands (log entry
2). A distance off by more than dtol, where the check applies, ends the pointing MISMATCH, or DONE in FOLLOW after the dwell.
Otherwise one record joins the report queue with the next sequence number, the fields and flags of its rule, and the entry's
summary, and its OBS frame begins at once where the transmitter is free and neither a REPLY nor an ALERT waits; a CONTROL
record makes station-suspect follow its deviations; a MONITOR or CONTROL pointing ends DONE and a TRACK pointing goes on in
FOLLOW, or ends DONE when the dwell it holds is 0. A pointing frozen in a PAUSE stop does the same (log entry 15) and stays
frozen where it goes on; with both axes at rest the stop is then complete (R150). A RANGE frame whose instant lies inside
both histories does the same at once. -/
def Obligations.CapturesMakeRecords : Prop :=
  ∀ (s : State) (p : Pointing) (id : Nat) (c : Capture) (rH rV : Int),
    (s.InFlight p ∨ s.Frozen p) → s.pen.shot = some { id := id, stage := .awaitingAngles c } →
    let d := p.frozenCopy
    let hd :=
      forwardReduction s (c.found.h.getD rH) (c.found.v.getD rV) ((s.squ.last.map (·.at_)).getD { dx := 0, dy := 0 })
    let distance := max 0 (c.distance + d.prism)
    let applies := d.d0 ≠ 0 ∧ (d.kind ≠ .track ∨ p.followCount = 0)
    let fails := applies ∧ (distance - d.d0 < -d.dtol ∨ d.dtol < distance - d.d0)
    let dHz := wrapDiff hd.hz d.hz
    let dV := hd.v - d.v
    let tol := s.station.n.controlTol
    let off := decide (dHz < -tol ∨ tol < dHz ∨ dV < -tol ∨ tol < dV)
    let suspect := if d.kind = .control then off else s.osc.suspect
    let s' : State :=
      if d.kind = .control ∧ off ≠ s.osc.suspect then
        State.raise { s with osc := { s.osc with suspect := off } } .stationDrift (some p.target)
      else s
    let r : ObsRecord :=
      { sequence := s.reports.nextSequence, target := p.target, siteTime := (c.time % 281474976710656).toNat, hz := hd.hz,
        v := hd.v, distance := distance, strength := c.strength, attempts := p.attempts,
        flags :=
          { suspect := suspect, limited := p.limited, tiltStale := s.aru.tiltStale, retried := decide (1 < p.attempts),
            oneOff := decide (p.kind = .oneOff), follow := decide (d.kind = .track),
            control := decide (d.kind = .control) },
        deviations :=
          if d.kind = .control then some { dHz := dHz, dV := dV, dD := if d.d0 = 0 then none else some (distance - d.d0) }
          else none,
        followIndex := if d.kind = .track then some (p.followCount + 1) else none }
    let queue := s.reports.queue ++ [r]
    let goes := s.transmit.controller = none ∧ s.requests.replies = [] ∧ s'.notices.alertWaits = false
    let made : State :=
      { s' with
        reports := { s.reports with queue := queue, nextSequence := (s.reports.nextSequence + 1) % 65536 }
        transmit := if goes then { s.transmit with controller := queue.head?.map .obs } else s.transmit
        entries :=
          s.entries.set p.target
            { s.entry p.target with
              lastSummary := some { siteTime := r.siteTime, hz := hd.hz, v := hd.v, distance := distance } } }
    let dwell := if p.phase = .measure ∧ p.followCount = 0 then some d.dwell else p.dwell
    let ends := d.kind ≠ .track ∨ dwell = some 0
    let followed : State :=
      { made with
        pen :=
          { s.pen with
            shot := none
            pointing :=
              some
                { p with
                  attempts := 0, reservation := false, followCount := p.followCount + 1, dwell := dwell,
                  phase := .follow, track := some s.station.n.trackInterval } } }
    let held := (s.entry p.target).pendingDef = none ∧ s.Frozen p ∧ s.dvc.cause = .pause
    (fails → s.MayEnd p →
        exec (.captureComplete rH rV) s =
          .next (s.afterEnd p (if p.phase = .follow ∧ p.dwell = some 0 then .done else .mismatch)))
      ∧ (fails → held → exec (.captureComplete rH rV) s = .next (s.afterFrozenEnd p .mismatch))
      ∧ (¬fails → ends → s.MayEnd p → exec (.captureComplete rH rV) s = .next (made.afterEnd p .done))
      ∧ (¬fails → ends → held → exec (.captureComplete rH rV) s = .next (made.afterFrozenEnd p .done))
      ∧ (¬fails → ¬ends → s.InFlight p → exec (.captureComplete rH rV) s = .next followed)
      ∧ (¬fails → ¬ends → s.Frozen p → s.dvc.cause = .pause →
          exec (.captureComplete rH rV) s = .next followed.pauseEnds)
      ∧ ∀ (s₀ : State) (us age k : Nat) (x y : Int),
          let u : State := { s₀.advanceTo us with link := { (s₀.advanceTo us).link with rxSensor := [] } }
          let t : Int := (u.stc.siteTime : Int) - (age : Int)
          u.pen.shot = some { id := id, stage := .awaitingRange k } → interpolate .h u.scu.history.h t = .value x →
          interpolate .v u.scu.history.v t = .value y →
          exec (.rangeFrame us id age c.distance c.strength .ok) s₀ =
            exec (.captureComplete 0 0)
              { u with
                pen :=
                  { u.pen with
                    shot :=
                      some
                        { id := id, stage := .awaitingAngles { c with time := t, found := { h := some x, v := some y } } } } }

/-- R11 to R13, R143 to R145, R151, R152: a TILT frame with the part at rest, short of a level limit: the sample, its age and
the jitter, the instrument temperature, the groups and the level counts. The frame that brings a count to level_n or
level_ok_n, in every DVC state (in the restart stop, with an axis that goes on in motion), does what LEVEL_LOSS or
LEVEL_REGAINED does on the new sample, and feeds the sources besides, with their DERATE notice: at rest it leads to HELD with
cause LEVEL and resume mode AUTO, or back to LEVEL. TILT_STALE_SET sets its flag alone, with the tilt age as it stands (log
entry 44), and SOURCE_STALE sets its source stale with age 2,000, at any age; the jitter never goes stale (log entries 2 and
3). -/
def Obligations.TiltFramesAndStaleSources : Prop :=
  (∀ (s : State) (us : Nat) (tl tc : Int) (overrange : Bool) (temp : Int),
      let u : State := { s.advanceTo us with link := { (s.advanceTo us).link with rxSensor := [] } }
      let limit := u.station.n.tiltLimit
      let beyond := overrange = true ∨ tl < -limit ∨ limit < tl ∨ tc < -limit ∨ limit < tc
      let steps :=
        match u.aru.tilt with
        | none => u.aru.jitterSteps
        | some x =>
          let l := u.aru.jitterSteps ++ [(tl - x.tl).natAbs + (tc - x.tc).natAbs]
          if 10 < l.length then l.drop 1 else l
      let jitter : Nat := steps.foldl max 0
      let offer := fun (source : DerateSource) (x : Int) (g : DerateGroup) =>
        if g.definition.enable = true ∧ g.definition.source = source then
          if g.definition.high < x then ({ g with active := true } : DerateGroup)
          else if x < g.definition.low then { g with active := false }
          else g
        else g
      let groups := (u.sdu.groups.map (offer .instrTemp temp)).map (offer .tiltJitter jitter)
      let f := selectedFraction u.sdu.groups
      let g := selectedFraction groups
      let sample : State :=
        { u with
          aru :=
            { u.aru with
              tilt := some { tl := tl, tc := tc, overrange := overrange }, tiltAge := 0, tiltStale := false, jitterSteps := steps,
              jitter := jitter } }
      let fed := fun w : State =>
        let t : State :=
          { w with sdu := { u.sdu with instrTemp := { value := some temp, age := 0, stale := false }, groups := groups } }
        if f.1 * g.2 = g.1 * f.2 then t else t.raise .derate none
      let shown := fun (d : Dvc) => fed { sample with dvc := d }
      (u.AtRest →
        (u.dvc.level = .level → ¬beyond → exec (.tiltFrame us tl tc overrange temp) s = .next (shown { u.dvc with beyond := 0 }))
          ∧ (u.dvc.level = .level → beyond → min (u.dvc.beyond + 1) 255 < u.station.n.levelN →
              exec (.tiltFrame us tl tc overrange temp) s = .next (shown { u.dvc with beyond := min (u.dvc.beyond + 1) 255 }))
          ∧ (u.dvc.level = .lost → beyond → exec (.tiltFrame us tl tc overrange temp) s = .next (shown { u.dvc with within := 0 }))
          ∧ (u.dvc.level = .lost → ¬beyond → min (u.dvc.within + 1) 255 < u.station.n.levelOkN →
              exec (.tiltFrame us tl tc overrange temp) s = .next (shown { u.dvc with within := min (u.dvc.within + 1) 255 })))
        ∧ ((u.restarting = true →
          ∃ a, (u.axis a).inMotion = true ∧ (u.latestRaw a).isSome = true ∧ u.dsl.restartHold.get a = false) →
        (u.dvc.level = .level → beyond → u.station.n.levelN ≤ min (u.dvc.beyond + 1) 255 →
            ∃ w : State, exec .levelLoss sample = .next w ∧ exec (.tiltFrame us tl tc overrange temp) s = .next (fed w))
          ∧ (u.dvc.level = .lost → ¬beyond → u.station.n.levelOkN ≤ min (u.dvc.within + 1) 255 →
              ∃ w : State, exec .levelRegained sample = .next w ∧ exec (.tiltFrame us tl tc overrange temp) s = .next (fed w)))
        ∧ (u.AtRest → u.dvc.level = .level → beyond → u.station.n.levelN ≤ min (u.dvc.beyond + 1) 255 →
            ∃ t : State, exec (.tiltFrame us tl tc overrange temp) s = .next t ∧ t.aru = sample.aru ∧ t.sdu = (fed u).sdu
              ∧ t.notices = (fed (u.raise .levelLoss none)).notices ∧ t.pen = u.pen ∧ t.entries = u.entries ∧ t.osc = u.osc
              ∧ t.dvc =
                  { u.dvc with
                    state := .held, cause := .level, resumeMode := some .auto, level := .lost, beyond := 0, within := 0,
                    ordinary :=
                      some { target := none, part := none, cause := .level, recoverable := true, savedAt := u.stc.siteTime } })
        ∧ (u.AtRest → u.dvc.level = .lost → ¬beyond → u.station.n.levelOkN ≤ min (u.dvc.within + 1) 255 →
            exec (.tiltFrame us tl tc overrange temp) s =
              .next
                (fed
                  { sample with
                    notices := u.notices.raise .levelRegained none
                    dvc := { u.dvc with level := .level, beyond := 0, within := 0 } })))
    ∧ ∀ s : State,
        exec .tiltStaleSet s = .next { s with aru := { s.aru with tiltStale := true } }
          ∧ exec (.sourceStale .instrTemp) s =
              .next { s with sdu := { s.sdu with instrTemp := { s.sdu.instrTemp with age := 2000, stale := true } } }
          ∧ (∀ a : Axis,
              exec (.sourceStale (if a = .h then .driveHTemp else .driveVTemp)) s =
                .next
                  { s with
                    sdu :=
                      { s.sdu with
                        driveTemp := s.sdu.driveTemp.set a { s.sdu.driveTemp.get a with age := 2000, stale := true } } })
          ∧ exec (.sourceStale .tiltJitter) s = .next s

/-- R151, R152 and log entries 2 and 3: LEVEL_LOSS and LEVEL_REGAINED, as rows that act at any count. Each acts only on the
other level state, zeroes both counts and raises its notice. A loss in RUN with an axis in motion begins a stop of cause
LEVEL: a pointing in flight is frozen, its shot withdrawn with the attempt not counted, and its reservation released; with
both axes at rest it leads at once to HELD with cause LEVEL and resume mode AUTO. In a stop of cause PAUSE it withdraws the
shot and releases the reservation; elsewhere it is no more than its notice. Level regained in a HELD of resume mode AUTO with
no burn returns to RUN, with the pointing of a recoverable context restarted; in a HELD whose resume mode is COMMAND it
changes nothing more. -/
def Obligations.LevelLossAndReturn : Prop :=
  (∀ s : State,
      (s.dvc.level = .lost → exec .levelLoss s = .next s)
        ∧ (s.dvc.level = .level → exec .levelRegained s = .next s)
        ∧ (s.dvc.level = .level → s.AtRest →
            ∃ t : State, exec .levelLoss s = .next t ∧ t.base = s.base
              ∧ t.dvc =
                  { s.dvc with
                    state := .held, cause := .level, resumeMode := some .auto, level := .lost, beyond := 0, within := 0,
                    ordinary :=
                      some { target := none, part := none, cause := .level, recoverable := true, savedAt := s.stc.siteTime } }
              ∧ t.notices = s.notices.raise .levelLoss none ∧ t.pen = s.pen ∧ t.dsl = s.dsl ∧ t.entries = s.entries
              ∧ t.osc = s.osc ∧ t.reports = s.reports ∧ ∀ a, (t.axis a).motion = .still ∧ (t.axis a).p = (s.axis a).p)
        ∧ ∀ c : Context, s.dvc.level = .lost → s.dvc.state = .held → s.dvc.ordinary = some c → c.target = none →
            c.part = none → s.osc.mode = .stopped → s.pen.pointing = none → s.dsl.jog = .none →
            s.dsl.selected = both .park → s.dsl.restartHold = both false → (∀ a, (s.axis a).motion = .still) →
            (∀ a, (s.latestRaw a).isSome) →
            (s.dvc.resumeMode = some .auto → s.scs.burn = none →
                exec .levelRegained s =
                  .next
                    { s with
                      notices := s.notices.raise .levelRegained none
                      dvc :=
                        { s.dvc with
                          state := .run, cause := .none, resumeMode := none, ordinary := none, level := .level, beyond := 0,
                          within := 0 } })
              ∧ (s.dvc.resumeMode = some .command →
                  exec .levelRegained s =
                    .next
                      { s with
                        notices := s.notices.raise .levelRegained none
                        dvc := { s.dvc with level := .level, beyond := 0, within := 0 } }))
    ∧ (∀ (s : State),
        s.dvc.level = .lost → s.dvc.state = .held → s.dvc.resumeMode = some .auto → s.scs.burn = none →
        let restarts := fun (t : State) (n : Nat) (part : PointingPart) =>
          t.entries = s.entries ∧ t.osc = s.osc ∧ t.reports = s.reports ∧ t.squ = zeroSqu
            ∧ (t.pen.pointing.map fun p => (p.target, p.kind, p.frozenCopy)) = some (n, part.kind, part.frozenCopy)
            ∧ (t.pen.pointing.map fun p => (p.searchLeg, p.legsCompleted, p.ox, p.oy, p.attempts)) =
                some (part.searchLeg, part.legsCompleted, part.ox, part.oy, part.attempts)
            ∧ (t.pen.pointing.map fun p => (p.followCount, p.dwell, p.frozen, p.reservation)) =
                some (part.followCount, part.dwell, false, false)
            ∧ t.pen.pointing.all fun p => p.phase = .slew || p.phase = .settle
        ∀ c, s.dvc.ordinary = some c → c.recoverable = true → ∀ n, c.target = some n → ∀ part, c.part = some part →
        ∃ t : State, exec .levelRegained s = .next t ∧ t.base = s.base ∧ restarts t n part
          ∧ t.notices = s.notices.raise .levelRegained none
          ∧ t.dvc =
              { s.dvc with
                state := .run, cause := .none, resumeMode := none, ordinary := none, level := .level, beyond := 0, within := 0 })
    ∧ ∀ (s : State),
      s.dvc.level = .level → (∀ a, (s.latestRaw a).isSome) → s.dsl.restartHold = both false →
      let taken : Dvc := { s.dvc with level := .lost, beyond := 0, within := 0 }
      let stays := fun t : State =>
        t.base = s.base ∧ t.entries = s.entries ∧ t.osc = s.osc ∧ t.reports = s.reports ∧ t.transmit.shots = s.transmit.shots
          ∧ t.notices = s.notices.raise .levelLoss none
      let shed := fun p : Pointing =>
        ({ p with attempts := p.attempts - (if s.pen.shot = none then 0 else 1), reservation := false } : Pointing)
      (s.dvc.state = .run → (∃ a, (s.axis a).inMotion = true ∧ (s.axis a).s ≠ 0) →
          ∃ t : State, exec .levelLoss s = .next t ∧ stays t
            ∧ t.dvc = { taken with state := .stopping, cause := .level, resumeMode := none }
            ∧ t.pen.pointing = s.pen.pointing.map (fun p => { shed p with frozen := true })
            ∧ (s.pen.pointing ≠ none → t.pen.retriesClosed = true) ∧ t.pen.shot = none ∧ t.dsl.jog = .none ∧ t.apg.settle = none
            ∧ (∀ a, (s.axis a).inMotion = true → (s.axis a).s ≠ 0 →
                (t.axis a).setpoint = some ((s.axis a).stopPoint a) ∧ (t.axis a).requester = .diversion
                  ∧ (t.axis a).p = (s.axis a).p ∧ (t.axis a).s = (s.axis a).s))
        ∧ (s.dvc.state = .run → (∀ a, (s.axis a).inMotion = false) →
            ∃ t : State, exec .levelLoss s = .next t ∧ stays t ∧ t.pen.pointing = none ∧ t.pen.shot = none
              ∧ t.dvc =
                  { taken with
                    state := .held, cause := .level, resumeMode := some .auto,
                    ordinary :=
                      some
                        { target := s.pen.pointing.map (·.target), part := s.pen.pointing.map fun p => (shed p).part,
                          cause := .level, recoverable := true, savedAt := s.stc.siteTime } })
        ∧ (s.dvc.state = .stopping → s.dvc.cause = .pause → (∃ a, (s.axis a).inMotion = true) →
            ∃ t : State, exec .levelLoss s = .next t ∧ stays t ∧ t.dvc = taken ∧ t.pen.shot = none
              ∧ t.pen.pointing = s.pen.pointing.map shed)
        ∧ ((s.dvc.state = .held ∨ s.dvc.state.holds = true
              ∨ (s.dvc.state = .stopping ∧ s.dvc.cause ≠ .pause ∧ ∃ a, (s.axis a).inMotion = true)) →
            ∃ t : State, exec .levelLoss s = .next t ∧ stays t ∧ t.dvc = taken ∧ t.pen = s.pen)

/-! ### Period expiries, timers, arrivals and completions -/

/-- R1, R12, R26 to R30, R33, R45, R79, R86 to R89, R96, R143, R153: what a PERIOD_EXPIRY does, with no burn. At rest: site
time, ages, the table's countdowns and retry timers with the numbers they hand over and the overruns they tell, the held
speed and acceleration, and a POSITION frame of speed 0 for each axis. In SLEW: each axis makes one period of its motion and
its frame carries the new position and signed speed; when both have arrived SETTLE begins. With a pointing in flight and both
axes STILL (R64, R74 to R76, R78, R119): the settle, range, dwell and track timers and the silence count go on, and where one
runs out the pointing ends as that timer says, its outcome at the table as this expiry has counted it, so that a retry timer
it sets is first counted at the next expiry (R29, section 3.8); silence is tested before the dwell and the dwell before the
track timer (log entries 38 and 39). A range timeout sends its retry, or ends the pointing, DONE after the dwell or with
retries closed. In a PAUSE or LEVEL stop (R80, R119, R150) a frozen pointing's settle timer, silence count, dwell and track
timer stand still, under PAUSE the range timer runs, a retry due is declined, and the stop completes once no shot is in hand
and both axes have come to rest. HOLD is released where the latest raw sample is present and DVC does not hold (R93, R134,
R135), with 1,000 added to the silence age that stood (the model's choice where no HOLD frame has set that age to 0 since HOLD was
taken, log entry 46). An encoder found silent is a fault event, with its notice, unless the drive report reads FAULT (R153); that the notice
table is whole is the law of TablesAndBoundsStayWhole. The rest of the order of the blocks' work is log entry 4. -/
def Obligations.PeriodExpiryStepsThePart : Prop :=
  (∀ (s : State) (cell : CellRead), s.stc.periodUs ≤ 1000 → s.stc.siteTime + 1000 < 2 ^ 48 → s.scs.burn = none →
    s.station.n.angleSilenceExp ≤ 17 →
        (∀ a, s.dvc.silenceAge.get a + 1000 < 2 ^ s.station.n.angleSilenceExp) →
        let vmax := fun a : Axis => if a = .h then s.station.n.vmaxH else s.station.n.vmaxV
        let acc := fun a : Axis => if a = .h then s.station.n.accH else s.station.n.accV
        let act := fun a : Axis => (s.axis a).period a (vmax a) (acc a) (s.effectiveSpeed a)
        let tick := fun n : Nat => (s.entry n).tick (s.engaged n)
        let told := fun (f : EntryTick → Bool) => (List.range s.entries.length).filter fun n => f (tick n)
        let table : State :=
          State.enqueue
            { s with
              entries := (List.range s.entries.length).map fun n => (tick n).entry
              notices := (told (·.overrun)).foldl (fun m n => m.raise .overrun (some n)) s.notices }
            (told (·.handed))
        let aged := fun x : TempSource =>
          ({ x with age := min (x.age + 1) 2000, stale := x.stale || decide (2000 ≤ x.age + 1) } : TempSource)
        let steps := fun t : State =>
          t.stc = { siteTime := s.stc.siteTime + (1000 - s.stc.periodUs), periodUs := 0 } ∧ t.scs = s.scs
            ∧ t.station = s.station ∧ t.requests = s.requests ∧ t.link = s.link ∧ t.pending = s.pending
            ∧ t.sdu =
                { s.sdu with
                  instrTemp := aged s.sdu.instrTemp,
                  driveTemp := { h := aged s.sdu.driveTemp.h, v := aged s.sdu.driveTemp.v } }
            ∧ t.dvc = { s.dvc with silenceAge := { h := s.dvc.silenceAge.h + 1000, v := s.dvc.silenceAge.v + 1000 } }
            ∧ t.reports = s.reports ∧ t.scu = s.scu ∧ t.squ = s.squ
            ∧ (∀ a, t.axis a = (act a).axis)
            ∧ (∀ a, t.transmit.slots.get a =
                some { axis := a, mode := .position, position := (act a).axis.pos, speed := (act a).axis.stepSpeed })
        let clock := fun t : State =>
          steps t ∧ t.dsl = s.dsl ∧ t.entries = table.entries ∧ t.osc = table.osc ∧ t.notices = table.notices
        let soft := fun (p : Pointing) (o : Verdict) => if p.frozenCopy.kind = .track ∧ 1 ≤ p.followCount then .partialDone else o
        let ends := fun (p : Pointing) (o : Verdict) (t : State) =>
          steps t ∧ t.pen = { s.pen with pointing := none, shot := none } ∧ t.apg.settle = none
            ∧ t.dsl = { s.dsl with selected := both .park } ∧ t.entries = (table.afterEnd p o).entries
            ∧ t.osc = (table.afterEnd p o).osc ∧ t.notices = (table.afterEnd p o).notices
        (s.AtRest → (∀ a, (s.axis a).s = 0) →
            ∃ t : State, exec (.periodExpiry cell) s = .next t ∧ clock t ∧ t.pen = s.pen
              ∧ ∀ a, (act a).axis = { s.axis a with vmax := vmax a, acc := acc a, stepSpeed := 0 })
          ∧ (∀ p : Pointing, s.InFlight p → p.phase = .slew → s.pen.shot = none → s.apg.settle = none →
              ∃ (t : State) (q : Pointing), exec (.periodExpiry cell) s = .next t ∧ t.pen.pointing = some q
                ∧ clock t ∧ q.silence = min (p.silence + 1) 2000
                  ∧ (∀ a, q.arrived.get a = true ↔
                      (p.arrived.get a = true ∨ ((act a).arrives = true ∧ (act a).axis.requester = .pointing)))
                  ∧ ((∀ a, q.arrived.get a = false → q.phase = .slew)
                      ∧ ((∃ a, (act a).arrives = true ∧ (act a).axis.requester = .pointing) → (∀ a, q.arrived.get a = true) →
                          q.phase = .settle ∧ q.settleTimer = 0)))
          ∧ (∀ p : Pointing, s.InFlight p → (∀ a, (s.axis a).motion = .still) →
              (∀ x, s.pen.shot = some x → ∀ k, x.stage = .awaitingRange k → k + 1 < s.station.n.rangeTimeout) →
              let expiry := exec (.periodExpiry cell)
              let watched :=
                p.phase = .acquire ∨ p.phase = .look ∨ p.phase = .locking ∨ p.phase = .centre ∨ p.phase = .measure
                  ∨ p.phase = .follow
              let silent := watched ∧ s.station.n.spotSilence ≤ min (p.silence + 1) 2000
              let counted := { p with silence := min (p.silence + 1) 2000 }
              let timed : Pen :=
                { s.pen with
                  shot :=
                    s.pen.shot.map fun x =>
                      match x.stage with
                      | .awaitingRange k => { x with stage := .awaitingRange (k + 1) }
                      | .awaitingAngles _ => x }
              let goesOn := fun pen : Pen => ∃ t : State, expiry s = .next t ∧ clock t ∧ t.pen = pen
              (p.phase ≠ .settle → p.phase ≠ .follow → ¬silent → goesOn { timed with pointing := some counted })
                ∧ (p.phase = .settle → p.settleTimer + 1 < s.station.n.settleTimeout →
                    goesOn { timed with pointing := some { counted with settleTimer := p.settleTimer + 1 } })
                ∧ (p.phase = .settle → s.station.n.settleTimeout ≤ p.settleTimer + 1 → s.MayEnd p →
                    ∃ t : State, expiry s = .next t ∧ ends p (soft p .unsettled) t)
                ∧ (silent → s.MayEnd p → ∃ t : State, expiry s = .next t ∧ ends p (soft p .nosensor) t)
                ∧ (p.phase = .follow → ¬silent →
                    let followed := { counted with dwell := p.dwell.map (· - 1), track := p.track.map (· - 1) }
                    let may := s.pen.shot = none ∧ p.onAim = true ∧ (p.reservation = true ∨ s.reports.queue.length < 32)
                    (p.dwell = some 1 → s.pen.shot = none → s.MayEnd p →
                        ∃ t : State, expiry s = .next t ∧ ends p .done t)
                      ∧ (p.dwell = some 1 → s.pen.shot ≠ none →
                        goesOn { timed with pointing := some followed, retriesClosed := true })
                      ∧ (p.dwell ≠ some 1 → (p.track ≠ some 1 ∨ ¬may) → goesOn { timed with pointing := some followed })
                      ∧ (p.dwell ≠ some 1 → p.track = some 1 → may →
                          ∃ t : State, expiry s = .next t ∧ clock t ∧ t.transmit.shots = s.transmit.shots ++ [s.pen.nextShotId]
                            ∧ t.pen =
                                { s.pen with
                                  nextShotId := (s.pen.nextShotId + 1) % 256
                                  shot := some { id := s.pen.nextShotId, stage := .awaitingRange 0 }
                                  retriesClosed := false
                                  pointing := some { followed with reservation := true, attempts := p.attempts + 1 } })))
          ∧ (∀ p : Pointing, s.InFlight p → (∀ a, (s.axis a).motion = .still) →
              ∀ x, s.pen.shot = some x → ∀ k, x.stage = .awaitingRange k → s.station.n.rangeTimeout ≤ k + 1 →
                let follows := p.phase = .follow
                ((follows ∨ p.phase = .measure ∨ p.phase = .centre) → min (p.silence + 1) 2000 < s.station.n.spotSilence →
                    p.attempts ≤ s.station.n.shotRetry → s.pen.retriesClosed = false →
                    ∃ t : State, exec (.periodExpiry cell) s = .next t ∧ clock t
                      ∧ t.transmit.shots = s.transmit.shots ++ [s.pen.nextShotId]
                      ∧ t.pen =
                          { s.pen with
                            nextShotId := (s.pen.nextShotId + 1) % 256
                            shot := some { id := s.pen.nextShotId, stage := .awaitingRange 0 }
                            retriesClosed := decide (follows ∧ p.dwell = some 1)
                            pointing :=
                              some
                                { p with
                                  silence := min (p.silence + 1) 2000, attempts := p.attempts + 1,
                                  dwell := if follows then p.dwell.map (· - 1) else p.dwell,
                                  track := if follows then p.track.map (· - 1) else p.track } })
                  ∧ (p.attempts ≤ s.station.n.shotRetry → s.pen.retriesClosed = true → s.MayEnd p →
                      ∃ t : State, exec (.periodExpiry cell) s = .next t ∧ ends p .done t)
                  ∧ (s.station.n.shotRetry < p.attempts → s.MayEnd p →
                      ∃ t : State, exec (.periodExpiry cell) s = .next t
                        ∧ ends p (if follows ∧ p.dwell = some 0 then .done else soft p .norange) t))
          ∧ (∀ p : Pointing, s.Frozen p → s.stopWaits →
              let moves := ∃ a, (act a).axis.inMotion = true
              let range := fun k : Nat => s.pen.shot.map (·.stage) = some (.awaitingRange k)
              let timed : Option Shot :=
                s.pen.shot.map fun x =>
                  match x.stage with
                  | .awaitingRange k => { x with stage := .awaitingRange (k + 1) }
                  | .awaitingAngles _ => x
              let counted := fun t : State =>
                t.entries = table.entries ∧ t.osc = table.osc ∧ t.notices = table.notices ∧ t.reports = s.reports
                  ∧ t.stc = { siteTime := s.stc.siteTime + (1000 - s.stc.periodUs), periodUs := 0 }
                  ∧ (∀ a, t.axis a = (act a).axis) ∧ t.transmit.shots = s.transmit.shots
              let waits := fun (pen : Pen) (t : State) =>
                counted t ∧ t.pen = pen ∧ t.dsl = s.dsl ∧ t.dvc.state = .stopping ∧ t.dvc.cause = s.dvc.cause
                  ∧ t.dvc.ordinary = s.dvc.ordinary
              let completes := fun (q : Pointing) (t : State) =>
                counted t ∧ t.pen = { s.pen with pointing := none, shot := none } ∧ t.dsl = { s.dsl with selected := both .park }
                  ∧ t.dvc.state = .held ∧ t.dvc.cause = .pause ∧ t.dvc.resumeMode = some .command
                  ∧ t.dvc.ordinary =
                      some
                        { target := some q.target, part := some q.part, cause := .pause, recoverable := true,
                          savedAt := t.stc.siteTime }
              let kept := { p with reservation := false }
              ((∀ k, range k → k + 1 < s.station.n.rangeTimeout) → (moves ∨ s.pen.shot ≠ none) →
                  ∃ t : State, exec (.periodExpiry cell) s = .next t ∧ waits { s.pen with shot := timed } t)
                ∧ (s.dvc.cause = .pause → s.pen.shot = none → ¬moves →
                    ∃ t : State, exec (.periodExpiry cell) s = .next t ∧ completes p t)
                ∧ (s.dvc.cause = .pause → ∀ k, range k → s.station.n.rangeTimeout ≤ k + 1 → s.pen.retriesClosed = true →
                    p.attempts ≤ s.station.n.shotRetry →
                    ∃ t : State, exec (.periodExpiry cell) s = .next t
                      ∧ (moves → waits { s.pen with shot := none, pointing := some kept } t) ∧ (¬moves → completes kept t))))
    ∧ (∀ (s : State) (cell : CellRead),
        s.scs.burn = none → s.station.n.angleSilenceExp ≤ 17 →
        (∀ a, s.dvc.silenceAge.get a + 1000 < 2 ^ s.station.n.angleSilenceExp) →
        (s.dvc.state = .run ∨ s.dvc.state = .held ∨ s.dvc.state.holds = true) → s.osc.mode = .stopped → s.pen.shot = none →
        s.dsl.jog = .none → (∀ p, s.pen.pointing = some p → p.phase = .slew ∧ p.frozen = false) →
        ∀ a, s.dsl.selected.get a = .hold → (s.axis a).motion = .held →
        ∃ t : State, exec (.periodExpiry cell) s = .next t
          ∧ ((s.latestRaw a = none ∨ s.dvc.state.holds = true) →
              t.dsl.selected.get a = .hold ∧ (t.axis a).motion = .held ∧ (t.axis a).p = (s.axis a).p
                ∧ (t.axis a).waiting = (s.axis a).waiting
                ∧ t.transmit.slots.get a = some { axis := a, mode := .hold, position := (s.axis a).p.getD 0, speed := 0 }
                ∧ t.dvc.silenceAge.get a = 0)
          ∧ (s.dvc.state.holds = false → ∀ raw, s.latestRaw a = some raw →
              let p := if a = .h then raw % 16777216 else raw
              (t.axis a).p = some p ∧ (t.axis a).s = 0 ∧ (t.axis a).waiting = none ∧ (t.axis a).motion ≠ .held
                ∧ t.transmit.slots.get a = some { axis := a, mode := .position, position := p, speed := 0 }
                ∧ t.dvc.silenceAge.get a = s.dvc.silenceAge.get a + 1000
                ∧ ((s.axis a).waiting = none → (t.axis a).motion = .still ∧ (t.axis a).setpoint = some p)
                ∧ (∀ w, (s.axis a).waiting = some w → (t.axis a).setpoint = some w.setpoint ∧ (t.axis a).requester = w.requester)
                ∧ (s.pen.pointing ≠ none → t.dsl.selected.get a = .aim)
                ∧ (s.pen.pointing = none → (s.axis a).waiting = none → (s.axis a).requester = .nobody →
                    t.dsl.selected.get a = .park)))
    ∧ ∀ (s : State) (cell : CellRead),
      s.AtRest → s.tablesWhole → s.scs.burn = none → s.station.n.angleSilenceExp ≤ 17 →
      s.stc.siteTime + 1000 < 2 ^ 48 → s.stc.periodUs ≤ 1000 →
      ∀ a, 2 ^ s.station.n.angleSilenceExp ≤ s.dvc.silenceAge.get a + 1000 →
      let b : Axis := if a = .h then .v else .h
      s.dvc.silenceAge.get b + 1000 < 2 ^ s.station.n.angleSilenceExp →
      let ages : PerAxis Nat := (s.dvc.silenceAge.set a 0).set b (s.dvc.silenceAge.get b + 1000)
      ∃ t : State, exec (.periodExpiry cell) s = .next t ∧ t.dvc.silenceAge = ages ∧ t.pen = s.pen
        ∧ ((∃ f, s.dvc.report.get a = .fault f) → t.dvc = { s.dvc with silenceAge := ages } ∧ t.dsl = s.dsl)
        ∧ ((∀ f, s.dvc.report.get a ≠ .fault f) →
            (∀ x, (t.axis x).motion = .held ∧ t.dsl.selected.get x = .hold
                ∧ t.transmit.slots.get x = some { axis := x, mode := .hold, position := (s.axis x).pos, speed := 0 })
              ∧ (s.station.criticalEnable = true →
                  t.dvc =
                    { s.dvc with
                      state := .critical, cause := .silence a, resumeMode := none, silenceAge := ages, fresh := both false,
                      critical :=
                        some
                          { context :=
                              { target := none, part := none, cause := .silence a, recoverable := true,
                                savedAt := s.stc.siteTime + (1000 - s.stc.periodUs) },
                            priorState := .run, priorCause := s.dvc.cause, priorResume := s.dvc.resumeMode, cleared := false } }
                    ∧ t.notices.record .driveFault =
                        { pending := true, count := min ((s.notices.record .driveFault).count + 1) 255, lastTarget := none })
              ∧ (s.station.criticalEnable = false →
                  t.dvc = { s.dvc with state := .lockout, cause := .silence a, resumeMode := none, silenceAge := ages }
                    ∧ t.notices.record .lockout =
                        { pending := true, count := min ((s.notices.record .lockout).count + 1) 255, lastTarget := none }))

/-- R1, R12, R169, R175: the counts that every PERIOD_EXPIRY moves, whatever the part is doing: the tilt age and tilt-stale
go by their rule, a new control period begins, and a burn short of 399 counts on. R87, R139, R140: the jog lease goes down by
one, each axis steps under its jog cap, and a moving H axis is sent on ahead; the lease's end stops both axes under control.
R161: the restart timer goes up by one while an axis is in motion; at 2,000 each axis still in motion is put into HOLD and
the warm values apply, as they do when both axes come to rest; an axis that is already at rest, with PARK selected or AIM,
stays so; the OVERRUN notices of the expiry stand in the cleared summary (log entry 37, from R177). Choices of the model: the
jog speeds stay in STOPPING (log entry 24), and the step comes before the extension, the lease's end and the restart timer
(log entry 4). -/
def Obligations.PeriodExpiryAlwaysCounts : Prop :=
  (∀ (s : State) (cell : CellRead), ∃ t : State, exec (.periodExpiry cell) s = .next t ∧ t.stc.periodUs = 0
      ∧ t.aru.tiltAge = min (s.aru.tiltAge + 1) 65535
      ∧ (t.aru.tiltStale = true ↔ s.aru.tiltStale = true ∨ s.station.n.tiltStale ≤ min (s.aru.tiltAge + 1) 65535)
      ∧ t.aru.tilt = s.aru.tilt ∧ t.aru.jitter = s.aru.jitter ∧ t.aru.zenith = s.aru.zenith ∧ t.station = s.station
      ∧ t.pending = s.pending ∧ t.requests = s.requests ∧ t.link = s.link
      ∧ (∀ b : Burn, s.scs.burn = some b → b.timer ≠ 399 →
          t.scs.burn = some { b with timer := b.timer + 1 } ∧ t.scs.soft = s.scs.soft ∧ t.scs.slots = s.scs.slots)
      ∧ (∀ b : Burn, s.scs.burn = some b → b.timer = 399 → t.scs.burn = none)
      ∧ (s.scs.burn = none → t.scs.burn = none ∧ t.scs.soft = s.scs.soft ∧ t.scs.slots = s.scs.slots))
    ∧ (∀ (s : State) (cell : CellRead) (n : Nat) (speed : PerAxis Int),
        s.dsl.jog = .leased n speed → s.dvc.state = .run → s.pen.pointing = none → s.pen.shot = none → s.scs.burn = none →
        s.osc.mode = .stopped → (∀ a, (s.latestRaw a).isSome) → (∀ a, (s.axis a).motion ≠ .held) → s.dsl.selected = both .jog →
        s.station.n.angleSilenceExp ≤ 17 → (∀ a, s.dvc.silenceAge.get a + 1000 < 2 ^ s.station.n.angleSilenceExp) →
        let vmax := fun a : Axis => if a = .h then s.station.n.vmaxH else s.station.n.vmaxV
        let acc := fun a : Axis => if a = .h then s.station.n.accH else s.station.n.accV
        let cap := fun a : Axis => max 1 (min (speed.get a).natAbs (s.effectiveSpeed a))
        let act := fun a : Axis => ((s.axis a).period a (vmax a) (acc a) (cap a)).axis
        let ends := fun a : Axis => ((act a).controlledStop a .jog).axis
        let far := mod24 ((act .h).pos + if 0 < speed.h then 8000000 else -8000000)
        ∃ t : State, exec (.periodExpiry cell) s = .next t ∧ t.pen = s.pen ∧ t.reports = s.reports ∧ t.dvc.state = .run
          ∧ (∀ a, t.transmit.slots.get a =
              some { axis := a, mode := .position, position := (act a).pos, speed := (act a).stepSpeed })
          ∧ (1 < n → t.dsl.jog = .leased (n - 1) speed ∧ t.axis .v = act .v
              ∧ (speed.h ≠ 0 ∧ (act .h).motion = .moving → t.axis .h = ((act .h).retarget .h far .jog).axis)
              ∧ (¬(speed.h ≠ 0 ∧ (act .h).motion = .moving) → t.axis .h = act .h))
          ∧ (n ≤ 1 → (∀ a, t.axis a = ends a)
              ∧ t.dsl.jog = if (ends .h).movingFor .jog = true ∨ (ends .v).movingFor .jog = true then .stopping speed else .none))
    ∧ ∀ (s : State) (cell : CellRead),
      s.restarting = true → s.pen.pointing = none → s.pen.shot = none → s.dsl.jog = .none → s.scs.burn = none →
      s.dvc.ordinary = none → s.dvc.critical = none → (∀ a, (s.latestRaw a).isSome) → (∀ a, (s.axis a).motion ≠ .held) →
      (∀ a, s.dsl.selected.get a = .aim ∨ (s.dsl.selected.get a = .park ∧ (s.axis a).motion = .still)) →
      s.station.n.angleSilenceExp ≤ 17 → (∀ a, s.dvc.silenceAge.get a + 1000 < 2 ^ s.station.n.angleSilenceExp) →
      let vmax := fun a : Axis => if a = .h then s.station.n.vmaxH else s.station.n.vmaxV
      let acc := fun a : Axis => if a = .h then s.station.n.accH else s.station.n.accV
      let act := fun a : Axis => ((s.axis a).period a (vmax a) (acc a) (s.effectiveSpeed a)).axis
      let tick := fun n : Nat => (s.entry n).tick (s.engaged n)
      let raised := fun m : Notices =>
        ((List.range s.entries.length).filter fun n => (tick n).overrun).foldl (fun m n => m.raise .overrun (some n)) m
      let warm := fun e : Entry =>
        if e.state = .armed ∨ e.state = .due ∨ e.state = .active ∨ e.state = .backoff then
          { e with state := .armed, countdown := e.definition.offset, misses := 0, retry := none, deferred := false }
        else if e.state = .empty then { e with countdown := 0, misses := 0, overruns := 0, retry := none, deferred := false }
        else { e with retry := none, deferred := false }
      let timer := s.dvc.restartTimer.getD 0 + 1
      let moves := ∃ a, (act a).inMotion = true
      let warmed := fun t : State =>
        t.dvc.state = .run ∧ t.dvc.cause = .none ∧ t.dvc.restartTimer = none ∧ t.osc.mode = .stopped ∧ t.osc.queue = []
          ∧ t.dvc.level = .level ∧ t.dvc.report = s.dvc.report ∧ t.notices =
            raised ({ records := List.replicate 16 { pending := false, count := 0, lastTarget := none }, alertWaits := false } : Notices)
          ∧ (∀ n e, s.entries[n]? = some e → t.entries[n]? = some (warm (tick n).entry))
          ∧ ∀ a, (act a).inMotion = false → (t.axis a).motion = .still ∧ t.dsl.selected.get a = .park
      ∃ t : State, exec (.periodExpiry cell) s = .next t ∧ t.pen = s.pen
        ∧ (moves → timer < 2000 → t.dvc.state = .stopping ∧ t.dvc.cause = .restart ∧ t.dvc.restartTimer = some timer
            ∧ t.notices = raised s.notices ∧ (∀ a, t.axis a = act a)
            ∧ ∀ n e, s.entries[n]? = some e → t.entries[n]? = some (tick n).entry)
        ∧ (moves → 2000 ≤ timer → warmed t
            ∧ ∀ a, (act a).inMotion = true →
                (t.axis a).motion = .held ∧ (t.axis a).s = 0 ∧ (t.axis a).setpoint = none ∧ (t.axis a).p = (act a).p
                  ∧ t.dsl.selected.get a = .hold
                  ∧ t.transmit.slots.get a = some { axis := a, mode := .hold, position := (act a).pos, speed := 0 })
        ∧ (¬moves → warmed t)

/-- R64, R75, R76, R78 and log entry 2: the timers of a pointing, scheduled or one-off. SETTLE_TIMEOUT ends a pointing in
SETTLE UNSETTLED, and DETECTOR_SILENCE one in a watched phase NOSENSOR; DWELL_EXPIRY ends a FOLLOW DONE, or closes retries
while a shot is in hand; TRACK_TIMER_EXPIRY sends a shot on aim. In every other phase, and while the pointing is frozen
(R80), they change nothing (log entry 3). The end of a one-off pointing leaves the entry's state as it is and hands a
deferred entry over (R25, R31). -/
def Obligations.PointingTimersRunOut : Prop :=
  (∀ (s : State) (p : Pointing), s.pen.pointing = some p → p.frozen = true →
      exec .settleTimeout s = .next s ∧ exec .detectorSilence s = .next s ∧ exec .dwellExpiry s = .next s
        ∧ exec .trackTimerExpiry s = .next s)
    ∧ ∀ (s : State) (p : Pointing), s.InFlight p →
    let soft := fun (o : Verdict) => if p.frozenCopy.kind = .track ∧ 1 ≤ p.followCount then .partialDone else o
    let watched :=
      p.phase = .acquire ∨ p.phase = .look ∨ p.phase = .locking ∨ p.phase = .centre ∨ p.phase = .measure ∨ p.phase = .follow
    (p.phase = .settle → s.MayEnd p → exec .settleTimeout s = .next (s.afterEnd p (soft .unsettled)))
      ∧ (p.phase ≠ .settle → exec .settleTimeout s = .next s)
      ∧ (watched → s.MayEnd p → exec .detectorSilence s = .next (s.afterEnd p (soft .nosensor)))
      ∧ (¬watched → exec .detectorSilence s = .next s)
      ∧ (p.phase = .follow → s.pen.shot = none → s.MayEnd p → exec .dwellExpiry s = .next (s.afterEnd p .done))
      ∧ (p.phase = .follow → s.pen.shot ≠ none →
          exec .dwellExpiry s =
            .next { s with pen := { s.pen with pointing := some { p with dwell := some 0 }, retriesClosed := true } })
      ∧ (p.phase ≠ .follow → exec .dwellExpiry s = .next s ∧ exec .trackTimerExpiry s = .next s)
      ∧ (p.phase = .follow → p.dwell ≠ some 0 →
          let may := s.pen.shot = none ∧ p.onAim = true ∧ (p.reservation = true ∨ s.reports.queue.length < 32)
          (¬may → exec .trackTimerExpiry s = .next { s with pen := { s.pen with pointing := some { p with track := some 0 } } })
            ∧ (may →
                exec .trackTimerExpiry s =
                  .next
                    { s with
                      pen :=
                        { s.pen with
                          nextShotId := (s.pen.nextShotId + 1) % 256
                          shot := some { id := s.pen.nextShotId, stage := .awaitingRange 0 }
                          retriesClosed := false
                          pointing :=
                            some { p with track := some 0, reservation := true, attempts := p.attempts + 1 } }
                      transmit := { s.transmit with shots := s.transmit.shots ++ [s.pen.nextShotId] } }))

/-- R62, R63, R94, R95 and log entries 2 and 3: AXIS_ARRIVAL and SETTLE_COMPLETION. An axis in motion comes to rest at its
setpoint; the second arrival of a SLEW or SEARCH_MOVE begins SETTLE and its test, from the setpoints in force. A sample of
either axis in the window, by the shorter way round for H, raises its axis's count and one outside zeroes it; when both
counts are full, the phase becomes ACQUIRE, or LOOK of a search leg, with the sample's capture time. -/
def Obligations.ArrivalsAndSettling : Prop :=
  (∀ (s : State) (a : Axis), (s.axis a).motion ≠ .moving → (s.axis a).motion ≠ .braking →
      exec (.axisArrival a) s = .next s)
    ∧ (∀ (s : State) (p : Pointing) (a : Axis) (x : Int), s.InFlight p → (s.axis a).motion = .moving →
        (s.axis a).setpoint = some x → (s.axis a).requester = .pointing → (p.phase = .slew ∨ p.phase = .searchMove) →
        let r : AxisRec := { s.axis a with p := some x, s := 0, motion := .still }
        let other := if a = .h then p.arrived.v else p.arrived.h
        (other = false →
            exec (.axisArrival a) s =
              .next
                { s with
                  apg := { s.apg with axes := s.apg.axes.set a r }
                  pen := { s.pen with pointing := some { p with arrived := p.arrived.set a true } } })
          ∧ (other = true → ∀ hs vs : Int, (s.axis .h).setpoint = some hs → (s.axis .v).setpoint = some vs →
              exec (.axisArrival a) s =
                .next
                  { s with
                    apg :=
                      { axes := s.apg.axes.set a r,
                        settle :=
                          some
                            { setpoint := { h := hs, v := vs }, win := s.station.n.settleWin, n := s.station.n.settleN,
                              count := both 0 } }
                    pen :=
                      { s.pen with
                        pointing := some { p with arrived := p.arrived.set a true, phase := .settle, settleTimer := 0 } } }))
    ∧ (∀ (s : State) (time : Int), s.apg.settle = none → exec (.settleCompletion time) s = .next s)
    ∧ (∀ (s : State) (p : Pointing) (x : SettleTest) (time : Int), s.InFlight p → p.phase = .settle →
        s.apg.settle = some x →
        exec (.settleCompletion time) s =
          .next
            { s with
              apg := { s.apg with settle := none }
              pen :=
                { s.pen with
                  pointing :=
                    some
                      { p with
                        settleTime := some time, silence := 0,
                        phase := if p.searchLeg = 0 then .acquire else .look } } })
    ∧ ∀ (s : State) (us age : Nat) (a : Axis) (raw : Int) (p : Pointing) (x : SettleTest),
      let u : State := { s.advanceTo us with link := { (s.advanceTo us).link with rxAxis := [] } }
      let time : Int := (u.stc.siteTime : Int) - (age : Int)
      let m := (raw - x.setpoint.h) % 16777216
      let dev := if a = .v then raw - x.setpoint.v else if 8388608 ≤ m then m - 16777216 else m
      let n := if -x.win ≤ dev ∧ dev ≤ x.win then min (x.count.get a + 1) x.n else 0
      let other := if a = .v then x.count.h else x.count.v
      u.InFlight p → p.phase = .settle → u.apg.settle = some x → u.pen.shot = none →
      (∀ y, (u.scu.history.get a).getLast? = some y → y.time < time) →
      ∃ t : State, exec (.angleFrame us a raw age) s = .next t ∧ t.latestRaw a = some raw
        ∧ (¬(other = x.n ∧ n = x.n) → t.apg.settle = some { x with count := x.count.set a n } ∧ t.pen = u.pen)
        ∧ (other = x.n → n = x.n →
            t.apg.settle = none
              ∧ t.pen.pointing =
                  some
                    { p with
                      settleTime := some time, silence := 0, phase := if p.searchLeg = 0 then .acquire else .look })

/-- R150, R152, R161 and log entries 2 and 3: STOP_COMPLETION, AUTOMATIC_RESUME and RESTART_TIMEOUT. A stop that is not
complete, a HELD that does not resume by itself and a restart with no axis in motion are left as they are. A complete stop of
cause PAUSE or LEVEL reaches HELD with the frozen pointing in its context, resume mode COMMAND after a PAUSE; an automatic
resume returns to RUN with its context's pointing restarted; the restart timeout puts every axis still in motion into HOLD,
and the warm values follow, with the summary cleared of all but the SUSPENDED of a context's entry (log entry 37). -/
def Obligations.StopsCompleteAndResume : Prop :=
  ∀ s : State,
    ((s.dvc.state ≠ .stopping ∨ (∃ a, (s.axis a).inMotion = true) ∨ s.pen.shot ≠ none) → exec .stopCompletion s = .next s)
      ∧ (s.dvc.state = .stopping → (s.dvc.cause = .pause ∨ (s.dvc.cause = .level ∧ s.dvc.level = .lost)) →
          (∀ a, (s.axis a).inMotion = false) → s.pen.shot = none →
          ∃ t : State, exec .stopCompletion s = .next t ∧ t.base = s.base
            ∧ t.dvc =
                { s.dvc with
                  state := .held, resumeMode := some (if s.dvc.cause = .pause then .command else .auto),
                  ordinary :=
                    some
                      { target := s.pen.pointing.map (·.target), part := s.pen.pointing.map (·.part), cause := s.dvc.cause,
                        recoverable := true, savedAt := s.stc.siteTime } }
            ∧ t.pen.pointing = none ∧ t.entries = s.entries ∧ t.osc = s.osc ∧ t.reports = s.reports
            ∧ t.notices = s.notices)
      ∧ (s.osc.mode = .stopped →
          (s.dvc.state ≠ .held ∨ s.dvc.resumeMode ≠ some .auto ∨ s.dvc.level = .lost ∨ s.scs.burn ≠ none) →
          exec .automaticResume s = .next s)
      ∧ (∀ (c : Context) (n : Nat) (part : PointingPart), s.dvc.state = .held → s.dvc.resumeMode = some .auto →
          s.dvc.level = .level → s.scs.burn = none → s.dvc.ordinary = some c → c.recoverable = true → c.target = some n →
          c.part = some part →
          ∃ (t : State) (p : Pointing), exec .automaticResume s = .next t ∧ t.base = s.base
            ∧ t.dvc = { s.dvc with state := .run, cause := .none, resumeMode := none, ordinary := none }
            ∧ t.pen.pointing = some p ∧ p.target = n ∧ p.kind = part.kind ∧ p.frozenCopy = part.frozenCopy
            ∧ (p.phase = .slew ∨ p.phase = .settle) ∧ p.searchLeg = part.searchLeg ∧ p.attempts = part.attempts
            ∧ p.followCount = part.followCount ∧ p.dwell = part.dwell ∧ t.squ = zeroSqu ∧ t.entries = s.entries
            ∧ t.osc = s.osc ∧ t.reports = s.reports ∧ t.notices = s.notices)
      ∧ ((s.dvc.state ≠ .stopping ∨ s.dvc.cause ≠ .restart ∨ ∀ a, (s.axis a).inMotion = false) →
          exec .restartTimeout s = .next s)
      ∧ (s.dvc.state = .stopping → s.dvc.cause = .restart → (∃ a, (s.axis a).inMotion = true) →
          let cleared := ({ records := List.replicate 16 { pending := false, count := 0, lastTarget := none }, alertWaits := false } : Notices)
          let warm := fun e : Entry =>
            if e.state = .armed ∨ e.state = .due ∨ e.state = .active ∨ e.state = .backoff then
              { e with state := .armed, countdown := e.definition.offset, misses := 0, retry := none, deferred := false }
            else if e.state = .empty then { e with countdown := 0, misses := 0, overruns := 0, retry := none, deferred := false }
            else { e with retry := none, deferred := false }
          ∃ t : State, exec .restartTimeout s = .next t ∧ t.base = s.base ∧ t.dvc.state = .run ∧ t.dvc.cause = .none
            ∧ t.dvc.ordinary = none ∧ t.dvc.critical = none ∧ t.dvc.restartTimer = none ∧ t.osc.mode = .stopped
            ∧ t.osc.queue = [] ∧ t.dsl.jog = .none
            ∧ (∀ k, k ≠ .suspended → t.notices.record k = { pending := false, count := 0, lastTarget := none })
            ∧ ((∀ c, s.dvc.ordinary = some c → c.target = none) → (∀ r, s.dvc.critical = some r → r.context.target = none) →
                t.entries = s.entries.map warm ∧ t.notices = cleared)
            ∧ (∀ a, (s.axis a).inMotion = true →
                (t.axis a).motion = .held ∧ (t.axis a).s = 0 ∧ (t.axis a).setpoint = none ∧ (t.axis a).p = (s.axis a).p
                  ∧ t.dsl.selected.get a = .hold)
            ∧ ∀ e ∈ t.entries, e.state ≠ .due ∧ e.state ≠ .active ∧ e.state ≠ .backoff)

/-! ### The transmitters -/

/-- R131, R132, R174, R178, R181 to R183 and log entries 3 and 8: the controller port's transmitter takes a REPLY, then a
waiting ALERT, then the oldest record, then a waiting DIRECTION, each only when the transmitter is free and no source before
it holds a frame. An OBS frame begins inside the step that lets it go: no step leaves the transmitter free with a record
behind neither a REPLY nor an ALERT, and the end of any frame begins the oldest such record; the beginning of a REPLY, an
ALERT or a DIRECTION is a step of its own (log entry 8). A REPLY, an ALERT and a DIRECTION leave their place as they begin, a
record leaves the queue when its frame has been sent; a REPLY that begins lets the oldest buffered frame be dispatched, which
does what its request does on arrival. The axis port sends the frame of H before that of V, and the sensor port the SHOT
frames in the order queued, each leaving its queue at its beginning (log entry 8, not R182). Every other begin, and the end
of a frame that is not being sent, changes nothing (log entry 3). Section 11.6: the bytes of every frame sent, for values
that fit their fields. -/
def Obligations.TransmittersSendInOrder : Prop :=
  (∀ s t : State, s.recordsGo → step s = .next t → t.recordsGo)
    ∧ (∀ s : State,
        let sending := fun (x : Option Sending) => ({ s.transmit with controller := x } : Transmit)
        let free := s.transmit.controller = none
        let freed := fun u : State =>
          if s.requests.replies = [] ∧ s.notices.alertWaits = false then
            ({ u with transmit := sending (u.reports.queue.head?.map .obs) } : State)
          else { u with transmit := sending none }
        (∀ r rest, s.requests.replies = r :: rest → free → s.requests.buffer = [] →
            exec (.replySent .begins) s =
              .next { s with requests := { buffer := [], replies := rest }, transmit := sending (some (.reply r)) })
          ∧ (∀ r rest h k, s.requests.replies = r :: rest → free →
            s.requests.buffer = [{ frame := .wrongLength h, stamp := k }] → rest.length < 8 →
              exec (.replySent .begins) s =
                .next
                  { s with
                    requests := { buffer := [], replies := rest ++ [{ tag := h.tag, code := .range, body := [] }] }
                    transmit := sending (some (.reply r))
                    scs := { s.scs with guard := 0 } })
          ∧ (s.requests.replies = [] → s.notices.alertWaits = true → free →
              exec (.alertSent .begins) s =
                .next
                  { s with
                    notices := { s.notices with alertWaits := false }
                    transmit := sending (some (.alert (s.notices.records.map (·.pending)))) })
          ∧ (∀ r rest, s.requests.replies = [] → s.notices.alertWaits = false → s.reports.queue = r :: rest → free →
              exec (.obsSent .begins) s = .next { s with transmit := sending (some (.obs r)) })
          ∧ (∀ d, s.requests.replies = [] → s.notices.alertWaits = false → s.reports.queue = [] → s.reports.direction = some d →
              free →
              exec (.directionSent .begins) s =
                .next { s with reports := { s.reports with direction := none }, transmit := sending (some (.direction d)) })
          ∧ ((¬free ∨ s.requests.replies = []) → exec (.replySent .begins) s = .next s)
          ∧ ((¬free ∨ s.requests.replies ≠ [] ∨ s.notices.alertWaits = false) → exec (.alertSent .begins) s = .next s)
          ∧ ((¬free ∨ s.requests.replies ≠ [] ∨ s.notices.alertWaits = true ∨ s.reports.queue = []) →
              exec (.obsSent .begins) s = .next s)
          ∧ ((¬free ∨ s.requests.replies ≠ [] ∨ s.notices.alertWaits = true ∨ s.reports.queue ≠ [] ∨ s.reports.direction = none) →
              exec (.directionSent .begins) s = .next s)
          ∧ (∀ r, s.transmit.controller = some (.reply r) → exec (.replySent .ends) s = .next (freed s))
          ∧ (∀ b, s.transmit.controller = some (.alert b) → exec (.alertSent .ends) s = .next (freed s))
          ∧ (∀ d, s.transmit.controller = some (.direction d) → exec (.directionSent .ends) s = .next (freed s))
          ∧ (∀ r, s.transmit.controller = some (.obs r) →
              let t := freed { s with reports := { s.reports with queue := s.reports.queue.drop 1 } }
              exec (.obsSent .ends) s = exec .dispatch t ∧ (s.osc.mode = .stopped → exec (.obsSent .ends) s = .next t))
          ∧ ((∀ r, s.transmit.controller ≠ some (.reply r)) → exec (.replySent .ends) s = .next s)
          ∧ ((∀ b, s.transmit.controller ≠ some (.alert b)) → exec (.alertSent .ends) s = .next s)
          ∧ ((∀ d, s.transmit.controller ≠ some (.direction d)) → exec (.directionSent .ends) s = .next s)
          ∧ ((∀ r, s.transmit.controller ≠ some (.obs r)) → exec (.obsSent .ends) s = .next s))
    ∧ (∀ s : State,
        (∀ (a : Axis) (f : DriveFrame), s.transmit.slots.get a = some f → s.transmit.axis = none →
            (a = .h ∨ s.transmit.slots.h = none) →
            exec (.driveFrameSent a .begins) s =
              .next { s with transmit := { s.transmit with axis := some f, slots := s.transmit.slots.set a none } })
          ∧ (∀ a : Axis, (s.transmit.slots.get a = none ∨ s.transmit.axis ≠ none ∨ (a = .v ∧ s.transmit.slots.h ≠ none)) →
              exec (.driveFrameSent a .begins) s = .next s)
          ∧ (∀ (a : Axis) (f : DriveFrame), s.transmit.axis = some f → f.axis = a →
              exec (.driveFrameSent a .ends) s = .next { s with transmit := { s.transmit with axis := none } })
          ∧ (∀ a : Axis, (∀ f, s.transmit.axis = some f → f.axis ≠ a) → exec (.driveFrameSent a .ends) s = .next s)
          ∧ (∀ id rest, s.transmit.shots = id :: rest → s.transmit.sensor = none →
              exec (.shotFrameSent .begins) s =
                .next { s with transmit := { s.transmit with sensor := some id, shots := rest } })
          ∧ ((s.transmit.shots = [] ∨ s.transmit.sensor ≠ none) → exec (.shotFrameSent .begins) s = .next s)
          ∧ exec (.shotFrameSent .ends) s = .next { s with transmit := { s.transmit with sensor := none } })
    ∧ (∀ (s : State) (f : BufferedFrame) (more : List BufferedFrame) (r : Reply) (rest : List Reply) (i : Instr),
        s.requests.replies = r :: rest → s.transmit.controller = none → s.requests.buffer = f :: more → f.frame = .request i →
        (isOrder i = true ∨ isQuery i = true ∨ i = .unknownRequest (Instr.hdr i)) → rest.length < 8 → (more = []
          ∨ rest.length = 7) →
        (Instr.hdr i).us ≤ s.stc.periodUs → s.link.rxController = [] →
        ∃ t : State,
          exec i
              { s with
                requests := { buffer := [], replies := rest }, transmit := { s.transmit with controller := some (.reply r) } } =
            .next t
            ∧ exec (.replySent .begins) s = .next { t with requests := { t.requests with buffer := more } })
    ∧ (∀ (r : ObsRecord),
        let flag := fun (b : Bool) (n : Nat) => if b = true then n else 0
        let f := r.flags
        let byte := flag f.suspect 128 + flag f.limited 64 + flag f.tiltStale 32 + flag f.retried 16 + flag f.oneOff 8 + flag f.follow 4
          + flag f.control 2
        let signed3 := fun x : Int => -8388608 ≤ x ∧ x < 8388608
        let deviations : List Byte :=
          match r.deviations with
          | none => []
          | some d =>
            bytes3 (BitVec.ofInt 24 d.dHz) ++ bytes3 (BitVec.ofInt 24 d.dV)
              ++ match d.dD with
                  | none => [0]
                  | some x => 1 :: bytes4 (BitVec.ofInt 32 x)
        let follow : List Byte :=
          match r.followIndex with
          | none => []
          | some i => bytes2 (BitVec.ofNat 16 i)
        r.sequence < 65536 → r.target < 256 → r.siteTime < 2 ^ 48 → 0 ≤ r.hz → r.hz < 16777216 → 0 ≤ r.v → r.v < 16777216 →
        0 ≤ r.distance → r.distance < 2 ^ 32 → r.strength < 256 → r.attempts < 256 → (∀ i, r.followIndex = some i → i < 65536) →
        (∀ d, r.deviations = some d →
          signed3 d.dHz ∧ signed3 d.dV ∧ ∀ x, d.dD = some x → -2147483648 ≤ x ∧ x < 2147483648) →
        (Sending.obs r).frame =
          { kind := 0x21, tag := 0,
            payload :=
              bytes2 (BitVec.ofNat 16 r.sequence) ++ [BitVec.ofNat 8 r.target] ++ bytes6 (BitVec.ofNat 48 r.siteTime)
                ++ bytes3 (BitVec.ofInt 24 r.hz) ++ bytes3 (BitVec.ofInt 24 r.v) ++ bytes4 (BitVec.ofInt 32 r.distance)
                ++ [BitVec.ofNat 8 r.strength, BitVec.ofNat 8 r.attempts, BitVec.ofNat 8 byte] ++ deviations ++ follow })
    ∧ ∀ (y : Reply) (flags : List Bool) (d : Direction) (f : DriveFrame) (id : Nat),
      (Sending.reply y).frame =
          { kind := 0x20, tag := y.tag,
            payload :=
              (match y.code with
                | .done => 0
                | .state => 1
                | .range => 2
                | .busy => 3
                | .fixed => 4
                | .burning => 5
                | .lockout => 6
                | .unknown => 7) :: y.body }
        ∧ (flags.length = 16 →
            ∃ bits : BitVec 16, (∀ k < 16, bits.getMsbD k = flags.getD k false)
              ∧ (Sending.alert flags).frame = { kind := 0x22, tag := 0, payload := bytes2 bits })
        ∧ (d.siteTime < 2 ^ 48 → 0 ≤ d.hz → d.hz < 16777216 → 0 ≤ d.v → d.v < 16777216 →
            (Sending.direction d).frame =
              { kind := 0x23, tag := 0,
                payload :=
                  bytes6 (BitVec.ofNat 48 d.siteTime) ++ bytes3 (BitVec.ofInt 24 d.hz) ++ bytes3 (BitVec.ofInt 24 d.v) })
        ∧ (0 ≤ f.position → f.position < 16777216 → -32768 ≤ f.speed → f.speed < 32768 →
            f.frame =
              { kind := 0x38, tag := 0,
                payload :=
                  [if f.axis = .h then 0 else 1, if f.mode = .hold then 0 else 1] ++ bytes3 (BitVec.ofInt 24 f.position)
                    ++ bytes2 (BitVec.ofInt 16 f.speed) })
        ∧ (id < 256 → shotFrame id = { kind := 0x48, tag := 0, payload := [BitVec.ofNat 8 id] })

end
end

