-- ==== Sys2Proof/Laws/State.lean ====
section
/-! SUPPORT. What each update of one block leaves in every field of the state, and reading and writing one value of a pair. -/

namespace Sys2Proof.Machine

open Sys2Proof

@[simp] theorem PerAxis.get_set_same {α : Type} (x : PerAxis α) (a : Axis) (y : α) : (x.set a y).get a = y := by
  cases a <;> rfl

theorem PerAxis.get_set_other {α : Type} (x : PerAxis α) {a b : Axis} (y : α) (h : b ≠ a) : (x.set a y).get b = x.get b := by
  cases a <;> cases b <;> first | rfl | exact absurd rfl h

theorem PerAxis.get_set {α : Type} (x : PerAxis α) (a b : Axis) (y : α) :
    (x.set a y).get b = if b = a then y else x.get b := by
  cases a <;> cases b <;> rfl

@[simp] theorem PerAxis.set_get {α : Type} (x : PerAxis α) (a : Axis) : x.set a (x.get a) = x := by
  cases a <;> rfl

@[simp] theorem PerAxis.get_h {α : Type} (x : PerAxis α) : x.get .h = x.h := rfl

@[simp] theorem PerAxis.get_v {α : Type} (x : PerAxis α) : x.get .v = x.v := rfl

@[simp] theorem PerAxis.get_both {α : Type} (x : α) (a : Axis) : (both x).get a = x := by
  cases a <;> rfl

@[simp] theorem State.setPointing_stc (s : State) (p : Option Pointing) : (s.setPointing p).stc = s.stc := rfl

@[simp] theorem State.setPointing_link (s : State) (p : Option Pointing) : (s.setPointing p).link = s.link := rfl

@[simp] theorem State.setPointing_requests (s : State) (p : Option Pointing) : (s.setPointing p).requests = s.requests := rfl

@[simp] theorem State.setPointing_notices (s : State) (p : Option Pointing) : (s.setPointing p).notices = s.notices := rfl

@[simp] theorem State.setPointing_reports (s : State) (p : Option Pointing) : (s.setPointing p).reports = s.reports := rfl

@[simp] theorem State.setPointing_transmit (s : State) (p : Option Pointing) : (s.setPointing p).transmit = s.transmit := rfl

@[simp] theorem State.setPointing_entries (s : State) (p : Option Pointing) : (s.setPointing p).entries = s.entries := rfl

@[simp] theorem State.setPointing_osc (s : State) (p : Option Pointing) : (s.setPointing p).osc = s.osc := rfl

@[simp] theorem State.setPointing_pen (s : State) (p : Option Pointing) : (s.setPointing p).pen = { s.pen with pointing := p } := rfl

@[simp] theorem State.setPointing_squ (s : State) (p : Option Pointing) : (s.setPointing p).squ = s.squ := rfl

@[simp] theorem State.setPointing_station (s : State) (p : Option Pointing) : (s.setPointing p).station = s.station := rfl

@[simp] theorem State.setPointing_aru (s : State) (p : Option Pointing) : (s.setPointing p).aru = s.aru := rfl

@[simp] theorem State.setPointing_scu (s : State) (p : Option Pointing) : (s.setPointing p).scu = s.scu := rfl

@[simp] theorem State.setPointing_apg (s : State) (p : Option Pointing) : (s.setPointing p).apg = s.apg := rfl

@[simp] theorem State.setPointing_dsl (s : State) (p : Option Pointing) : (s.setPointing p).dsl = s.dsl := rfl

@[simp] theorem State.setPointing_sdu (s : State) (p : Option Pointing) : (s.setPointing p).sdu = s.sdu := rfl

@[simp] theorem State.setPointing_dvc (s : State) (p : Option Pointing) : (s.setPointing p).dvc = s.dvc := rfl

@[simp] theorem State.setPointing_scs (s : State) (p : Option Pointing) : (s.setPointing p).scs = s.scs := rfl

@[simp] theorem State.setPointing_pending (s : State) (p : Option Pointing) : (s.setPointing p).pending = s.pending := rfl

@[simp] theorem State.setShot_stc (s : State) (x : Option Shot) : (s.setShot x).stc = s.stc := rfl

@[simp] theorem State.setShot_link (s : State) (x : Option Shot) : (s.setShot x).link = s.link := rfl

@[simp] theorem State.setShot_requests (s : State) (x : Option Shot) : (s.setShot x).requests = s.requests := rfl

@[simp] theorem State.setShot_notices (s : State) (x : Option Shot) : (s.setShot x).notices = s.notices := rfl

@[simp] theorem State.setShot_reports (s : State) (x : Option Shot) : (s.setShot x).reports = s.reports := rfl

@[simp] theorem State.setShot_transmit (s : State) (x : Option Shot) : (s.setShot x).transmit = s.transmit := rfl

@[simp] theorem State.setShot_entries (s : State) (x : Option Shot) : (s.setShot x).entries = s.entries := rfl

@[simp] theorem State.setShot_osc (s : State) (x : Option Shot) : (s.setShot x).osc = s.osc := rfl

@[simp] theorem State.setShot_pen (s : State) (x : Option Shot) : (s.setShot x).pen = { s.pen with shot := x } := rfl

@[simp] theorem State.setShot_squ (s : State) (x : Option Shot) : (s.setShot x).squ = s.squ := rfl

@[simp] theorem State.setShot_station (s : State) (x : Option Shot) : (s.setShot x).station = s.station := rfl

@[simp] theorem State.setShot_aru (s : State) (x : Option Shot) : (s.setShot x).aru = s.aru := rfl

@[simp] theorem State.setShot_scu (s : State) (x : Option Shot) : (s.setShot x).scu = s.scu := rfl

@[simp] theorem State.setShot_apg (s : State) (x : Option Shot) : (s.setShot x).apg = s.apg := rfl

@[simp] theorem State.setShot_dsl (s : State) (x : Option Shot) : (s.setShot x).dsl = s.dsl := rfl

@[simp] theorem State.setShot_sdu (s : State) (x : Option Shot) : (s.setShot x).sdu = s.sdu := rfl

@[simp] theorem State.setShot_dvc (s : State) (x : Option Shot) : (s.setShot x).dvc = s.dvc := rfl

@[simp] theorem State.setShot_scs (s : State) (x : Option Shot) : (s.setShot x).scs = s.scs := rfl

@[simp] theorem State.setShot_pending (s : State) (x : Option Shot) : (s.setShot x).pending = s.pending := rfl

@[simp] theorem State.setAxis_stc (s : State) (a : Axis) (r : AxisRec) : (s.setAxis a r).stc = s.stc := rfl

@[simp] theorem State.setAxis_link (s : State) (a : Axis) (r : AxisRec) : (s.setAxis a r).link = s.link := rfl

@[simp] theorem State.setAxis_requests (s : State) (a : Axis) (r : AxisRec) : (s.setAxis a r).requests = s.requests := rfl

@[simp] theorem State.setAxis_notices (s : State) (a : Axis) (r : AxisRec) : (s.setAxis a r).notices = s.notices := rfl

@[simp] theorem State.setAxis_reports (s : State) (a : Axis) (r : AxisRec) : (s.setAxis a r).reports = s.reports := rfl

@[simp] theorem State.setAxis_transmit (s : State) (a : Axis) (r : AxisRec) : (s.setAxis a r).transmit = s.transmit := rfl

@[simp] theorem State.setAxis_entries (s : State) (a : Axis) (r : AxisRec) : (s.setAxis a r).entries = s.entries := rfl

@[simp] theorem State.setAxis_osc (s : State) (a : Axis) (r : AxisRec) : (s.setAxis a r).osc = s.osc := rfl

@[simp] theorem State.setAxis_pen (s : State) (a : Axis) (r : AxisRec) : (s.setAxis a r).pen = s.pen := rfl

@[simp] theorem State.setAxis_squ (s : State) (a : Axis) (r : AxisRec) : (s.setAxis a r).squ = s.squ := rfl

@[simp] theorem State.setAxis_station (s : State) (a : Axis) (r : AxisRec) : (s.setAxis a r).station = s.station := rfl

@[simp] theorem State.setAxis_aru (s : State) (a : Axis) (r : AxisRec) : (s.setAxis a r).aru = s.aru := rfl

@[simp] theorem State.setAxis_scu (s : State) (a : Axis) (r : AxisRec) : (s.setAxis a r).scu = s.scu := rfl

@[simp] theorem State.setAxis_apg (s : State) (a : Axis) (r : AxisRec) : (s.setAxis a r).apg = { s.apg with axes := s.apg.axes.set a r } := rfl

@[simp] theorem State.setAxis_dsl (s : State) (a : Axis) (r : AxisRec) : (s.setAxis a r).dsl = s.dsl := rfl

@[simp] theorem State.setAxis_sdu (s : State) (a : Axis) (r : AxisRec) : (s.setAxis a r).sdu = s.sdu := rfl

@[simp] theorem State.setAxis_dvc (s : State) (a : Axis) (r : AxisRec) : (s.setAxis a r).dvc = s.dvc := rfl

@[simp] theorem State.setAxis_scs (s : State) (a : Axis) (r : AxisRec) : (s.setAxis a r).scs = s.scs := rfl

@[simp] theorem State.setAxis_pending (s : State) (a : Axis) (r : AxisRec) : (s.setAxis a r).pending = s.pending := rfl

@[simp] theorem State.setSettle_stc (s : State) (t : Option SettleTest) : (s.setSettle t).stc = s.stc := rfl

@[simp] theorem State.setSettle_link (s : State) (t : Option SettleTest) : (s.setSettle t).link = s.link := rfl

@[simp] theorem State.setSettle_requests (s : State) (t : Option SettleTest) : (s.setSettle t).requests = s.requests := rfl

@[simp] theorem State.setSettle_notices (s : State) (t : Option SettleTest) : (s.setSettle t).notices = s.notices := rfl

@[simp] theorem State.setSettle_reports (s : State) (t : Option SettleTest) : (s.setSettle t).reports = s.reports := rfl

@[simp] theorem State.setSettle_transmit (s : State) (t : Option SettleTest) : (s.setSettle t).transmit = s.transmit := rfl

@[simp] theorem State.setSettle_entries (s : State) (t : Option SettleTest) : (s.setSettle t).entries = s.entries := rfl

@[simp] theorem State.setSettle_osc (s : State) (t : Option SettleTest) : (s.setSettle t).osc = s.osc := rfl

@[simp] theorem State.setSettle_pen (s : State) (t : Option SettleTest) : (s.setSettle t).pen = s.pen := rfl

@[simp] theorem State.setSettle_squ (s : State) (t : Option SettleTest) : (s.setSettle t).squ = s.squ := rfl

@[simp] theorem State.setSettle_station (s : State) (t : Option SettleTest) : (s.setSettle t).station = s.station := rfl

@[simp] theorem State.setSettle_aru (s : State) (t : Option SettleTest) : (s.setSettle t).aru = s.aru := rfl

@[simp] theorem State.setSettle_scu (s : State) (t : Option SettleTest) : (s.setSettle t).scu = s.scu := rfl

@[simp] theorem State.setSettle_apg (s : State) (t : Option SettleTest) : (s.setSettle t).apg = { s.apg with settle := t } := rfl

@[simp] theorem State.setSettle_dsl (s : State) (t : Option SettleTest) : (s.setSettle t).dsl = s.dsl := rfl

@[simp] theorem State.setSettle_sdu (s : State) (t : Option SettleTest) : (s.setSettle t).sdu = s.sdu := rfl

@[simp] theorem State.setSettle_dvc (s : State) (t : Option SettleTest) : (s.setSettle t).dvc = s.dvc := rfl

@[simp] theorem State.setSettle_scs (s : State) (t : Option SettleTest) : (s.setSettle t).scs = s.scs := rfl

@[simp] theorem State.setSettle_pending (s : State) (t : Option SettleTest) : (s.setSettle t).pending = s.pending := rfl

@[simp] theorem State.setEntry_stc (s : State) (n : Nat) (e : Entry) : (s.setEntry n e).stc = s.stc := rfl

@[simp] theorem State.setEntry_link (s : State) (n : Nat) (e : Entry) : (s.setEntry n e).link = s.link := rfl

@[simp] theorem State.setEntry_requests (s : State) (n : Nat) (e : Entry) : (s.setEntry n e).requests = s.requests := rfl

@[simp] theorem State.setEntry_notices (s : State) (n : Nat) (e : Entry) : (s.setEntry n e).notices = s.notices := rfl

@[simp] theorem State.setEntry_reports (s : State) (n : Nat) (e : Entry) : (s.setEntry n e).reports = s.reports := rfl

@[simp] theorem State.setEntry_transmit (s : State) (n : Nat) (e : Entry) : (s.setEntry n e).transmit = s.transmit := rfl

@[simp] theorem State.setEntry_entries (s : State) (n : Nat) (e : Entry) : (s.setEntry n e).entries = s.entries.set n e := rfl

@[simp] theorem State.setEntry_osc (s : State) (n : Nat) (e : Entry) : (s.setEntry n e).osc = s.osc := rfl

@[simp] theorem State.setEntry_pen (s : State) (n : Nat) (e : Entry) : (s.setEntry n e).pen = s.pen := rfl

@[simp] theorem State.setEntry_squ (s : State) (n : Nat) (e : Entry) : (s.setEntry n e).squ = s.squ := rfl

@[simp] theorem State.setEntry_station (s : State) (n : Nat) (e : Entry) : (s.setEntry n e).station = s.station := rfl

@[simp] theorem State.setEntry_aru (s : State) (n : Nat) (e : Entry) : (s.setEntry n e).aru = s.aru := rfl

@[simp] theorem State.setEntry_scu (s : State) (n : Nat) (e : Entry) : (s.setEntry n e).scu = s.scu := rfl

@[simp] theorem State.setEntry_apg (s : State) (n : Nat) (e : Entry) : (s.setEntry n e).apg = s.apg := rfl

@[simp] theorem State.setEntry_dsl (s : State) (n : Nat) (e : Entry) : (s.setEntry n e).dsl = s.dsl := rfl

@[simp] theorem State.setEntry_sdu (s : State) (n : Nat) (e : Entry) : (s.setEntry n e).sdu = s.sdu := rfl

@[simp] theorem State.setEntry_dvc (s : State) (n : Nat) (e : Entry) : (s.setEntry n e).dvc = s.dvc := rfl

@[simp] theorem State.setEntry_scs (s : State) (n : Nat) (e : Entry) : (s.setEntry n e).scs = s.scs := rfl

@[simp] theorem State.setEntry_pending (s : State) (n : Nat) (e : Entry) : (s.setEntry n e).pending = s.pending := rfl

@[simp] theorem State.setSqu_stc (s : State) (q : Squ) : (s.setSqu q).stc = s.stc := rfl

@[simp] theorem State.setSqu_link (s : State) (q : Squ) : (s.setSqu q).link = s.link := rfl

@[simp] theorem State.setSqu_requests (s : State) (q : Squ) : (s.setSqu q).requests = s.requests := rfl

@[simp] theorem State.setSqu_notices (s : State) (q : Squ) : (s.setSqu q).notices = s.notices := rfl

@[simp] theorem State.setSqu_reports (s : State) (q : Squ) : (s.setSqu q).reports = s.reports := rfl

@[simp] theorem State.setSqu_transmit (s : State) (q : Squ) : (s.setSqu q).transmit = s.transmit := rfl

@[simp] theorem State.setSqu_entries (s : State) (q : Squ) : (s.setSqu q).entries = s.entries := rfl

@[simp] theorem State.setSqu_osc (s : State) (q : Squ) : (s.setSqu q).osc = s.osc := rfl

@[simp] theorem State.setSqu_pen (s : State) (q : Squ) : (s.setSqu q).pen = s.pen := rfl

@[simp] theorem State.setSqu_squ (s : State) (q : Squ) : (s.setSqu q).squ = q := rfl

@[simp] theorem State.setSqu_station (s : State) (q : Squ) : (s.setSqu q).station = s.station := rfl

@[simp] theorem State.setSqu_aru (s : State) (q : Squ) : (s.setSqu q).aru = s.aru := rfl

@[simp] theorem State.setSqu_scu (s : State) (q : Squ) : (s.setSqu q).scu = s.scu := rfl

@[simp] theorem State.setSqu_apg (s : State) (q : Squ) : (s.setSqu q).apg = s.apg := rfl

@[simp] theorem State.setSqu_dsl (s : State) (q : Squ) : (s.setSqu q).dsl = s.dsl := rfl

@[simp] theorem State.setSqu_sdu (s : State) (q : Squ) : (s.setSqu q).sdu = s.sdu := rfl

@[simp] theorem State.setSqu_dvc (s : State) (q : Squ) : (s.setSqu q).dvc = s.dvc := rfl

@[simp] theorem State.setSqu_scs (s : State) (q : Squ) : (s.setSqu q).scs = s.scs := rfl

@[simp] theorem State.setSqu_pending (s : State) (q : Squ) : (s.setSqu q).pending = s.pending := rfl

@[simp] theorem State.setOsc_stc (s : State) (o : Osc) : (s.setOsc o).stc = s.stc := rfl

@[simp] theorem State.setOsc_link (s : State) (o : Osc) : (s.setOsc o).link = s.link := rfl

@[simp] theorem State.setOsc_requests (s : State) (o : Osc) : (s.setOsc o).requests = s.requests := rfl

@[simp] theorem State.setOsc_notices (s : State) (o : Osc) : (s.setOsc o).notices = s.notices := rfl

@[simp] theorem State.setOsc_reports (s : State) (o : Osc) : (s.setOsc o).reports = s.reports := rfl

@[simp] theorem State.setOsc_transmit (s : State) (o : Osc) : (s.setOsc o).transmit = s.transmit := rfl

@[simp] theorem State.setOsc_entries (s : State) (o : Osc) : (s.setOsc o).entries = s.entries := rfl

@[simp] theorem State.setOsc_osc (s : State) (o : Osc) : (s.setOsc o).osc = o := rfl

@[simp] theorem State.setOsc_pen (s : State) (o : Osc) : (s.setOsc o).pen = s.pen := rfl

@[simp] theorem State.setOsc_squ (s : State) (o : Osc) : (s.setOsc o).squ = s.squ := rfl

@[simp] theorem State.setOsc_station (s : State) (o : Osc) : (s.setOsc o).station = s.station := rfl

@[simp] theorem State.setOsc_aru (s : State) (o : Osc) : (s.setOsc o).aru = s.aru := rfl

@[simp] theorem State.setOsc_scu (s : State) (o : Osc) : (s.setOsc o).scu = s.scu := rfl

@[simp] theorem State.setOsc_apg (s : State) (o : Osc) : (s.setOsc o).apg = s.apg := rfl

@[simp] theorem State.setOsc_dsl (s : State) (o : Osc) : (s.setOsc o).dsl = s.dsl := rfl

@[simp] theorem State.setOsc_sdu (s : State) (o : Osc) : (s.setOsc o).sdu = s.sdu := rfl

@[simp] theorem State.setOsc_dvc (s : State) (o : Osc) : (s.setOsc o).dvc = s.dvc := rfl

@[simp] theorem State.setOsc_scs (s : State) (o : Osc) : (s.setOsc o).scs = s.scs := rfl

@[simp] theorem State.setOsc_pending (s : State) (o : Osc) : (s.setOsc o).pending = s.pending := rfl

@[simp] theorem State.setDvc_stc (s : State) (d : Dvc) : (s.setDvc d).stc = s.stc := rfl

@[simp] theorem State.setDvc_link (s : State) (d : Dvc) : (s.setDvc d).link = s.link := rfl

@[simp] theorem State.setDvc_requests (s : State) (d : Dvc) : (s.setDvc d).requests = s.requests := rfl

@[simp] theorem State.setDvc_notices (s : State) (d : Dvc) : (s.setDvc d).notices = s.notices := rfl

@[simp] theorem State.setDvc_reports (s : State) (d : Dvc) : (s.setDvc d).reports = s.reports := rfl

@[simp] theorem State.setDvc_transmit (s : State) (d : Dvc) : (s.setDvc d).transmit = s.transmit := rfl

@[simp] theorem State.setDvc_entries (s : State) (d : Dvc) : (s.setDvc d).entries = s.entries := rfl

@[simp] theorem State.setDvc_osc (s : State) (d : Dvc) : (s.setDvc d).osc = s.osc := rfl

@[simp] theorem State.setDvc_pen (s : State) (d : Dvc) : (s.setDvc d).pen = s.pen := rfl

@[simp] theorem State.setDvc_squ (s : State) (d : Dvc) : (s.setDvc d).squ = s.squ := rfl

@[simp] theorem State.setDvc_station (s : State) (d : Dvc) : (s.setDvc d).station = s.station := rfl

@[simp] theorem State.setDvc_aru (s : State) (d : Dvc) : (s.setDvc d).aru = s.aru := rfl

@[simp] theorem State.setDvc_scu (s : State) (d : Dvc) : (s.setDvc d).scu = s.scu := rfl

@[simp] theorem State.setDvc_apg (s : State) (d : Dvc) : (s.setDvc d).apg = s.apg := rfl

@[simp] theorem State.setDvc_dsl (s : State) (d : Dvc) : (s.setDvc d).dsl = s.dsl := rfl

@[simp] theorem State.setDvc_sdu (s : State) (d : Dvc) : (s.setDvc d).sdu = s.sdu := rfl

@[simp] theorem State.setDvc_dvc (s : State) (d : Dvc) : (s.setDvc d).dvc = d := rfl

@[simp] theorem State.setDvc_scs (s : State) (d : Dvc) : (s.setDvc d).scs = s.scs := rfl

@[simp] theorem State.setDvc_pending (s : State) (d : Dvc) : (s.setDvc d).pending = s.pending := rfl

@[simp] theorem State.setJog_stc (s : State) (j : Jog) : (s.setJog j).stc = s.stc := rfl

@[simp] theorem State.setJog_link (s : State) (j : Jog) : (s.setJog j).link = s.link := rfl

@[simp] theorem State.setJog_requests (s : State) (j : Jog) : (s.setJog j).requests = s.requests := rfl

@[simp] theorem State.setJog_notices (s : State) (j : Jog) : (s.setJog j).notices = s.notices := rfl

@[simp] theorem State.setJog_reports (s : State) (j : Jog) : (s.setJog j).reports = s.reports := rfl

@[simp] theorem State.setJog_transmit (s : State) (j : Jog) : (s.setJog j).transmit = s.transmit := rfl

@[simp] theorem State.setJog_entries (s : State) (j : Jog) : (s.setJog j).entries = s.entries := rfl

@[simp] theorem State.setJog_osc (s : State) (j : Jog) : (s.setJog j).osc = s.osc := rfl

@[simp] theorem State.setJog_pen (s : State) (j : Jog) : (s.setJog j).pen = s.pen := rfl

@[simp] theorem State.setJog_squ (s : State) (j : Jog) : (s.setJog j).squ = s.squ := rfl

@[simp] theorem State.setJog_station (s : State) (j : Jog) : (s.setJog j).station = s.station := rfl

@[simp] theorem State.setJog_aru (s : State) (j : Jog) : (s.setJog j).aru = s.aru := rfl

@[simp] theorem State.setJog_scu (s : State) (j : Jog) : (s.setJog j).scu = s.scu := rfl

@[simp] theorem State.setJog_apg (s : State) (j : Jog) : (s.setJog j).apg = s.apg := rfl

@[simp] theorem State.setJog_dsl (s : State) (j : Jog) : (s.setJog j).dsl = { s.dsl with jog := j } := rfl

@[simp] theorem State.setJog_sdu (s : State) (j : Jog) : (s.setJog j).sdu = s.sdu := rfl

@[simp] theorem State.setJog_dvc (s : State) (j : Jog) : (s.setJog j).dvc = s.dvc := rfl

@[simp] theorem State.setJog_scs (s : State) (j : Jog) : (s.setJog j).scs = s.scs := rfl

@[simp] theorem State.setJog_pending (s : State) (j : Jog) : (s.setJog j).pending = s.pending := rfl

@[simp] theorem State.setSource_stc (s : State) (a : Axis) (x : Source) : (s.setSource a x).stc = s.stc := rfl

@[simp] theorem State.setSource_link (s : State) (a : Axis) (x : Source) : (s.setSource a x).link = s.link := rfl

@[simp] theorem State.setSource_requests (s : State) (a : Axis) (x : Source) : (s.setSource a x).requests = s.requests := rfl

@[simp] theorem State.setSource_notices (s : State) (a : Axis) (x : Source) : (s.setSource a x).notices = s.notices := rfl

@[simp] theorem State.setSource_reports (s : State) (a : Axis) (x : Source) : (s.setSource a x).reports = s.reports := rfl

@[simp] theorem State.setSource_transmit (s : State) (a : Axis) (x : Source) : (s.setSource a x).transmit = s.transmit := rfl

@[simp] theorem State.setSource_entries (s : State) (a : Axis) (x : Source) : (s.setSource a x).entries = s.entries := rfl

@[simp] theorem State.setSource_osc (s : State) (a : Axis) (x : Source) : (s.setSource a x).osc = s.osc := rfl

@[simp] theorem State.setSource_pen (s : State) (a : Axis) (x : Source) : (s.setSource a x).pen = s.pen := rfl

@[simp] theorem State.setSource_squ (s : State) (a : Axis) (x : Source) : (s.setSource a x).squ = s.squ := rfl

@[simp] theorem State.setSource_station (s : State) (a : Axis) (x : Source) : (s.setSource a x).station = s.station := rfl

@[simp] theorem State.setSource_aru (s : State) (a : Axis) (x : Source) : (s.setSource a x).aru = s.aru := rfl

@[simp] theorem State.setSource_scu (s : State) (a : Axis) (x : Source) : (s.setSource a x).scu = s.scu := rfl

@[simp] theorem State.setSource_apg (s : State) (a : Axis) (x : Source) : (s.setSource a x).apg = s.apg := rfl

@[simp] theorem State.setSource_dsl (s : State) (a : Axis) (x : Source) : (s.setSource a x).dsl = { s.dsl with selected := s.dsl.selected.set a x } := rfl

@[simp] theorem State.setSource_sdu (s : State) (a : Axis) (x : Source) : (s.setSource a x).sdu = s.sdu := rfl

@[simp] theorem State.setSource_dvc (s : State) (a : Axis) (x : Source) : (s.setSource a x).dvc = s.dvc := rfl

@[simp] theorem State.setSource_scs (s : State) (a : Axis) (x : Source) : (s.setSource a x).scs = s.scs := rfl

@[simp] theorem State.setSource_pending (s : State) (a : Axis) (x : Source) : (s.setSource a x).pending = s.pending := rfl

@[simp] theorem State.setSlot_stc (s : State) (a : Axis) (f : Option DriveFrame) : (s.setSlot a f).stc = s.stc := rfl

@[simp] theorem State.setSlot_link (s : State) (a : Axis) (f : Option DriveFrame) : (s.setSlot a f).link = s.link := rfl

@[simp] theorem State.setSlot_requests (s : State) (a : Axis) (f : Option DriveFrame) : (s.setSlot a f).requests = s.requests := rfl

@[simp] theorem State.setSlot_notices (s : State) (a : Axis) (f : Option DriveFrame) : (s.setSlot a f).notices = s.notices := rfl

@[simp] theorem State.setSlot_reports (s : State) (a : Axis) (f : Option DriveFrame) : (s.setSlot a f).reports = s.reports := rfl

@[simp] theorem State.setSlot_transmit (s : State) (a : Axis) (f : Option DriveFrame) : (s.setSlot a f).transmit = { s.transmit with slots := s.transmit.slots.set a f } := rfl

@[simp] theorem State.setSlot_entries (s : State) (a : Axis) (f : Option DriveFrame) : (s.setSlot a f).entries = s.entries := rfl

@[simp] theorem State.setSlot_osc (s : State) (a : Axis) (f : Option DriveFrame) : (s.setSlot a f).osc = s.osc := rfl

@[simp] theorem State.setSlot_pen (s : State) (a : Axis) (f : Option DriveFrame) : (s.setSlot a f).pen = s.pen := rfl

@[simp] theorem State.setSlot_squ (s : State) (a : Axis) (f : Option DriveFrame) : (s.setSlot a f).squ = s.squ := rfl

@[simp] theorem State.setSlot_station (s : State) (a : Axis) (f : Option DriveFrame) : (s.setSlot a f).station = s.station := rfl

@[simp] theorem State.setSlot_aru (s : State) (a : Axis) (f : Option DriveFrame) : (s.setSlot a f).aru = s.aru := rfl

@[simp] theorem State.setSlot_scu (s : State) (a : Axis) (f : Option DriveFrame) : (s.setSlot a f).scu = s.scu := rfl

@[simp] theorem State.setSlot_apg (s : State) (a : Axis) (f : Option DriveFrame) : (s.setSlot a f).apg = s.apg := rfl

@[simp] theorem State.setSlot_dsl (s : State) (a : Axis) (f : Option DriveFrame) : (s.setSlot a f).dsl = s.dsl := rfl

@[simp] theorem State.setSlot_sdu (s : State) (a : Axis) (f : Option DriveFrame) : (s.setSlot a f).sdu = s.sdu := rfl

@[simp] theorem State.setSlot_dvc (s : State) (a : Axis) (f : Option DriveFrame) : (s.setSlot a f).dvc = s.dvc := rfl

@[simp] theorem State.setSlot_scs (s : State) (a : Axis) (f : Option DriveFrame) : (s.setSlot a f).scs = s.scs := rfl

@[simp] theorem State.setSlot_pending (s : State) (a : Axis) (f : Option DriveFrame) : (s.setSlot a f).pending = s.pending := rfl

@[simp] theorem State.raise_stc (s : State) (k : NoticeKind) (target : Option Nat) : (s.raise k target).stc = s.stc := rfl

@[simp] theorem State.raise_link (s : State) (k : NoticeKind) (target : Option Nat) : (s.raise k target).link = s.link := rfl

@[simp] theorem State.raise_requests (s : State) (k : NoticeKind) (target : Option Nat) : (s.raise k target).requests = s.requests := rfl

@[simp] theorem State.raise_notices (s : State) (k : NoticeKind) (target : Option Nat) : (s.raise k target).notices = s.notices.raise k target := rfl

@[simp] theorem State.raise_reports (s : State) (k : NoticeKind) (target : Option Nat) : (s.raise k target).reports = s.reports := rfl

@[simp] theorem State.raise_transmit (s : State) (k : NoticeKind) (target : Option Nat) : (s.raise k target).transmit = s.transmit := rfl

@[simp] theorem State.raise_entries (s : State) (k : NoticeKind) (target : Option Nat) : (s.raise k target).entries = s.entries := rfl

@[simp] theorem State.raise_osc (s : State) (k : NoticeKind) (target : Option Nat) : (s.raise k target).osc = s.osc := rfl

@[simp] theorem State.raise_pen (s : State) (k : NoticeKind) (target : Option Nat) : (s.raise k target).pen = s.pen := rfl

@[simp] theorem State.raise_squ (s : State) (k : NoticeKind) (target : Option Nat) : (s.raise k target).squ = s.squ := rfl

@[simp] theorem State.raise_station (s : State) (k : NoticeKind) (target : Option Nat) : (s.raise k target).station = s.station := rfl

@[simp] theorem State.raise_aru (s : State) (k : NoticeKind) (target : Option Nat) : (s.raise k target).aru = s.aru := rfl

@[simp] theorem State.raise_scu (s : State) (k : NoticeKind) (target : Option Nat) : (s.raise k target).scu = s.scu := rfl

@[simp] theorem State.raise_apg (s : State) (k : NoticeKind) (target : Option Nat) : (s.raise k target).apg = s.apg := rfl

@[simp] theorem State.raise_dsl (s : State) (k : NoticeKind) (target : Option Nat) : (s.raise k target).dsl = s.dsl := rfl

@[simp] theorem State.raise_sdu (s : State) (k : NoticeKind) (target : Option Nat) : (s.raise k target).sdu = s.sdu := rfl

@[simp] theorem State.raise_dvc (s : State) (k : NoticeKind) (target : Option Nat) : (s.raise k target).dvc = s.dvc := rfl

@[simp] theorem State.raise_scs (s : State) (k : NoticeKind) (target : Option Nat) : (s.raise k target).scs = s.scs := rfl

@[simp] theorem State.raise_pending (s : State) (k : NoticeKind) (target : Option Nat) : (s.raise k target).pending = s.pending := rfl

@[simp] theorem State.setSending_stc (s : State) (x : Option Sending) : (s.setSending x).stc = s.stc := rfl

@[simp] theorem State.setSending_link (s : State) (x : Option Sending) : (s.setSending x).link = s.link := rfl

@[simp] theorem State.setSending_requests (s : State) (x : Option Sending) : (s.setSending x).requests = s.requests := rfl

@[simp] theorem State.setSending_notices (s : State) (x : Option Sending) : (s.setSending x).notices = s.notices := rfl

@[simp] theorem State.setSending_reports (s : State) (x : Option Sending) : (s.setSending x).reports = s.reports := rfl

@[simp] theorem State.setSending_entries (s : State) (x : Option Sending) : (s.setSending x).entries = s.entries := rfl

@[simp] theorem State.setSending_osc (s : State) (x : Option Sending) : (s.setSending x).osc = s.osc := rfl

@[simp] theorem State.setSending_pen (s : State) (x : Option Sending) : (s.setSending x).pen = s.pen := rfl

@[simp] theorem State.setSending_squ (s : State) (x : Option Sending) : (s.setSending x).squ = s.squ := rfl

@[simp] theorem State.setSending_station (s : State) (x : Option Sending) : (s.setSending x).station = s.station := rfl

@[simp] theorem State.setSending_aru (s : State) (x : Option Sending) : (s.setSending x).aru = s.aru := rfl

@[simp] theorem State.setSending_scu (s : State) (x : Option Sending) : (s.setSending x).scu = s.scu := rfl

@[simp] theorem State.setSending_apg (s : State) (x : Option Sending) : (s.setSending x).apg = s.apg := rfl

@[simp] theorem State.setSending_dsl (s : State) (x : Option Sending) : (s.setSending x).dsl = s.dsl := rfl

@[simp] theorem State.setSending_sdu (s : State) (x : Option Sending) : (s.setSending x).sdu = s.sdu := rfl

@[simp] theorem State.setSending_dvc (s : State) (x : Option Sending) : (s.setSending x).dvc = s.dvc := rfl

@[simp] theorem State.setSending_scs (s : State) (x : Option Sending) : (s.setSending x).scs = s.scs := rfl

@[simp] theorem State.setSending_pending (s : State) (x : Option Sending) : (s.setSending x).pending = s.pending := rfl

@[simp] theorem State.setSending_transmit (s : State) (x : Option Sending) : (s.setSending x).transmit = { s.transmit with controller := x } := rfl

/-- All that an OBS frame's beginning can do: nothing, or the oldest record goes to a transmitter that is free for it (R131). -/
theorem State.beginObs_cases (s : State) :
    s.beginObs = s
      ∨ ∃ r rest, s.reports.queue = r :: rest ∧ s.transmit.controller = none ∧ s.firstSource = some .obs
          ∧ s.beginObs = s.setSending (some (.obs r)) := by
  unfold State.beginObs
  split
  · split
    · rename_i r rest hq hm
      simp only [State.mayBegin, Bool.and_eq_true, Option.isNone_iff_eq_none, decide_eq_true_eq] at hm
      exact .inr ⟨r, rest, hq, hm.1, hm.2, rfl⟩
    · exact .inl rfl
  · exact .inl rfl

@[simp] theorem State.beginObs_stc (s : State) : s.beginObs.stc = s.stc := by
  obtain h | ⟨_, _, _, _, _, h⟩ := s.beginObs_cases <;> simp [h]

@[simp] theorem State.beginObs_link (s : State) : s.beginObs.link = s.link := by
  obtain h | ⟨_, _, _, _, _, h⟩ := s.beginObs_cases <;> simp [h]

@[simp] theorem State.beginObs_requests (s : State) : s.beginObs.requests = s.requests := by
  obtain h | ⟨_, _, _, _, _, h⟩ := s.beginObs_cases <;> simp [h]

@[simp] theorem State.beginObs_notices (s : State) : s.beginObs.notices = s.notices := by
  obtain h | ⟨_, _, _, _, _, h⟩ := s.beginObs_cases <;> simp [h]

@[simp] theorem State.beginObs_reports (s : State) : s.beginObs.reports = s.reports := by
  obtain h | ⟨_, _, _, _, _, h⟩ := s.beginObs_cases <;> simp [h]

@[simp] theorem State.beginObs_entries (s : State) : s.beginObs.entries = s.entries := by
  obtain h | ⟨_, _, _, _, _, h⟩ := s.beginObs_cases <;> simp [h]

@[simp] theorem State.beginObs_osc (s : State) : s.beginObs.osc = s.osc := by
  obtain h | ⟨_, _, _, _, _, h⟩ := s.beginObs_cases <;> simp [h]

@[simp] theorem State.beginObs_pen (s : State) : s.beginObs.pen = s.pen := by
  obtain h | ⟨_, _, _, _, _, h⟩ := s.beginObs_cases <;> simp [h]

@[simp] theorem State.beginObs_squ (s : State) : s.beginObs.squ = s.squ := by
  obtain h | ⟨_, _, _, _, _, h⟩ := s.beginObs_cases <;> simp [h]

@[simp] theorem State.beginObs_station (s : State) : s.beginObs.station = s.station := by
  obtain h | ⟨_, _, _, _, _, h⟩ := s.beginObs_cases <;> simp [h]

@[simp] theorem State.beginObs_aru (s : State) : s.beginObs.aru = s.aru := by
  obtain h | ⟨_, _, _, _, _, h⟩ := s.beginObs_cases <;> simp [h]

@[simp] theorem State.beginObs_scu (s : State) : s.beginObs.scu = s.scu := by
  obtain h | ⟨_, _, _, _, _, h⟩ := s.beginObs_cases <;> simp [h]

@[simp] theorem State.beginObs_apg (s : State) : s.beginObs.apg = s.apg := by
  obtain h | ⟨_, _, _, _, _, h⟩ := s.beginObs_cases <;> simp [h]

@[simp] theorem State.beginObs_dsl (s : State) : s.beginObs.dsl = s.dsl := by
  obtain h | ⟨_, _, _, _, _, h⟩ := s.beginObs_cases <;> simp [h]

@[simp] theorem State.beginObs_sdu (s : State) : s.beginObs.sdu = s.sdu := by
  obtain h | ⟨_, _, _, _, _, h⟩ := s.beginObs_cases <;> simp [h]

@[simp] theorem State.beginObs_dvc (s : State) : s.beginObs.dvc = s.dvc := by
  obtain h | ⟨_, _, _, _, _, h⟩ := s.beginObs_cases <;> simp [h]

@[simp] theorem State.beginObs_scs (s : State) : s.beginObs.scs = s.scs := by
  obtain h | ⟨_, _, _, _, _, h⟩ := s.beginObs_cases <;> simp [h]

@[simp] theorem State.beginObs_pending (s : State) : s.beginObs.pending = s.pending := by
  obtain h | ⟨_, _, _, _, _, h⟩ := s.beginObs_cases <;> simp [h]

end Sys2Proof.Machine
end

