-- ==== Sys2Proof/Laws/Base.lean ====
section
/-! SUPPORT. The operations that leave the base of the state as it is: no load, no reply, no receiver is in them. -/

set_option linter.unusedSimpArgs false
set_option linter.unusedTactic false

namespace Sys2Proof.Machine

open Sys2Proof

@[simp] theorem State.base_mk (stc : Stc) (link : Link) (requests : Requests) (notices : Notices) (reports : Reports)
    (transmit : Transmit) (entries : List Entry) (osc : Osc) (pen : Pen) (squ : Squ) (station : Station) (aru : Aru)
    (scu : Scu) (apg : Apg) (dsl : Dsl) (sdu : Sdu) (dvc : Dvc) (scs : Scs) (pending : List Instr) :
    (State.mk stc link requests notices reports transmit entries osc pen squ station aru scu apg dsl sdu dvc scs
        pending).base =
      Base.mk pending station aru scs.soft scs.slots scs.burn requests link := rfl

@[simp] theorem State.base_eta (s : State) :
    Base.mk s.pending s.station s.aru s.scs.soft s.scs.slots s.scs.burn s.requests s.link = s.base := rfl

@[simp] theorem State.setPointing_base (s : State) (p : Option Pointing) :
    (s.setPointing p).base = s.base := by
  simp only [State.setPointing, apply_ite State.base]
  repeat' split
  all_goals simp [apply_ite State.base]

@[simp] theorem State.setShot_base (s : State) (x : Option Shot) :
    (s.setShot x).base = s.base := by
  simp only [State.setShot, apply_ite State.base]
  repeat' split
  all_goals simp [apply_ite State.base]

@[simp] theorem State.setAxis_base (s : State) (a : Axis) (r : AxisRec) :
    (s.setAxis a r).base = s.base := by
  simp only [State.setAxis, apply_ite State.base]
  repeat' split
  all_goals simp [apply_ite State.base]

@[simp] theorem State.setSettle_base (s : State) (t : Option SettleTest) :
    (s.setSettle t).base = s.base := by
  simp only [State.setSettle, apply_ite State.base]
  repeat' split
  all_goals simp [apply_ite State.base]

@[simp] theorem State.setEntry_base (s : State) (n : Nat) (e : Entry) :
    (s.setEntry n e).base = s.base := by
  simp only [State.setEntry, apply_ite State.base]
  repeat' split
  all_goals simp [apply_ite State.base]

@[simp] theorem State.setSqu_base (s : State) (q : Squ) :
    (s.setSqu q).base = s.base := by
  simp only [State.setSqu, apply_ite State.base]
  repeat' split
  all_goals simp [apply_ite State.base]

@[simp] theorem State.setOsc_base (s : State) (o : Osc) :
    (s.setOsc o).base = s.base := by
  simp only [State.setOsc, apply_ite State.base]
  repeat' split
  all_goals simp [apply_ite State.base]

@[simp] theorem State.setDvc_base (s : State) (d : Dvc) :
    (s.setDvc d).base = s.base := by
  simp only [State.setDvc, apply_ite State.base]
  repeat' split
  all_goals simp [apply_ite State.base]

@[simp] theorem State.setJog_base (s : State) (j : Jog) :
    (s.setJog j).base = s.base := by
  simp only [State.setJog, apply_ite State.base]
  repeat' split
  all_goals simp [apply_ite State.base]

@[simp] theorem State.setSource_base (s : State) (a : Axis) (x : Source) :
    (s.setSource a x).base = s.base := by
  simp only [State.setSource, apply_ite State.base]
  repeat' split
  all_goals simp [apply_ite State.base]

@[simp] theorem State.setSlot_base (s : State) (a : Axis) (f : Option DriveFrame) :
    (s.setSlot a f).base = s.base := by
  simp only [State.setSlot, apply_ite State.base]
  repeat' split
  all_goals simp [apply_ite State.base]

@[simp] theorem State.moveTimes_base (s : State) (δ : Int) :
    (s.moveTimes δ).base = s.base := by
  simp only [State.moveTimes, apply_ite State.base]
  repeat' split
  all_goals simp [apply_ite State.base]

theorem State.stcUpdate_base (s : State) (c : Prop) [Decidable c] (x y : Stc) (δ : Int) :
    (if c then { s with stc := x } else State.moveTimes { s with stc := y } δ).base = s.base := by
  split <;> simp

@[simp] theorem State.advanceBy_base (s : State) (d : Nat) :
    (s.advanceBy d).base = s.base := by
  unfold State.advanceBy
  exact s.stcUpdate_base _ _ _ _

@[simp] theorem State.advanceTo_base (s : State) (us : Nat) :
    (s.advanceTo us).base = s.base := by
  simp only [State.advanceTo, apply_ite State.base]
  repeat' split
  all_goals simp [apply_ite State.base]

@[simp] theorem State.raise_base (s : State) (k : NoticeKind) (target : Option Nat) :
    (s.raise k target).base = s.base := by
  simp only [State.raise, apply_ite State.base]
  repeat' split
  all_goals simp [apply_ite State.base]

@[simp] theorem State.beginObs_base (s : State) : s.beginObs.base = s.base := by
  obtain h | ⟨_, _, _, _, _, h⟩ := s.beginObs_cases <;> rw [h]
  rfl

/-- Where an OBS frame may have begun, no record waits at a transmitter free for it. -/
theorem State.beginObs_recordsGo (s : State) : s.beginObs.recordsGo := by
  intro free waits
  cases q : s.reports.queue with
  | nil =>
    simp only [State.beginObs, q, State.firstSource, ne_eq, not_true, if_false] at waits
    repeat' split at waits
    all_goals cases waits
  | cons r rest =>
    by_cases h : s.mayBegin .obs = true
    · simp [State.beginObs, q, h] at free
    · simp only [State.beginObs, q, h, Bool.false_eq_true, if_false] at free waits
      exact h (by simp [State.mayBegin, free, waits])

@[simp] theorem State.raiseEach_base (s : State) (k : NoticeKind) (targets : List Nat) :
    (s.raiseEach k targets).base = s.base := by
  induction targets generalizing s with
  | nil => rfl
  | cons n ns ih => exact (ih (s.raise k (some n))).trans (by simp)

@[simp] theorem State.enterSettle_base (s : State) (p : Pointing) :
    (s.enterSettle p).base = s.base := by
  simp only [State.enterSettle, apply_ite State.base]
  repeat' split
  all_goals simp [apply_ite State.base]

@[simp] theorem State.pointingArrival_base (s : State) (a : Axis) :
    (s.pointingArrival a).base = s.base := by
  simp only [State.pointingArrival, apply_ite State.base]
  repeat' split
  all_goals simp [apply_ite State.base]

@[simp] theorem State.reportArrival_base (s : State) (a : Axis) (req : Requester) :
    (s.reportArrival a req).base = s.base := by
  simp only [State.reportArrival, apply_ite State.base]
  repeat' split
  all_goals simp [apply_ite State.base]

@[simp] theorem State.retarget_base (s : State) (a : Axis) (sp : Int) (req : Requester) :
    (s.retarget a sp req).base = s.base := by
  simp only [State.retarget, apply_ite State.base]
  repeat' split
  all_goals simp [apply_ite State.base]

@[simp] theorem State.stopAxis_base (s : State) (a : Axis) (req : Requester) :
    (s.stopAxis a req).base = s.base := by
  simp only [State.stopAxis, apply_ite State.base]
  repeat' split
  all_goals simp [apply_ite State.base]

@[simp] theorem State.stopIfMoving_base (s : State) (a : Axis) (req : Requester) :
    (s.stopIfMoving a req).base = s.base := by
  simp only [State.stopIfMoving, apply_ite State.base]
  repeat' split
  all_goals simp [apply_ite State.base]

@[simp] theorem State.holdAxis_base (s : State) (a : Axis) :
    (s.holdAxis a).base = s.base := by
  simp only [State.holdAxis, apply_ite State.base]
  repeat' split
  all_goals simp [apply_ite State.base]

@[simp] theorem State.releaseAxis_base (s : State) (a : Axis) (want : Source) :
    (s.releaseAxis a want).base = s.base := by
  simp only [State.releaseAxis, apply_ite State.base]
  repeat' split
  all_goals simp [apply_ite State.base]

@[simp] theorem State.chooseAxis_base (s : State) (atExpiry : Bool) (a : Axis) :
    (s.chooseAxis atExpiry a).base = s.base := by
  simp only [State.chooseAxis, apply_ite State.base]
  repeat' split
  all_goals simp [apply_ite State.base]

@[simp] theorem State.choose_base (s : State) :
    (s.choose).base = s.base := by
  simp only [State.choose, apply_ite State.base]
  repeat' split
  all_goals simp [apply_ite State.base]

@[simp] theorem State.chooseAtExpiry_base (s : State) :
    (s.chooseAtExpiry).base = s.base := by
  simp only [State.chooseAtExpiry, apply_ite State.base]
  repeat' split
  all_goals simp [apply_ite State.base]

@[simp] theorem State.jogTest_base (s : State) :
    (s.jogTest).base = s.base := by
  simp only [State.jogTest, apply_ite State.base]
  repeat' split
  all_goals simp [apply_ite State.base]

@[simp] theorem State.enqueue_base (s : State) (nums : List Nat) :
    (s.enqueue nums).base = s.base := by
  simp only [State.enqueue, apply_ite State.base]
  repeat' split
  all_goals simp [apply_ite State.base]

@[simp] theorem State.unqueue_base (s : State) (n : Nat) :
    (s.unqueue n).base = s.base := by
  simp only [State.unqueue, apply_ite State.base]
  repeat' split
  all_goals simp [apply_ite State.base]

@[simp] theorem State.tickTable_base (s : State) :
    (s.tickTable).base = s.base := by
  simp only [State.tickTable, apply_ite State.base]
  repeat' split
  all_goals simp [apply_ite State.base]

@[simp] theorem State.raiseMaybe_base (s : State) (k : Option NoticeKind) (target : Option Nat) :
    (s.raiseMaybe k target).base = s.base := by
  simp only [State.raiseMaybe, apply_ite State.base]
  repeat' split
  all_goals simp [apply_ite State.base]

@[simp] theorem State.deliverOutcome_base (s : State) (n : Nat) (kind : PointingKind) (o : Verdict) :
    (s.deliverOutcome n kind o).base = s.base := by
  simp only [State.deliverOutcome, apply_ite State.base]
  repeat' split
  all_goals simp [apply_ite State.base]

@[simp] theorem State.lowerMissLimit_base (s : State) (limit : Nat) :
    (s.lowerMissLimit limit).base = s.base := by
  simp only [State.lowerMissLimit, apply_ite State.base]
  repeat' split
  all_goals simp [apply_ite State.base]

@[simp] theorem State.pointAxes_base (s : State) (p : Pointing) :
    (s.pointAxes p).base = s.base := by
  simp only [State.pointAxes, apply_ite State.base]
  repeat' split
  all_goals simp [apply_ite State.base]

@[simp] theorem State.launch_base (s : State) (p : Pointing) :
    (s.launch p).base = s.base := by
  simp only [State.launch, apply_ite State.base]
  repeat' split
  all_goals simp [apply_ite State.base]

@[simp] theorem State.beginPointing_base (s : State) (n : Nat) (kind : PointingKind) :
    (s.beginPointing n kind).base = s.base := by
  simp only [State.beginPointing, apply_ite State.base]
  repeat' split
  all_goals simp [apply_ite State.base]

@[simp] theorem State.startLeg_base (s : State) (p : Pointing) (n : Nat) :
    (s.startLeg p n).base = s.base := by
  simp only [State.startLeg, apply_ite State.base]
  repeat' split
  all_goals simp [apply_ite State.base]

@[simp] theorem State.dispatchHead_base (s : State) :
    (s.dispatchHead).base = s.base := by
  simp only [State.dispatchHead, apply_ite State.base]
  repeat' split
  all_goals simp [apply_ite State.base]

@[simp] theorem State.examineDispatch_base (s : State) :
    (s.examineDispatch).base = s.base := by
  simp only [State.examineDispatch, apply_ite State.base]
  repeat' split
  all_goals simp [apply_ite State.base]

@[simp] theorem State.releaseSlot_base (s : State) :
    (s.releaseSlot).base = s.base := by
  simp only [State.releaseSlot, apply_ite State.base]
  repeat' split
  all_goals simp [apply_ite State.base]

@[simp] theorem State.withdrawShot_base (s : State) :
    (s.withdrawShot).base = s.base := by
  simp only [State.withdrawShot, apply_ite State.base]
  repeat' split
  all_goals simp [apply_ite State.base]

@[simp] theorem State.stopAfterPointing_base (s : State) :
    (s.stopAfterPointing).base = s.base := by
  simp only [State.stopAfterPointing, apply_ite State.base]
  repeat' split
  all_goals simp [apply_ite State.base]

@[simp] theorem State.endPointing_base (s : State) (o : Verdict) :
    (s.endPointing o).base = s.base := by
  simp only [State.endPointing, apply_ite State.base]
  repeat' split
  all_goals simp [apply_ite State.base]

@[simp] theorem State.failPointing_base (s : State) (o : Verdict) :
    (s.failPointing o).base = s.base := by
  simp only [State.failPointing, apply_ite State.base]
  repeat' split
  all_goals simp [apply_ite State.base]

@[simp] theorem State.abandonTarget_base (s : State) (x : Option (Nat × PointingKind)) :
    (s.abandonTarget x).base = s.base := by
  rcases x with _ | ⟨n, k⟩ <;> simp [State.abandonTarget]

@[simp] theorem State.discardContexts_base (s : State) :
    (s.discardContexts).base = s.base := by
  simp only [State.discardContexts, apply_ite State.base]
  repeat' split
  all_goals simp [apply_ite State.base]

@[simp] theorem State.enterRun_base (s : State) :
    (s.enterRun).base = s.base := by
  simp only [State.enterRun, apply_ite State.base]
  repeat' split
  all_goals simp [apply_ite State.base]

@[simp] theorem State.restartPointing_base (s : State) (c : Context) :
    (s.restartPointing c).base = s.base := by
  simp only [State.restartPointing, apply_ite State.base]
  repeat' split
  all_goals simp [apply_ite State.base]

@[simp] theorem State.resumeHeld_base (s : State) :
    (s.resumeHeld).base = s.base := by
  simp only [State.resumeHeld, apply_ite State.base]
  repeat' split
  all_goals simp [apply_ite State.base]

@[simp] theorem State.autoResumeTest_base (s : State) :
    (s.autoResumeTest).base = s.base := by
  simp only [State.autoResumeTest, apply_ite State.base]
  repeat' split
  all_goals simp [apply_ite State.base]

@[simp] theorem State.warmValues_base (s : State) (raised : Notices) :
    (s.warmValues raised).base = s.base := by
  simp only [State.warmValues, apply_ite State.base]
  repeat' split
  all_goals simp [apply_ite State.base]

@[simp] theorem State.enterHeld_base (s : State) (target : Option Nat) (part : Option PointingPart) (cause : Cause) :
    (s.enterHeld target part cause).base = s.base := by
  simp only [State.enterHeld, apply_ite State.base]
  repeat' split
  all_goals simp [apply_ite State.base]

@[simp] theorem State.stopTest_base (s : State) (raised : Notices) :
    (s.stopTest raised).base = s.base := by
  simp only [State.stopTest, apply_ite State.base]
  repeat' split
  all_goals simp [apply_ite State.base]

@[simp] theorem State.wrapUpWith_base (s : State) (raised : Notices) :
    (s.wrapUpWith raised).base = s.base := by
  simp only [State.wrapUpWith, apply_ite State.base]
  repeat' split
  all_goals simp [apply_ite State.base]

@[simp] theorem State.recordMayGo_base (s : State) (b : Bool) : (s.recordMayGo b).base = s.base := by
  unfold State.recordMayGo
  split <;> simp

@[simp] theorem State.wrapUp_base (s : State) :
    (s.wrapUp).base = s.base := by simp [State.wrapUp]

@[simp] theorem State.freeze_base (s : State) :
    (s.freeze).base = s.base := by
  simp only [State.freeze, apply_ite State.base]
  repeat' split
  all_goals simp [apply_ite State.base]

@[simp] theorem State.enterStopping_base (s : State) (cause : Cause) :
    (s.enterStopping cause).base = s.base := by
  simp only [State.enterStopping, apply_ite State.base]
  repeat' split
  all_goals simp [apply_ite State.base]

@[simp] theorem State.divertLevelLoss_base (s : State) :
    (s.divertLevelLoss).base = s.base := by
  simp only [State.divertLevelLoss, apply_ite State.base]
  repeat' split
  all_goals simp [apply_ite State.base]

@[simp] theorem State.loseLevel_base (s : State) :
    (s.loseLevel).base = s.base := by
  simp only [State.loseLevel, apply_ite State.base]
  repeat' split
  all_goals simp [apply_ite State.base]

@[simp] theorem State.regainLevel_base (s : State) :
    (s.regainLevel).base = s.base := by
  simp only [State.regainLevel, apply_ite State.base]
  repeat' split
  all_goals simp [apply_ite State.base]

@[simp] theorem State.holdBoth_base (s : State) :
    (s.holdBoth).base = s.base := by
  simp only [State.holdBoth, apply_ite State.base]
  repeat' split
  all_goals simp [apply_ite State.base]

@[simp] theorem State.takeHalt_base (s : State) :
    (s.takeHalt).base = s.base := by
  simp only [State.takeHalt, apply_ite State.base]
  repeat' split
  all_goals simp [apply_ite State.base]

@[simp] theorem State.enterLockout_base (s : State) (cause : Cause) :
    (s.enterLockout cause).base = s.base := by
  simp only [State.enterLockout, apply_ite State.base]
  repeat' split
  all_goals simp [apply_ite State.base]

@[simp] theorem State.enterCritical_base (s : State) (cause : Cause) :
    (s.enterCritical cause).base = s.base := by
  simp only [State.enterCritical, apply_ite State.base]
  repeat' split
  all_goals simp [apply_ite State.base]

@[simp] theorem State.firstFault_base (s : State) (cause : Cause) :
    (s.firstFault cause).base = s.base := by
  simp only [State.firstFault, apply_ite State.base]
  repeat' split
  all_goals simp [apply_ite State.base]

@[simp] theorem State.takeFault_base (s : State) (a : Axis) (cause : Cause) (raised : Notices) :
    (s.takeFault a cause raised).base = s.base := by
  simp only [State.takeFault, apply_ite State.base]
  repeat' split
  all_goals simp [apply_ite State.base]

@[simp] theorem State.restartBegins_base (s : State) :
    (s.restartBegins).base = s.base := by
  simp [State.restartBegins]

@[simp] theorem State.takeRestart_base (s : State) (raised : Notices) :
    (s.takeRestart raised).base = s.base := by
  simp only [State.takeRestart, apply_ite State.base]
  repeat' split
  all_goals simp [apply_ite State.base]

@[simp] theorem State.restartExpires_base (s : State) (raised : Notices) :
    (s.restartExpires raised).base = s.base := by
  simp only [State.restartExpires, apply_ite State.base]
  repeat' split
  all_goals simp [apply_ite State.base]

@[simp] theorem State.fire_base (s : State) (p : Pointing) :
    (s.fire p).base = s.base := by
  simp only [State.fire, apply_ite State.base]
  repeat' split
  all_goals simp [apply_ite State.base]

@[simp] theorem State.tryShot_base (s : State) :
    (s.tryShot).base = s.base := by
  simp only [State.tryShot, apply_ite State.base]
  repeat' split
  all_goals simp [apply_ite State.base]

@[simp] theorem State.shotFails_base (s : State) (o : Verdict) :
    (s.shotFails o).base = s.base := by
  simp only [State.shotFails, apply_ite State.base]
  repeat' split
  all_goals simp [apply_ite State.base]

@[simp] theorem State.retryDeclined_base (s : State) :
    (s.retryDeclined).base = s.base := by
  simp only [State.retryDeclined, apply_ite State.base]
  repeat' split
  all_goals simp [apply_ite State.base]

@[simp] theorem State.retryOr_base (s : State) (o : Verdict) :
    (s.retryOr o).base = s.base := by
  simp only [State.retryOr, apply_ite State.base]
  repeat' split
  all_goals simp [apply_ite State.base]

@[simp] theorem State.suspectTest_base (s : State) (target : Nat) (x : Deviations) :
    (s.suspectTest target x).base = s.base := by
  simp only [State.suspectTest, apply_ite State.base]
  repeat' split
  all_goals simp [apply_ite State.base]

@[simp] theorem State.recordMade_base (s : State) (p : Pointing) :
    (s.recordMade p).base = s.base := by
  simp only [State.recordMade, apply_ite State.base]
  repeat' split
  all_goals simp [apply_ite State.base]

@[simp] theorem State.makeRecord_base (s : State) (p : Pointing) (c : Capture) (hd : Heading) :
    (s.makeRecord p c hd).base = s.base := by
  simp only [State.makeRecord, apply_ite State.base]
  repeat' split
  all_goals simp [apply_ite State.base]

@[simp] theorem State.completeCapture_base (s : State) (c : Capture) (rH rV : Int) :
    (s.completeCapture c rH rV).base = s.base := by
  simp only [State.completeCapture, apply_ite State.base]
  repeat' split
  all_goals simp [apply_ite State.base]

@[simp] theorem State.settleCapture_base (s : State) (id : Nat) (c : Capture) :
    (s.settleCapture id c).base = s.base := by
  simp only [State.settleCapture, apply_ite State.base]
  repeat' split
  all_goals simp [apply_ite State.base]

@[simp] theorem State.capture_base (s : State) (id : Nat) (time distance : Int) (strength : Nat) :
    (s.capture id time distance strength).base = s.base := by
  simp only [State.capture, apply_ite State.base]
  repeat' split
  all_goals simp [apply_ite State.base]

@[simp] theorem State.captureSample_base (s : State) (a : Axis) :
    (s.captureSample a).base = s.base := by
  simp only [State.captureSample, apply_ite State.base]
  repeat' split
  all_goals simp [apply_ite State.base]

@[simp] theorem State.answer_base (s : State) (id : Nat) (time distance : Int) (strength : Nat) (y : RangeStatus) :
    (s.answer id time distance strength y).base = s.base := by
  simp only [State.answer, apply_ite State.base]
  repeat' split
  all_goals simp [apply_ite State.base]

@[simp] theorem State.rangeArrives_base (s : State) (id age : Nat) (distance : Int) (strength : Nat) (status : RangeStatus) :
    (s.rangeArrives id age distance strength status).base = s.base := by
  simp only [State.rangeArrives, apply_ite State.base]
  repeat' split
  all_goals simp [apply_ite State.base]

@[simp] theorem State.settled_base (s : State) (time : Int) :
    (s.settled time).base = s.base := by
  simp only [State.settled, apply_ite State.base]
  repeat' split
  all_goals simp [apply_ite State.base]

@[simp] theorem State.settleSample_base (s : State) (a : Axis) (x : Sample) :
    (s.settleSample a x).base = s.base := by
  simp only [State.settleSample, apply_ite State.base]
  repeat' split
  all_goals simp [apply_ite State.base]

@[simp] theorem State.feedSample_base (s : State) (x : Sample) :
    (s.feedSample x).base = s.base := by
  simp only [State.feedSample, apply_ite State.base]
  repeat' split
  all_goals simp [apply_ite State.base]

@[simp] theorem State.acceptSample_base (s : State) (a : Axis) (x : Sample) :
    (s.acceptSample a x).base = s.base := by
  simp only [State.acceptSample, apply_ite State.base]
  repeat' split
  all_goals simp [apply_ite State.base]

@[simp] theorem State.legEmpty_base (s : State) (p : Pointing) (leg : Nat) :
    (s.legEmpty p leg).base = s.base := by
  simp only [State.legEmpty, apply_ite State.base]
  repeat' split
  all_goals simp [apply_ite State.base]

@[simp] theorem State.acquireEmpty_base (s : State) (p : Pointing) (count : Nat) :
    (s.acquireEmpty p count).base = s.base := by
  simp only [State.acquireEmpty, apply_ite State.base]
  repeat' split
  all_goals simp [apply_ite State.base]

@[simp] theorem State.lockAt_base (s : State) (p : Pointing) (count : Nat) (o : Offset) :
    (s.lockAt p count o).base = s.base := by
  simp only [State.lockAt, apply_ite State.base]
  repeat' split
  all_goals simp [apply_ite State.base]

@[simp] theorem State.fineRetarget_base (s : State) (p : Pointing) (o : Offset) :
    (s.fineRetarget p o).base = s.base := by
  simp only [State.fineRetarget, apply_ite State.base]
  repeat' split
  all_goals simp [apply_ite State.base]

theorem State.countAmbiguous_base (s : State) (rest : State → State) (h : ∀ t : State, (rest t).base = t.base) :
    (s.countAmbiguous rest).base = s.base := by
  unfold State.countAmbiguous
  dsimp only
  split <;> simp [h]

theorem State.countLoss_base (s : State) (lost : Verdict) (rest : State → State)
    (h : ∀ t : State, (rest t).base = t.base) : (s.countLoss lost rest).base = s.base := by
  unfold State.countLoss
  dsimp only
  split <;> simp [h]

@[simp] theorem State.frameAcquire_base (s : State) (p : Pointing) (r : SpotResult) :
    (s.frameAcquire p r).base = s.base := by
  rcases r with o | _ | _
  · simp [State.frameAcquire]
  · simp [State.frameAcquire]
  · exact s.countAmbiguous_base _ fun _ => rfl

@[simp] theorem State.frameLook_base (s : State) (p : Pointing) (r : SpotResult) :
    (s.frameLook p r).base = s.base := by
  rcases r with o | _ | _
  · simp [State.frameLook]
  · simp [State.frameLook]
  · exact s.countAmbiguous_base _ fun _ => rfl

@[simp] theorem State.frameLocking_base (s : State) (p : Pointing) (r : SpotResult) :
    (s.frameLocking p r).base = s.base := by
  rcases r with o | _ | _
  · simp [State.frameLocking]
  · cases h : p.source <;> simp [State.frameLocking, h]
  · exact s.countAmbiguous_base _ fun t => t.setSqu_base _

@[simp] theorem State.frameCentre_base (s : State) (p : Pointing) (r : SpotResult) :
    (s.frameCentre p r).base = s.base := by
  have limit : ∀ t : State, (if s.squ.centre + 1 = t.station.n.centreLimit then t.failPointing .unsettled else t).base
      = t.base := fun t => by split <;> simp
  rcases r with o | _ | _
  · simp only [State.frameCentre, apply_ite State.base]
    simp
  · exact (State.countLoss_base _ _ _ limit).trans (State.setSqu_base _ _)
  · exact (State.countAmbiguous_base _ _ fun t => t.countLoss_base _ _ limit).trans (State.setSqu_base _ _)

@[simp] theorem State.frameMeasure_base (s : State) (p : Pointing) (r : SpotResult) :
    (s.frameMeasure p r).base = s.base := by
  rcases r with o | _ | _
  · simp [State.frameMeasure]
  · exact s.countLoss_base _ _ fun _ => rfl
  · exact s.countAmbiguous_base _ fun t => t.countLoss_base _ _ fun _ => rfl

@[simp] theorem State.frameFollow_base (s : State) (p : Pointing) (r : SpotResult) :
    (s.frameFollow p r).base = s.base := by
  rcases r with o | _ | _
  · simp [State.frameFollow, apply_ite State.base]
  · exact s.countLoss_base _ _ fun _ => rfl
  · exact s.countAmbiguous_base _ fun t => t.countLoss_base _ _ fun _ => rfl

@[simp] theorem State.frameTaken_base (s : State) (p : Pointing) (r : SpotResult) :
    (s.frameTaken p r).base = s.base := by
  simp only [State.frameTaken, apply_ite State.base]
  repeat' split
  all_goals simp [apply_ite State.base]

@[simp] theorem State.spotArrives_base (s : State) (time : Int) (spots : List Spot) :
    (s.spotArrives time spots).base = s.base := by
  simp only [State.spotArrives, apply_ite State.base]
  repeat' split
  all_goals simp [apply_ite State.base]

@[simp] theorem State.noticeFraction_base (before after : State) :
    (State.noticeFraction before after).base = after.base := by
  unfold State.noticeFraction
  split <;> simp

@[simp] theorem State.resumeCritical_base (s : State) (c : CriticalRecord) :
    (s.resumeCritical c).base = s.base := by
  simp only [State.resumeCritical, apply_ite State.base]
  repeat' split
  all_goals simp [apply_ite State.base]

@[simp] theorem State.jogAxis_base (s : State) (a : Axis) (j : Int) :
    (s.jogAxis a j).base = s.base := by
  simp only [State.jogAxis, apply_ite State.base]
  repeat' split
  all_goals simp [apply_ite State.base]

@[simp] theorem State.stopJog_base (s : State) (speed : PerAxis Int) :
    (s.stopJog speed).base = s.base := by
  simp only [State.stopJog, apply_ite State.base]
  repeat' split
  all_goals simp [apply_ite State.base]

@[simp] theorem State.offer_base (s : State) (source : DerateSource) (x : Int) :
    (s.offer source x).base = s.base := by
  simp only [State.offer, apply_ite State.base]
  repeat' split
  all_goals simp [apply_ite State.base]

@[simp] theorem State.setSilence_base (s : State) (a : Axis) (n : Nat) :
    (s.setSilence a n).base = s.base := by
  simp only [State.setSilence, apply_ite State.base]
  repeat' split
  all_goals simp [apply_ite State.base]

@[simp] theorem State.angleArrives_base (s : State) (a : Axis) (raw : Int) (age : Nat) :
    (s.angleArrives a raw age).base = s.base := by
  simp only [State.angleArrives, apply_ite State.base]
  repeat' split
  all_goals simp [apply_ite State.base]

@[simp] theorem State.setReport_base (s : State) (a : Axis) (r : DriveReport) :
    (s.setReport a r).base = s.base := by
  simp only [State.setReport, apply_ite State.base]
  repeat' split
  all_goals simp [apply_ite State.base]

@[simp] theorem State.reportStatus_base (s : State) (a : Axis) (y : DriveStatus) :
    (s.reportStatus a y).base = s.base := by
  simp only [State.reportStatus, apply_ite State.base]
  repeat' split
  all_goals simp [apply_ite State.base]

@[simp] theorem State.driveTempArrives_base (s : State) (a : Axis) (temp : Int) :
    (s.driveTempArrives a temp).base = s.base := by
  simp only [State.driveTempArrives, apply_ite State.base]
  repeat' split
  all_goals simp [apply_ite State.base]

@[simp] theorem State.statusArrives_base (s : State) (a : Axis) (status : DriveStatus) (temp : Int) :
    (s.statusArrives a status temp).base = s.base := by
  simp only [State.statusArrives, apply_ite State.base]
  repeat' split
  all_goals simp [apply_ite State.base]

@[simp] theorem State.levelSample_base (s : State) (beyond : Bool) :
    (s.levelSample beyond).base = s.base := by
  simp only [State.levelSample, apply_ite State.base]
  repeat' split
  all_goals simp [apply_ite State.base]

@[simp] theorem State.tiltSources_base (s : State) (temp : Int) :
    (s.tiltSources temp).base = s.base := by
  simp only [State.tiltSources, apply_ite State.base]
  repeat' split
  all_goals simp [apply_ite State.base]

@[simp] theorem State.haltLineRises_base (s : State) :
    (s.haltLineRises).base = s.base := by
  simp only [State.haltLineRises, apply_ite State.base]
  repeat' split
  all_goals simp [apply_ite State.base]

@[simp] theorem State.endPeriod_base (s : State) :
    (s.endPeriod).base = s.base := by
  simp only [State.endPeriod, apply_ite State.base]
  repeat' split
  all_goals simp [apply_ite State.base]

@[simp] theorem State.rangeTick_base (s : State) :
    (s.rangeTick).base = s.base := by
  simp only [State.rangeTick, apply_ite State.base]
  repeat' split
  all_goals simp [apply_ite State.base]

@[simp] theorem State.dwellRunsOut_base (s : State) :
    (s.dwellRunsOut).base = s.base := by
  simp only [State.dwellRunsOut, apply_ite State.base]
  repeat' split
  all_goals simp [apply_ite State.base]

@[simp] theorem State.trackRunsOut_base (s : State) :
    (s.trackRunsOut).base = s.base := by
  simp only [State.trackRunsOut, apply_ite State.base]
  repeat' split
  all_goals simp [apply_ite State.base]

@[simp] theorem State.followTick_base (s : State) (p : Pointing) :
    (s.followTick p).base = s.base := by
  simp only [State.followTick, apply_ite State.base]
  repeat' split
  all_goals simp [apply_ite State.base]

@[simp] theorem State.pointingTick_base (s : State) :
    (s.pointingTick).base = s.base := by
  simp only [State.pointingTick, apply_ite State.base]
  repeat' split
  all_goals simp [apply_ite State.base]

@[simp] theorem State.stepAxis_base (s : State) (a : Axis) :
    (s.stepAxis a).base = s.base := by
  simp only [State.stepAxis, apply_ite State.base]
  repeat' split
  all_goals simp [apply_ite State.base]

@[simp] theorem State.extendJog_base (s : State) (j : Int) :
    (s.extendJog j).base = s.base := by
  simp only [State.extendJog, apply_ite State.base]
  repeat' split
  all_goals simp [apply_ite State.base]

@[simp] theorem State.jogTick_base (s : State) :
    (s.jogTick).base = s.base := by
  simp only [State.jogTick, apply_ite State.base]
  repeat' split
  all_goals simp [apply_ite State.base]

@[simp] theorem State.restartTick_base (s : State) (raised : Notices) :
    (s.restartTick raised).base = s.base := by
  simp only [State.restartTick, apply_ite State.base]
  repeat' split
  all_goals simp [apply_ite State.base]

@[simp] theorem State.formDrives_base (s : State) :
    (s.formDrives).base = s.base := by
  simp only [State.formDrives, apply_ite State.base]
  repeat' split
  all_goals simp [apply_ite State.base]

@[simp] theorem State.encoderSilent_base (s : State) (a : Axis) (raised : Notices) :
    (s.encoderSilent a raised).base = s.base := by
  simp only [State.encoderSilent, apply_ite State.base]
  repeat' split
  all_goals simp [apply_ite State.base]

@[simp] theorem State.watchEncoder_base (s : State) (a : Axis) (held : Bool) (raised : Notices) :
    (s.watchEncoder a held raised).base = s.base := by
  simp only [State.watchEncoder, apply_ite State.base]
  repeat' split
  all_goals simp [apply_ite State.base]

@[simp] theorem State.countdownExpires_base (s : State) (n : Nat) :
    (s.countdownExpires n).base = s.base := by
  simp only [State.countdownExpires, apply_ite State.base]
  repeat' split
  all_goals simp [apply_ite State.base]

@[simp] theorem State.retryExpires_base (s : State) (n : Nat) :
    (s.retryExpires n).base = s.base := by
  simp only [State.retryExpires, apply_ite State.base]
  repeat' split
  all_goals simp [apply_ite State.base]

@[simp] theorem State.settleTimesOut_base (s : State) :
    (s.settleTimesOut).base = s.base := by
  simp only [State.settleTimesOut, apply_ite State.base]
  repeat' split
  all_goals simp [apply_ite State.base]

@[simp] theorem State.detectorSilent_base (s : State) :
    (s.detectorSilent).base = s.base := by
  simp only [State.detectorSilent, apply_ite State.base]
  repeat' split
  all_goals simp [apply_ite State.base]

@[simp] theorem State.rangeTimesOut_base (s : State) :
    (s.rangeTimesOut).base = s.base := by
  simp only [State.rangeTimesOut, apply_ite State.base]
  repeat' split
  all_goals simp [apply_ite State.base]

@[simp] theorem State.trackExpires_base (s : State) :
    (s.trackExpires).base = s.base := by
  simp only [State.trackExpires, apply_ite State.base]
  repeat' split
  all_goals simp [apply_ite State.base]

@[simp] theorem State.dwellExpires_base (s : State) :
    (s.dwellExpires).base = s.base := by
  simp only [State.dwellExpires, apply_ite State.base]
  repeat' split
  all_goals simp [apply_ite State.base]

@[simp] theorem State.leaseExpires_base (s : State) :
    (s.leaseExpires).base = s.base := by
  simp only [State.leaseExpires, apply_ite State.base]
  repeat' split
  all_goals simp [apply_ite State.base]

@[simp] theorem State.sourceGoesStale_base (s : State) (y : DerateSource) :
    (s.sourceGoesStale y).base = s.base := by
  simp only [State.sourceGoesStale, apply_ite State.base]
  repeat' split
  all_goals simp [apply_ite State.base]

@[simp] theorem State.encoderFallsSilent_base (s : State) (a : Axis) :
    (s.encoderFallsSilent a).base = s.base := by
  simp only [State.encoderFallsSilent, apply_ite State.base]
  repeat' split
  all_goals simp [apply_ite State.base]

@[simp] theorem State.restartTimesOut_base (s : State) :
    (s.restartTimesOut).base = s.base := by
  simp only [State.restartTimesOut, apply_ite State.base]
  repeat' split
  all_goals simp [apply_ite State.base]

@[simp] theorem State.axisArrives_base (s : State) (a : Axis) :
    (s.axisArrives a).base = s.base := by
  simp only [State.axisArrives, apply_ite State.base]
  repeat' split
  all_goals simp [apply_ite State.base]

@[simp] theorem State.settleCompletes_base (s : State) (time : Int) :
    (s.settleCompletes time).base = s.base := by
  simp only [State.settleCompletes, apply_ite State.base]
  repeat' split
  all_goals simp [apply_ite State.base]

@[simp] theorem State.stopCompletes_base (s : State) :
    (s.stopCompletes).base = s.base := by
  simp only [State.stopCompletes, apply_ite State.base]
  repeat' split
  all_goals simp [apply_ite State.base]

@[simp] theorem State.captureCompletes_base (s : State) (rawH rawV : Int) :
    (s.captureCompletes rawH rawV).base = s.base := by
  simp only [State.captureCompletes, apply_ite State.base]
  repeat' split
  all_goals simp [apply_ite State.base]

@[simp] theorem State.resumesItself_base (s : State) :
    (s.resumesItself).base = s.base := by
  simp only [State.resumesItself, apply_ite State.base]
  repeat' split
  all_goals simp [apply_ite State.base]

@[simp] theorem State.levelIsLost_base (s : State) :
    (s.levelIsLost).base = s.base := by
  simp only [State.levelIsLost, apply_ite State.base]
  repeat' split
  all_goals simp [apply_ite State.base]

@[simp] theorem State.levelIsRegained_base (s : State) :
    (s.levelIsRegained).base = s.base := by
  simp only [State.levelIsRegained, apply_ite State.base]
  repeat' split
  all_goals simp [apply_ite State.base]

@[simp] theorem State.siteTimeWraps_base (s : State) :
    (s.siteTimeWraps).base = s.base := by
  simp only [State.siteTimeWraps, apply_ite State.base]
  repeat' split
  all_goals simp [apply_ite State.base]

end Sys2Proof.Machine
end

