-- ==== Sys2Proof/Laws/Requests.lean ====
section
/-! SUPPORT. What the arrival of a controller-port request comes to (R172, R174): with no frame waiting and a place in the
reply queue it is taken at once; with the reply queue full it waits; with the buffer full it is lost. -/

namespace Sys2Proof.Machine

open Sys2Proof

/-! ### What the passing of time leaves alone -/

theorem State.stcUpdate_osc (s : State) (c : Prop) [Decidable c] (x y : Stc) (δ : Int) :
    (if c then { s with stc := x } else State.moveTimes { s with stc := y } δ).osc = s.osc := by
  split <;> rfl

theorem State.stcUpdate_dvc (s : State) (c : Prop) [Decidable c] (x y : Stc) (δ : Int) :
    (if c then { s with stc := x } else State.moveTimes { s with stc := y } δ).dvc = s.dvc := by
  split <;> rfl

theorem State.stcUpdate_entries (s : State) (c : Prop) [Decidable c] (x y : Stc) (δ : Int) :
    (if c then { s with stc := x } else State.moveTimes { s with stc := y } δ).entries = s.entries := by
  split <;> rfl

theorem State.stcUpdate_scs (s : State) (c : Prop) [Decidable c] (x y : Stc) (δ : Int) :
    (if c then { s with stc := x } else State.moveTimes { s with stc := y } δ).scs = s.scs := by
  split <;> rfl

theorem State.stcUpdate_dsl (s : State) (c : Prop) [Decidable c] (x y : Stc) (δ : Int) :
    (if c then { s with stc := x } else State.moveTimes { s with stc := y } δ).dsl = s.dsl := by
  split <;> rfl

theorem State.stcUpdate_apg (s : State) (c : Prop) [Decidable c] (x y : Stc) (δ : Int) :
    (if c then { s with stc := x } else State.moveTimes { s with stc := y } δ).apg = s.apg := by
  split <;> rfl

theorem State.stcUpdate_sdu (s : State) (c : Prop) [Decidable c] (x y : Stc) (δ : Int) :
    (if c then { s with stc := x } else State.moveTimes { s with stc := y } δ).sdu = s.sdu := by
  split <;> rfl

theorem State.stcUpdate_reports (s : State) (c : Prop) [Decidable c] (x y : Stc) (δ : Int) :
    (if c then { s with stc := x } else State.moveTimes { s with stc := y } δ).reports = s.reports := by
  split <;> rfl

theorem State.stcUpdate_notices (s : State) (c : Prop) [Decidable c] (x y : Stc) (δ : Int) :
    (if c then { s with stc := x } else State.moveTimes { s with stc := y } δ).notices = s.notices := by
  split <;> rfl

theorem State.stcUpdate_transmit (s : State) (c : Prop) [Decidable c] (x y : Stc) (δ : Int) :
    (if c then { s with stc := x } else State.moveTimes { s with stc := y } δ).transmit = s.transmit := by
  split <;> rfl

theorem State.stcUpdate_busy (s : State) (c : Prop) [Decidable c] (x y : Stc) (δ : Int) :
    (if c then { s with stc := x } else State.moveTimes { s with stc := y } δ).busy = s.busy := by
  split <;> simp [State.busy, State.moveTimes]

@[simp] theorem State.advanceBy_osc (s : State) (d : Nat) : (s.advanceBy d).osc = s.osc := by
  unfold State.advanceBy
  exact s.stcUpdate_osc _ _ _ _

@[simp] theorem State.advanceTo_osc (s : State) (us : Nat) : (s.advanceTo us).osc = s.osc := by
  unfold State.advanceTo
  split <;> simp

@[simp] theorem State.frameAt_osc (s : State) (us : Nat) : (s.frameAt us).osc = s.osc := by
  simp [State.frameAt, State.huntController]

@[simp] theorem State.advanceBy_dvc (s : State) (d : Nat) : (s.advanceBy d).dvc = s.dvc := by
  unfold State.advanceBy
  exact s.stcUpdate_dvc _ _ _ _

@[simp] theorem State.advanceTo_dvc (s : State) (us : Nat) : (s.advanceTo us).dvc = s.dvc := by
  unfold State.advanceTo
  split <;> simp

@[simp] theorem State.frameAt_dvc (s : State) (us : Nat) : (s.frameAt us).dvc = s.dvc := by
  simp [State.frameAt, State.huntController]

@[simp] theorem State.advanceBy_entries (s : State) (d : Nat) : (s.advanceBy d).entries = s.entries := by
  unfold State.advanceBy
  exact s.stcUpdate_entries _ _ _ _

@[simp] theorem State.advanceTo_entries (s : State) (us : Nat) : (s.advanceTo us).entries = s.entries := by
  unfold State.advanceTo
  split <;> simp

@[simp] theorem State.frameAt_entries (s : State) (us : Nat) : (s.frameAt us).entries = s.entries := by
  simp [State.frameAt, State.huntController]

@[simp] theorem State.advanceBy_scs (s : State) (d : Nat) : (s.advanceBy d).scs = s.scs := by
  unfold State.advanceBy
  exact s.stcUpdate_scs _ _ _ _

@[simp] theorem State.advanceTo_scs (s : State) (us : Nat) : (s.advanceTo us).scs = s.scs := by
  unfold State.advanceTo
  split <;> simp

@[simp] theorem State.frameAt_scs (s : State) (us : Nat) : (s.frameAt us).scs = s.scs := by
  simp [State.frameAt, State.huntController]

@[simp] theorem State.advanceBy_dsl (s : State) (d : Nat) : (s.advanceBy d).dsl = s.dsl := by
  unfold State.advanceBy
  exact s.stcUpdate_dsl _ _ _ _

@[simp] theorem State.advanceTo_dsl (s : State) (us : Nat) : (s.advanceTo us).dsl = s.dsl := by
  unfold State.advanceTo
  split <;> simp

@[simp] theorem State.frameAt_dsl (s : State) (us : Nat) : (s.frameAt us).dsl = s.dsl := by
  simp [State.frameAt, State.huntController]

@[simp] theorem State.advanceBy_apg (s : State) (d : Nat) : (s.advanceBy d).apg = s.apg := by
  unfold State.advanceBy
  exact s.stcUpdate_apg _ _ _ _

@[simp] theorem State.advanceTo_apg (s : State) (us : Nat) : (s.advanceTo us).apg = s.apg := by
  unfold State.advanceTo
  split <;> simp

@[simp] theorem State.frameAt_apg (s : State) (us : Nat) : (s.frameAt us).apg = s.apg := by
  simp [State.frameAt, State.huntController]

@[simp] theorem State.advanceBy_sdu (s : State) (d : Nat) : (s.advanceBy d).sdu = s.sdu := by
  unfold State.advanceBy
  exact s.stcUpdate_sdu _ _ _ _

@[simp] theorem State.advanceTo_sdu (s : State) (us : Nat) : (s.advanceTo us).sdu = s.sdu := by
  unfold State.advanceTo
  split <;> simp

@[simp] theorem State.frameAt_sdu (s : State) (us : Nat) : (s.frameAt us).sdu = s.sdu := by
  simp [State.frameAt, State.huntController]

@[simp] theorem State.advanceBy_reports (s : State) (d : Nat) : (s.advanceBy d).reports = s.reports := by
  unfold State.advanceBy
  exact s.stcUpdate_reports _ _ _ _

@[simp] theorem State.advanceTo_reports (s : State) (us : Nat) : (s.advanceTo us).reports = s.reports := by
  unfold State.advanceTo
  split <;> simp

@[simp] theorem State.frameAt_reports (s : State) (us : Nat) : (s.frameAt us).reports = s.reports := by
  simp [State.frameAt, State.huntController]

@[simp] theorem State.advanceBy_notices (s : State) (d : Nat) : (s.advanceBy d).notices = s.notices := by
  unfold State.advanceBy
  exact s.stcUpdate_notices _ _ _ _

@[simp] theorem State.advanceTo_notices (s : State) (us : Nat) : (s.advanceTo us).notices = s.notices := by
  unfold State.advanceTo
  split <;> simp

@[simp] theorem State.frameAt_notices (s : State) (us : Nat) : (s.frameAt us).notices = s.notices := by
  simp [State.frameAt, State.huntController]

@[simp] theorem State.advanceBy_transmit (s : State) (d : Nat) : (s.advanceBy d).transmit = s.transmit := by
  unfold State.advanceBy
  exact s.stcUpdate_transmit _ _ _ _

@[simp] theorem State.advanceTo_transmit (s : State) (us : Nat) : (s.advanceTo us).transmit = s.transmit := by
  unfold State.advanceTo
  split <;> simp

@[simp] theorem State.frameAt_transmit (s : State) (us : Nat) : (s.frameAt us).transmit = s.transmit := by
  simp [State.frameAt, State.huntController]

@[simp] theorem State.advanceBy_busy (s : State) (d : Nat) : (s.advanceBy d).busy = s.busy := by
  unfold State.advanceBy
  exact s.stcUpdate_busy _ _ _ _

@[simp] theorem State.advanceTo_busy (s : State) (us : Nat) : (s.advanceTo us).busy = s.busy := by
  unfold State.advanceTo
  split <;> simp

@[simp] theorem State.frameAt_busy (s : State) (us : Nat) : (s.frameAt us).busy = s.busy := s.advanceTo_busy us

@[simp] theorem State.advanceTo_station (s : State) (us : Nat) : (s.advanceTo us).station = s.station :=
  congrArg Base.station (s.advanceTo_base us)

@[simp] theorem State.frameAt_station (s : State) (us : Nat) : (s.frameAt us).station = s.station := s.advanceTo_station us

@[simp] theorem State.advanceTo_aru (s : State) (us : Nat) : (s.advanceTo us).aru = s.aru :=
  congrArg Base.aru (s.advanceTo_base us)

@[simp] theorem State.frameAt_aru (s : State) (us : Nat) : (s.frameAt us).aru = s.aru := s.advanceTo_aru us

@[simp] theorem State.advanceTo_requests (s : State) (us : Nat) : (s.advanceTo us).requests = s.requests :=
  congrArg Base.requests (s.advanceTo_base us)

@[simp] theorem State.frameAt_requests (s : State) (us : Nat) : (s.frameAt us).requests = s.requests := s.advanceTo_requests us

@[simp] theorem State.advanceTo_pending (s : State) (us : Nat) : (s.advanceTo us).pending = s.pending :=
  congrArg Base.pending (s.advanceTo_base us)

@[simp] theorem State.frameAt_pending (s : State) (us : Nat) : (s.frameAt us).pending = s.pending := s.advanceTo_pending us

@[simp] theorem State.advanceTo_link (s : State) (us : Nat) : (s.advanceTo us).link = s.link :=
  congrArg Base.link (s.advanceTo_base us)

/-! ### The receive buffer -/

/-- One turn of the buffer over a single frame (R174). -/
theorem State.drain_one (t : State) (b : Buffered) (hb : t.requests.buffer = [])
    (hr : t.requests.replies.length < Config.replyPlaces) : State.drain 1 (t.buffered b) = t.takeFrame b := by
  obtain ⟨stc, link, ⟨buffer, replies⟩, notices, reports, transmit, entries, osc, pen, squ, station, aru, scu, apg, dsl,
    sdu, dvc, scs, pending⟩ := t
  cases hb
  exact if_pos hr

/-- A frame that finds no frame waiting and a place in the reply queue is taken at its arrival (R174). -/
theorem State.submit_takes (s : State) (us : Nat) (b : Buffered) (h : s.takesRequests) :
    s.submit us b = (s.frameAt us).takeFrame b := by
  have hb : (s.frameAt us).requests.buffer = [] := by simpa using h.1
  have hr : (s.frameAt us).requests.replies.length < Config.replyPlaces := by simpa using h.2
  have one : ((s.frameAt us).buffered b).requests.buffer.length = 1 := by
    unfold State.buffered
    rw [hb]
    rfl
  simp only [State.submit, one, State.drain_one _ _ hb hr]
  rw [if_pos]
  rw [hb]
  decide

/-- A frame that finds the reply queue full waits in the buffer (R174). -/
theorem State.submit_waits (s : State) (us : Nat) (b : Buffered)
    (hb : s.requests.buffer.length < Config.receivePlaces) (hr : Config.replyPlaces ≤ s.requests.replies.length) :
    s.submit us b = (s.frameAt us).buffered b := by
  have stuck : ∀ (n : Nat) (t : State), Config.replyPlaces ≤ t.requests.replies.length → State.drain n t = t := by
    intro n t ht
    cases n with
    | zero => rfl
    | succ n =>
      unfold State.drain
      split
      · rfl
      · rw [if_neg (Nat.not_lt.mpr ht)]
  simp only [State.submit, State.frameAt_requests, hb, if_true]
  exact stuck _ _ (by simpa [State.buffered] using hr)

/-- A frame that finds the buffer full is lost (R174). -/
theorem State.submit_loses (s : State) (us : Nat) (b : Buffered)
    (hb : Config.receivePlaces ≤ s.requests.buffer.length) : s.submit us b = (s.frameAt us).linkError .controller := by
  simp [State.submit, Nat.not_lt.mpr hb]

/-- A request answered at once: the state after its effects, with its reply at the tail of the queue (R176). -/
theorem State.takeFrame_request (s : State) (i : Instr) :
    s.takeFrame (.request i) =
      (s.perform i).state.answered (Instr.hdr i).tag (s.perform i).code (s.perform i).body
        (nextGuard s.locked s.scs.guard i) := rfl

/-- A frame of a wrong length is answered RANGE and changes no more than the guard progress (R176). -/
theorem State.takeFrame_wrongLength (s : State) (h : Hdr) : s.takeFrame (.wrongLength h) = s.replied h.tag .range [] := rfl

end Sys2Proof.Machine
end

