-- ==== Sys2Proof/Laws/Calm.lean ====
section
/-! SUPPORT. What follows an event's own effects (jog's stop, the drive selector's choice, the stop test, dispatch) comes to nothing
for a part at rest, for a pointing in flight, and while HOLD is selected for both axes. -/

namespace Sys2Proof.Machine

open Sys2Proof

theorem PerAxis.ext_get {α : Type} {x y : PerAxis α} (h : x.h = y.h) (v : x.v = y.v) : x = y := by
  cases x; cases y; simp_all

/-- A choice that gives what is selected already changes nothing. -/
theorem State.choose_same {s : State} (h : ∀ a, s.wantedSource a = s.dsl.selected.get a) : s.choose = s := by
  have one : ∀ a, s.chooseAxis false a = s := by
    intro a
    unfold State.chooseAxis
    rw [h a]
    split
    · rw [if_pos ‹_›]
    · rw [if_neg ‹_›, State.setSource, PerAxis.set_get]
  rw [State.choose, one, one]

/-- While HOLD is selected for both axes, a choice at an event changes nothing. -/
theorem State.choose_hold {s : State} (h : s.dsl.selected = both .hold) : s.choose = s := by
  have one : ∀ a, s.chooseAxis false a = s := by
    intro a
    unfold State.chooseAxis
    simp [h]
  rw [State.choose, one, one]

/-- What ends an event comes to nothing. -/
theorem State.wrapUp_same {s : State} (jog : ∀ x, s.dsl.jog ≠ .stopping x) (choice : s.choose = s)
    (going : s.restarting = false) (stop : s.stopComplete = false) (dispatch : s.dispatchReady = false) : s.wrapUp = s := by
  have hj : s.jogTest = s := by
    unfold State.jogTest
    split
    · exact absurd ‹_› (jog _)
    · rfl
  simp [State.wrapUp, State.wrapUpWith, hj, choice, State.stopTest, stop, State.examineDispatch, dispatch, State.recordMayGo,
    going]

theorem State.restarting_of_state {s : State} (h : s.dvc.state ≠ .stopping) : s.restarting = false := by
  simp [State.restarting, h]

theorem State.stopComplete_of_state {s : State} (h : s.dvc.state ≠ .stopping) : s.stopComplete = false := by
  simp [State.stopComplete, h]

theorem State.dispatchReady_of_stopped {s : State} (h : s.osc.mode = .stopped) : s.dispatchReady = false := by
  simp [State.dispatchReady, h]

theorem State.dispatchReady_of_hold {s : State} (h : s.dsl.selected = both .hold) : s.dispatchReady = false := by
  simp [State.dispatchReady, State.bothParked, h, both]

theorem State.AtRest.wanted {s : State} (h : s.AtRest) (a : Axis) : s.wantedSource a = .park := by
  have hs : (s.latestRaw a).isNone = false := by
    have := h.seen a
    cases hx : s.latestRaw a <;> simp_all
  simp [State.wantedSource, h.run, DvcState.holds, hs, h.noHold, State.busy, h.noPointing, AxisRec.movingFor,
    AxisRec.inMotion, h.still a, h.noJog, Jog.running]

/-- At rest, nothing follows an event. -/
theorem State.AtRest.wrapUp {s : State} (h : s.AtRest) : s.wrapUp = s :=
  State.wrapUp_same (by simp [h.noJog]) (State.choose_same fun a => by rw [h.wanted a, h.parked, PerAxis.get_both])
    (State.restarting_of_state (by simp [h.run]))
    (State.stopComplete_of_state (by simp [h.run])) (State.dispatchReady_of_stopped h.stopped)

theorem State.InFlight.wanted {s : State} {p : Pointing} (h : s.InFlight p) (a : Axis) : s.wantedSource a = .aim := by
  have hs : (s.latestRaw a).isNone = false := by
    have := h.seen a
    cases hx : s.latestRaw a <;> simp_all
  simp [State.wantedSource, h.run, DvcState.holds, hs, h.noHold, State.busy, h.pointing]

/-- A pointing in flight goes on: nothing follows an event. -/
theorem State.InFlight.wrapUp {s : State} {p : Pointing} (h : s.InFlight p) : s.wrapUp = s :=
  State.wrapUp_same (by simp [h.noJog]) (State.choose_same fun a => by rw [h.wanted a, h.aimed, PerAxis.get_both])
    (State.restarting_of_state (by simp [h.run]))
    (State.stopComplete_of_state (by simp [h.run])) (State.dispatchReady_of_stopped h.stopped)

/-- While HOLD is selected for both axes outside a stop, nothing follows an event. -/
theorem State.wrapUp_hold {s : State} (h : s.dsl.selected = both .hold) (jog : s.dsl.jog = .none)
    (state : s.dvc.state ≠ .stopping) : s.wrapUp = s :=
  State.wrapUp_same (by simp [jog]) (State.choose_hold h) (State.restarting_of_state state)
    (State.stopComplete_of_state state) (State.dispatchReady_of_hold h)

/-- Rest depends on DVC's state, the mode, the pointing engine, the axes, the drive selector and the histories alone. -/
theorem State.AtRest.congr {s t : State} (h : s.AtRest) (dvc : t.dvc.state = s.dvc.state) (osc : t.osc.mode = s.osc.mode)
    (pen : t.pen.pointing = s.pen.pointing) (shot : t.pen.shot = s.pen.shot) (apg : t.apg = s.apg) (dsl : t.dsl = s.dsl)
    (scu : t.scu = s.scu) : t.AtRest where
  run := dvc.trans h.run
  stopped := osc.trans h.stopped
  noPointing := pen.trans h.noPointing
  noShot := shot.trans h.noShot
  noSettle := by rw [apg]; exact h.noSettle
  noJog := by rw [dsl]; exact h.noJog
  parked := by rw [dsl]; exact h.parked
  noHold := by rw [dsl]; exact h.noHold
  still := fun a => by simpa [State.axis, apg] using h.still a
  seen := fun a => by simpa [State.latestRaw, scu] using h.seen a

/-- A flight depends on DVC's state, the mode, the pointing, the axes, the drive selector and the histories alone. -/
theorem State.InFlight.congr {s t : State} {p q : Pointing} (h : s.InFlight p) (dvc : t.dvc.state = s.dvc.state)
    (osc : t.osc.mode = s.osc.mode) (pen : t.pen.pointing = some q) (live : q.frozen = false)
    (free : ∀ a, (t.axis a).motion ≠ .held) (dsl : t.dsl = s.dsl) (seen : ∀ a, (t.latestRaw a).isSome) : t.InFlight q where
  run := dvc.trans h.run
  stopped := osc.trans h.stopped
  pointing := pen
  live := live
  noJog := by rw [dsl]; exact h.noJog
  aimed := by rw [dsl]; exact h.aimed
  noHold := by rw [dsl]; exact h.noHold
  free := free
  seen := seen

/-- A part at rest gives PARK its choice. -/
theorem State.AtRest.choose {s : State} (h : s.AtRest) : s.choose = s :=
  State.choose_same fun a => by rw [h.wanted a, h.parked, PerAxis.get_both]

end Sys2Proof.Machine
end

