-- ==== Sys2Proof/WellFormed.lean ====
section
/-! DEFINITION. Well-formed commands: operands that the frames and events of the spec can carry (R101, R120, R172, R183,
section 1.4). The machine gives every command an effect, well formed or not. -/

namespace Sys2Proof

/-- A count of `n` bytes. -/
def fitsNat (n x : Nat) : Bool := decide (x < 256 ^ n)

/-- A signed number of `n` bytes. -/
def fitsInt (n : Nat) (x : Int) : Bool := decide (-(256 ^ n : Int) ≤ 2 * x ∧ 2 * x < (256 ^ n : Int))

/-- An unsigned number of `n` bytes held as an integer. -/
def fitsUInt (n : Nat) (x : Int) : Bool := decide (0 ≤ x ∧ x < (256 ^ n : Int))

/-- An arrival within the control period (log entry 5). -/
def usOk (us : Nat) : Bool := decide (us ≤ 1000)

/-- A spot of a SPOT frame (section 6.2). -/
def spotOk (x : Spot) : Bool :=
  decide (-65535 ≤ x.dx ∧ x.dx ≤ 65535 ∧ -65535 ≤ x.dy ∧ x.dy ≤ 65535 ∧ x.intensity ≤ 4095)

/-- A tilt component (section 1.4). -/
def tiltOk (x : Int) : Bool := decide (-8192 ≤ x ∧ x ≤ 8191)

/-- The bytes of a LOAD TARGET hold its fields. -/
def targetLoadOk (l : TargetLoad) : Bool :=
  fitsNat 1 l.kind && fitsNat 1 l.enable && fitsNat 1 l.priority && fitsNat 1 l.periodic && fitsNat 4 l.period
    && fitsNat 4 l.offset && fitsUInt 3 l.hz && fitsUInt 3 l.v && fitsUInt 4 l.d0 && fitsUInt 4 l.dtol && fitsInt 2 l.prism
    && fitsUInt 2 l.w && fitsNat 2 l.ilo && fitsNat 2 l.ihi && fitsNat 4 l.dwell

/-- The bytes of a LOAD STATION hold its numbers. -/
def stationLoadOk (l : StationLoad) : Bool :=
  let n := l.n
  fitsNat 2 n.vmaxH && fitsNat 2 n.vmaxV && fitsNat 2 n.accH && fitsNat 2 n.accV && fitsUInt 3 n.vMin && fitsUInt 3 n.vMax
    && fitsUInt 2 n.settleWin && fitsNat 1 n.settleN && fitsNat 2 n.settleTimeout && fitsNat 1 n.acqFrames
    && fitsNat 1 n.lockN && fitsUInt 2 n.lockTol && fitsNat 1 n.lossN && fitsUInt 2 n.aimTol && fitsNat 1 n.centreLimit
    && fitsUInt 2 n.ambig && fitsNat 1 n.ambigLimit && fitsNat 1 n.searchLegs && fitsNat 2 n.spotSilence
    && fitsNat 2 n.rangeTimeout && fitsNat 1 n.shotRetry && fitsNat 1 n.angleSilenceExp && fitsUInt 2 n.tiltLimit
    && fitsNat 2 n.tiltStale && fitsNat 1 n.levelN && fitsNat 1 n.levelOkN && fitsNat 1 l.compEnable && fitsInt 2 n.coll
    && fitsInt 2 n.trun && fitsInt 3 n.index && fitsUInt 3 n.orient && fitsNat 1 n.missLimit && fitsNat 2 n.backoffBase
    && fitsNat 4 n.backoffCap && fitsUInt 2 n.controlTol && fitsNat 1 l.criticalEnable && fitsNat 2 n.feedDiv
    && fitsNat 2 n.trackInterval && fitsNat 2 n.jogLease

/-- A row of LOAD ZENITH. -/
def rowOk (r : ZRow) : Bool := fitsInt 2 r.s && fitsInt 2 r.k

/-- The bytes of a LOAD DERATE hold its fields. -/
def derateLoadOk (l : DerateLoad) : Bool :=
  fitsNat 1 l.enable && fitsNat 1 l.source && fitsInt 2 l.high && fitsInt 2 l.low && fitsNat 1 l.n && fitsNat 1 l.mode

/-- What SCS may read back from a cell: a slot value is a signed number of two bytes. -/
def cellOk : CellRead → Bool
  | .value x => fitsInt 2 x
  | .unreadable => true

/-- The operands of a command are ones that its frame or event can carry. -/
def wellFormed : Instr → Bool
  | .coldReset => true
  | .haltLineAsserted us | .haltLineReleased us => usOk us
  | .periodExpiry c | .burnCompletion c => cellOk c
  | .angleFrame us _ raw age => usOk us && fitsUInt 3 raw && fitsNat 2 age
  | .driveStatusFrame us _ _ temp => usOk us && fitsInt 2 temp
  | .spotFrame us age spots => usOk us && fitsNat 2 age && decide (spots.length ≤ 29) && spots.all spotOk
  | .rangeFrame us id age distance strength _ =>
    usOk us && fitsNat 1 id && fitsNat 2 age && decide (0 ≤ distance ∧ distance ≤ 30000000) && fitsNat 1 strength
  | .tiltFrame us tl tc _ temp => usOk us && tiltOk tl && tiltOk tc && fitsInt 2 temp
  | .badFrame us _ _ => usOk us
  | .controllerFrameArrival us _ _ payload => usOk us && decide (payload.length ≤ 240)
  | .loadTarget h n l => usOk h.us && fitsNat 1 n && targetLoadOk l
  | .loadStation h l => usOk h.us && stationLoadOk l
  | .loadZenith h first last rows =>
    usOk h.us && fitsNat 1 first && fitsNat 1 last && decide (3 + 4 * rows.length ≤ 240) && rows.all rowOk
  | .loadSector h a n m x => usOk h.us && fitsNat 1 a && fitsNat 1 n && fitsNat 1 m && fitsInt 2 x
  | .loadDerate h g l => usOk h.us && fitsNat 1 g && derateLoadOk l
  | .aim h n | .suspend h n | .restore h n | .queryTarget h n | .key h n | .querySector h n =>
    usOk h.us && fitsNat 1 n
  | .jog h x y => usOk h.us && fitsInt 2 x && fitsInt 2 y
  | .settime h t => usOk h.us && fitsNat 6 t
  | .burn h a n x => usOk h.us && fitsNat 1 a && fitsNat 1 n && fitsInt 2 x
  | .unknownRequest h | .start h | .stop h | .pause h | .halt h | .resume h | .clear h | .abandon h | .park h
  | .restart h | .queryStatus h | .queryContext h | .queryNotices h | .queryQueue h => usOk h.us
  | .countdownExpiry n | .retryTimerExpiry n => decide (n < 64)
  | .settleTimeout | .detectorSilence | .rangeTimeout | .trackTimerExpiry | .dwellExpiry | .leaseExpiry | .tiltStaleSet
  | .sourceStale _ | .encoderSilence _ | .restartTimeout | .axisArrival _ | .settleCompletion _ | .stopCompletion
  | .dispatch | .automaticResume | .levelLoss | .levelRegained | .siteTimeWrap => true
  | .captureComplete rH rV => fitsUInt 3 rH && fitsUInt 3 rV
  | .replySent _ | .alertSent _ | .obsSent _ | .directionSent _ | .driveFrameSent _ _ | .shotFrameSent _ => true

end Sys2Proof
end

