-- ==== Sys2Proof/Tests/Slice0.lean ====
section
/-! SUPPORT. Tests: ill-formed terms that WellFormed refuses, worked cases of the spec, and for each statement of
Certificates/Slice0/Obligations.lean concrete states and operands that meet the hypotheses of its clauses. Expected results
come from the spec's tables and examples, named beside each test. -/

namespace Sys2Proof.Tests

open Sys2Proof Sys2Proof.Machine

/-! ### Small states and operands -/

/-- A frame whose last byte ends at the start of the control period. -/
def hd : Hdr := { us := 0, tag := 7 }

theorem bothAxes {P : Axis → Prop} (h : P .h) (v : P .v) : ∀ a, P a
  | .h => h
  | .v => v

/-- An axis at rest at `p`. -/
def stillAt (p : Int) : AxisRec := { coldAxis with p := some p, setpoint := some p, motion := .still }

/-- An axis on its way to `p + 5000` at speed 128, which it can shed. -/
def onTheWay (p : Int) (q : Requester) : AxisRec :=
  { coldAxis with p := some p, setpoint := some (p + 5000), s := 128, motion := .moving, requester := q }

/-- The part at rest with one encoder sample of each axis. -/
def rest : State :=
  { State.reset with
    scu := { history := { h := [{ time := -50, raw := 1000000 }], v := [{ time := -50, raw := 6000000 }] } }
    apg := { axes := { h := stillAt 1000000, v := stillAt 6000000 }, settle := none }
    dsl := { State.reset.dsl with selected := both .park } }

/-- A definition with every field at a bound that R21 allows. -/
def aDefinition : Definition :=
  { kind := .monitor, enable := true, priority := 3, periodic := true, period := 100, offset := 100, hz := 16777215,
    v := 262144, d0 := 0, dtol := 1, prism := -1000, w := 256, ilo := 4095, ihi := 4095, dwell := 0 }

/-- The LOAD TARGET that carries it. -/
def aLoad : TargetLoad :=
  { kind := 0, enable := 1, priority := 3, periodic := 1, period := 100, offset := 100, hz := 16777215, v := 262144,
    d0 := 0, dtol := 1, prism := -1000, w := 256, ilo := 4095, ihi := 4095, dwell := 0 }

/-- An entry in a given state. -/
def inState (x : EntryState) : Entry := { emptyEntry with definition := aDefinition, state := x, countdown := 7 }

/-- A scheduled pointing at entry 63 in a given phase. -/
def at_ (phase : Phase) : Pointing :=
  { target := 63, kind := .scheduled, phase := phase, frozenCopy := aDefinition, searchLeg := 0, legsCompleted := 0, ox := 0,
    oy := 0, source := .acquire, limited := false, settleTime := some (-100), settleTimer := 0, silence := 0, attempts := 0,
    reservation := false, onAim := false, followCount := 0, dwell := none, track := none, frozen := false,
    arrived := both false }

/-- The part at rest but for the entry `n`. -/
def restWith (n : Nat) (e : Entry) : State := { rest with entries := rest.entries.set n e }

/-- A pointing in flight over axes that stand still. -/
def flying (p : Pointing) : State :=
  { rest with
    pen := { rest.pen with pointing := some p }
    dsl := { rest.dsl with selected := both .aim }
    entries := rest.entries.set 63 (inState .active) }

/-- A shot that waits for its range. -/
def shooting (p : Pointing) (timer : Nat) : State :=
  { flying p with pen := { (flying p).pen with shot := some { id := 5, stage := .awaitingRange timer } } }

/-- An ordinary context with a scheduled pointing at entry 63. -/
def aContext : Context :=
  { target := some 63, part := some (at_ .measure).part, cause := .pause, recoverable := true, savedAt := 0 }

/-- HELD after a PAUSE with the given context. -/
def heldWith (c : Context) : State :=
  { restWith 63 (inState .active) with
    dvc := { rest.dvc with state := .held, cause := .pause, resumeMode := some .command, ordinary := some c } }

/-- CRITICAL after a stall of the H drive that the drive has since withdrawn. -/
def critical (cleared : Bool) (target : Option Nat) : State :=
  { State.reset with
    dvc :=
      { State.reset.dvc with
        state := .critical, cause := .drive .h .stall, report := { h := .ready, v := .none }, fresh := both true
        critical :=
          some
            { context := { target := target, part := none, cause := .drive .h .stall, recoverable := true, savedAt := 0 },
              priorState := .run, priorCause := .none, priorResume := none, cleared := cleared } } }

/-- A state in a given DVC state. -/
def diverted (x : DvcState) (c : Cause) : State := { rest with dvc := { rest.dvc with state := x, cause := c } }

/-- The part with both axes in motion for a requester. -/
def moving (q : Requester) : State := { rest with apg := { axes := both (onTheWay 1000000 q), settle := none } }

/-- A burn of H sector 31. -/
def aBurn : Burn := { axis := .h, sector := 31, value := -2048, timer := 399 }

/-- The part at rest with a burn in progress. -/
def burning : State := { rest with scs := { rest.scs with burn := some aBurn } }

/-- H sector 31 in a given slot state. -/
def slotted (x : Slot) : State :=
  { rest with scs := { rest.scs with slots := rest.scs.slots.set .h (rest.scs.slots.h.set 31 x), guard := 4 } }

theorem rest_takes : rest.takesRequests := ⟨rfl, by decide⟩
theorem rest_atRest : rest.AtRest :=
  ⟨rfl, rfl, rfl, rfl, rfl, rfl, rfl, rfl, bothAxes rfl rfl, bothAxes rfl rfl⟩
theorem restWith_atRest (n : Nat) (e : Entry) : (restWith n e).AtRest :=
  ⟨rfl, rfl, rfl, rfl, rfl, rfl, rfl, rfl, bothAxes rfl rfl, bothAxes rfl rfl⟩
theorem notHeld : ∀ a, (rest.axis a).motion ≠ .held := bothAxes (by decide) (by decide)
theorem flying_inFlight (p : Pointing) (h : p.frozen = false) : (flying p).InFlight p :=
  ⟨rfl, rfl, rfl, h, rfl, rfl, rfl, notHeld, bothAxes rfl rfl⟩
theorem flying_mayEnd (p : Pointing) (h : p.frozen = false) (t : p.target = 63) :
    (flying p).MayEnd p :=
  ⟨flying_inFlight p h, bothAxes rfl rfl, by rw [t]; rfl⟩
theorem shooting_inFlight (p : Pointing) (n : Nat) (h : p.frozen = false) : (shooting p n).InFlight p :=
  ⟨rfl, rfl, rfl, h, rfl, rfl, rfl, notHeld, bothAxes rfl rfl⟩
theorem shooting_mayEnd (p : Pointing) (n : Nat) (h : p.frozen = false) (t : p.target = 63) :
    (shooting p n).MayEnd p :=
  ⟨shooting_inFlight p n h, bothAxes rfl rfl, by rw [t]; rfl⟩
theorem moving_inMotion (q : Requester) (a : Axis) : ((moving q).axis a).inMotion = true ∧ ((moving q).axis a).s ≠ 0 := by
  cases a <;> exact ⟨rfl, show (128 : Nat) ≠ 0 by decide⟩
theorem heldLaw_of (s : State) (a : Axis) (h : s.dsl.selected.get a ≠ .hold) (m : (s.axis a).motion ≠ .held)
    (t : s.transmit.slots.get a = none) : s.axisHeldLaw a :=
  ⟨⟨fun x => absurd x h, fun x => absurd x m⟩, fun f x => by rw [t] at x; (cases x), fun x => absurd x h⟩
theorem rest_heldLaw (a : Axis) : rest.axisHeldLaw a := by
  cases a <;> exact heldLaw_of _ _ (by decide) (by decide) rfl

/-! ### WellFormed refuses what no frame or event can carry, one term for each check -/

theorem test_wellFormed_accepts :
    wellFormed (.loadTarget hd 255 aLoad) = true ∧ wellFormed (.angleFrame 1000 .h 16777215 65535) = true
      ∧ wellFormed (.jog hd (-32768) 32767) = true ∧ wellFormed (.countdownExpiry 63) = true
      ∧ wellFormed (.loadStation hd { n := coldStation.n, compEnable := 255, criticalEnable := 0 }) = true := by decide
theorem test_wellFormed_usOk :
    wellFormed (.haltLineAsserted 1001) = false ∧ wellFormed (.start { us := 1001, tag := 0 }) = false := by decide
theorem test_wellFormed_fitsNat : wellFormed (.aim hd 256) = false ∧ wellFormed (.angleFrame 0 .v 0 65536) = false := by decide
theorem test_wellFormed_fitsInt :
    wellFormed (.jog hd 32768 0) = false ∧ wellFormed (.jog hd 0 (-32769)) = false
      ∧ wellFormed (.burn hd 0 0 32768) = false := by decide
theorem test_wellFormed_fitsUInt :
    wellFormed (.angleFrame 0 .h 16777216 0) = false ∧ wellFormed (.captureComplete 0 (-1)) = false := by decide
theorem test_wellFormed_spotOk :
    wellFormed (.spotFrame 0 0 [{ dx := 65536, dy := 0, intensity := 0 }]) = false
      ∧ wellFormed (.spotFrame 0 0 [{ dx := 0, dy := 0, intensity := 4096 }]) = false
      ∧ wellFormed (.spotFrame 0 0 (List.replicate 30 { dx := 0, dy := 0, intensity := 0 })) = false := by decide
theorem test_wellFormed_range_and_tilt :
    wellFormed (.rangeFrame 0 0 0 30000001 0 .ok) = false ∧ wellFormed (.tiltFrame 0 8192 0 false 0) = false := by decide
theorem test_wellFormed_targetLoadOk : wellFormed (.loadTarget hd 0 { aLoad with prism := 32768 }) = false := by decide
theorem test_wellFormed_stationLoadOk :
    wellFormed (.loadStation hd { n := { coldStation.n with vmaxH := 65536 }, compEnable := 1, criticalEnable := 1 }) = false :=
  by decide
theorem test_wellFormed_rowOk :
    wellFormed (.loadZenith hd 0 0 [{ s := 32768, k := 0 }]) = false
      ∧ wellFormed (.loadZenith hd 0 59 (List.replicate 60 { s := 0, k := 0 })) = false := by decide
theorem test_wellFormed_derateLoadOk :
    wellFormed (.loadDerate hd 0 { enable := 1, source := 0, high := 32768, low := 0, n := 0, mode := 0 }) = false := by decide
theorem test_wellFormed_cellOk : wellFormed (.burnCompletion (.value 32768)) = false := by decide
set_option maxRecDepth 4000 in
theorem test_wellFormed_lengths :
    wellFormed (.controllerFrameArrival 0 0 0 (List.replicate 241 0)) = false ∧ wellFormed (.countdownExpiry 64) = false := by
  decide

/-! ### Worked cases of the spec -/

/-- The zenith table of R9's example and of section 1.9. -/
def workedTable : List ZRow :=
  List.replicate 17 { s := 4096, k := 0 } ++ [{ s := 4116, k := -403 }, { s := 4176, k := -815 }]
    ++ List.replicate 14 { s := 4096, k := 0 }

/-- The setting of section 1.9. -/
def worked : State :=
  { rest with
    station := { coldStation with n := { coldStation.n with coll := 50, trun := -20, index := 100 } }
    aru := { rest.aru with zenith := workedTable, tilt := some { tl := -40, tc := 30, overrange := false } }
    scs :=
      { rest.scs with
        soft := { h := ((List.replicate 32 none).set 19 (some 12)).set 18 (some (-5)), v := (List.replicate 32 none).set 8 (some (-7)) } } }

/-- `exec` answers a next state that passes a test. -/
def gives (i : Instr) (s : State) (test : State → Bool) : Bool :=
  match exec i s with
  | .next t => test t
  | _ => false

/-- Example of R10, with the clamp of a zenith above the table. -/
theorem test_factorAt_example :
    factorAt workedTable 4494304 = { s := 4125, k := -462 } ∧ factorAt workedTable 4456448 = { s := 4116, k := -403 }
      ∧ factorAt workedTable 8400000 = { s := 4096, k := 0 } := by decide
/-- Section 1.9: setpoints of the slew, and the target back from the reached position. -/
theorem test_inverse_reduction_worked :
    (inverseReduction worked 10000000 4494304 0 0).h = 9999939 ∧ (inverseReduction worked 10000000 4494304 0 0).v = 4494251
      ∧ (inverseReduction worked 10000000 4494304 0 0).limited = false := by decide
theorem test_forward_reduction_worked :
    forwardReduction worked 9999939 4494251 { dx := 0, dy := 0 } = { hz := 10000000, v := 4494304 } := by decide
/-- R9's example: two rows replaced; with last 19 and two pairs, RANGE and no row changed. -/
theorem test_loadZenith_example :
    (gives (.loadZenith hd 17 18 [{ s := 4116, k := -403 }, { s := 4176, k := -815 }]) rest
        (fun t => decide (t.aru.zenith = workedTable))) = true := by decide
theorem test_loadZenith_refused :
    (gives (.loadZenith hd 17 19 [{ s := 4116, k := -403 }, { s := 4176, k := -815 }]) rest
        (fun t => decide (t.aru = rest.aru ∧ t.requests.replies = [{ tag := 7, code := .range, body := [] }]))) = true := by decide
/-- The table of R84. -/
theorem test_stopDistance_table :
    stopDistance 4 4 = 0 ∧ stopDistance 4 8 = 4 ∧ stopDistance 4 12 = 12 ∧ stopDistance 4 14 = 18
      ∧ stopDistance 64 8192 = 520192 := by decide
/-- The table of R85. -/
theorem test_remaining_table :
    remaining .h 16777000 200 = 416 ∧ remaining .h 200 16777000 = -416 ∧ remaining .h 0 8388608 = 8388608
      ∧ remaining .h 8388608 0 = 8388608 := by decide
/-- Section 5.10, a move from rest: expiries 3, 4 and 6. -/
theorem test_axis_step_profile :
    let at_ := fun (p : Int) (s : Nat) => { stillAt p with setpoint := some 40, motion := .moving, s := s, vmax := 12, acc := 4 }
    ((at_ 12 8).period .v 12 4 12).axis.s = 12 ∧ ((at_ 24 12).period .v 12 4 12).axis.s = 8
      ∧ ((at_ 36 4).period .v 12 4 12).axis.p = some 40 ∧ ((at_ 36 4).period .v 12 4 12).arrives = true := by decide
/-- The table of R113. -/
theorem test_searchOffset_table :
    searchOffset 2000 1 = { dx := 2000, dy := 0 } ∧ searchOffset 2000 4 = { dx := -2000, dy := -2000 }
      ∧ searchOffset 2000 7 = { dx := -4000, dy := 4000 } ∧ searchOffset 2000 12 = { dx := -6000, dy := -6000 } := by decide
/-- The example of R104, with both margins. -/
theorem test_spotResult_example :
    let d := { aDefinition with w := 2000, ilo := 1000, ihi := 3500 }
    let spots : List Spot :=
      [{ dx := 310, dy := -220, intensity := 2600 }, { dx := -2040, dy := 100, intensity := 3000 },
        { dx := 40, dy := 60, intensity := 3900 }, { dx := -900, dy := 380, intensity := 1800 },
        { dx := 600, dy := 680, intensity := 1200 }]
    spotResult d 600 spots = .chosen { dx := 310, dy := -220 } ∧ spotResult d 800 spots = .ambiguous
      ∧ spotResult d 0 (spots.drop 1) = .chosen { dx := -900, dy := 380 } := by decide
/-- The example of R125. -/
theorem test_interpolate_example :
    let h : List Sample := [{ time := 1000000, raw := 16777100 }, { time := 1000800, raw := 60 }]
    let v : List Sample := [{ time := 1000100, raw := 4494260 }, { time := 1000900, raw := 4494250 }]
    interpolate .h h 1000025 = .value 16777106 ∧ interpolate .h h 1000700 = .value 38 ∧ interpolate .h h 999999 = .stale
      ∧ interpolate .h h 1000801 = .waits ∧ interpolate .v v 1000300 = .value 4494258 := by decide
/-- The table of R33. -/
theorem test_backoff_table :
    (Entry.afterOutcome { inState .active with misses := 2 } coldStation.n .obscured).entry.retry = some 8000
      ∧ (Entry.afterOutcome { inState .active with misses := 6 } { coldStation.n with missLimit := 15 } .obscured).entry.retry
          = some 120000 := by decide
/-- Section 10.6: KEY 1 to 4, and a broken sequence. -/
theorem test_key_sequence :
    (gives (.key hd 4) { rest with scs := { rest.scs with guard := 3 } }
        (fun t => decide (t.scs.guard = 4))) = true
      ∧ (gives (.key hd 4) { rest with scs := { rest.scs with guard := 2 } }
        (fun t => decide (t.scs.guard = 0))) = true := by decide
/-- The example of R138. -/
theorem test_jog_example :
    (gives (.jog hd 3000 (-20000)) rest
        (fun t => decide (t.dsl.jog = .leased 250 { h := 3000, v := -8192 } ∧ (t.axis .h).setpoint = some 9000000
          ∧ (t.axis .v).setpoint = some 1048576))) = true := by decide
/-- The example of R37: entry 30 restored. -/
theorem test_restore_example :
    (gives (.restore hd 30)
        (restWith 30
          { inState .suspended with definition := { aDefinition with period := 10000 }, misses := 6, countdown := 3250 })
        (fun t =>
          decide ((t.entry 30).state = .armed ∧ (t.entry 30).countdown = 10000 ∧ (t.entry 30).misses = 0))) = true := by decide
/-- Section 1.4: the jitter of the third sample. -/
theorem test_tilt_jitter_example :
    (gives (.tiltFrame 0 40 10 false 0)
        { rest with
          aru := { rest.aru with tilt := some { tl := 15, tc := -6, overrange := false }, jitterSteps := [5], jitter := 5 } }
        (fun t => decide (t.aru.jitterSteps = [5, 41] ∧ t.aru.jitter = 41 ∧ t.aru.tiltStale = false))) = true := by decide
set_option maxRecDepth 4000 in
/-- R172's CRC at its published check value: the nine bytes 31 to 39 (hexadecimal) give 29B1. -/
theorem test_crc : crc16 [0x31, 0x32, 0x33, 0x34, 0x35, 0x36, 0x37, 0x38, 0x39] = 0x29B1 := by decide
/-- Section 11.6: the QUERY QUEUE body of an empty queue: mode, two counter bytes and two empty lists. -/
theorem test_query_queue_cold :
    (gives (.queryQueue hd) rest
        (fun t => decide (t.requests.replies = [{ tag := 7, code := .done, body := [0, 0, 0, 0, 0] }]))) = true := by decide

/-! ### Concrete states and operands that meet the hypotheses of each statement, clause by clause -/

/-- A state with `n` replies in the reply queue and `m` frames in the receive buffer. -/
def ports (n m : Nat) : State :=
  { rest with
    requests := { buffer := List.replicate m { frame := .wrongLength hd, stamp := 0 }, replies := List.replicate n { tag := 0, code := .done, body := [] } } }

/-- A state with a command at the front of its queue, which it takes to a next state. -/
def queued (s : State) : State := { s with pending := [.stop hd, .coldReset] }

theorem witness_StepTakesTheFrontCommand :
    (queued rest).pending = .stop hd :: [.coldReset] ∧ rest.pending = [] := ⟨rfl, rfl⟩

theorem witness_SiteTimeMoves_frames :
    (rest.stc.periodUs ≤ min 1000 1000 ∧ rest.stc.siteTime < 2 ^ 48
        ∧ rest.stc.siteTime + (min 1000 1000 - rest.stc.periodUs) < 2 ^ 48)
      ∧ (let s : State := { rest with stc := { siteTime := 281474976710655, periodUs := 999 } };
        s.stc.periodUs ≤ min 1000 1000 ∧ s.stc.siteTime < 2 ^ 48 ∧ 2 ^ 48 ≤ s.stc.siteTime + (min 1000 1000 - s.stc.periodUs)) :=
  by decide
theorem witness_SiteTimeMoves_commands :
    ({ rest with stc := { siteTime := 281474976710655, periodUs := 0 } } : State).stc.siteTime + 1 = 2 ^ 48
      ∧ rest.stc.siteTime + 1 ≠ 2 ^ 48 ∧ rest.takesRequests ∧ rest.dvc.state ≠ .lockout ∧ 281474976710655 < 2 ^ 48
      ∧ 2 ^ 48 ≤ 281474976710656 := ⟨by decide, by decide, rest_takes, by decide, by decide, by decide⟩

theorem witness_TablesAndBoundsStayWhole :
    (∃ t, step (queued (ports 7 4)) = .next t) ∧ (queued (ports 7 4)).portsBounded ∧ (queued rest).tablesWhole
      ∧ (queued rest).guardBounded ∧ ∃ t, step (queued rest) = .next t :=
  ⟨⟨_, rfl⟩, ⟨by decide, by decide⟩, ⟨by decide, by decide, by decide, by decide, by decide, by decide, by decide, by decide⟩,
    show (0 : Nat) ≤ 4 by decide, ⟨_, rfl⟩⟩
theorem soft_none (n : Nat) : (List.replicate 32 (none : Option Int)).getD n none = none := by
  simp only [List.getD_eq_getElem?_getD, List.getElem?_replicate]
  split <;> rfl
theorem witness_NoSoftCorrectionUnderAFixedSlot :
    (slotted (.fixed 2047)).scs.lawEight ∧ ((slotted (.fixed 2047)).scs.slots.get .h).getD 31 .blank = .fixed 2047
      ∧ ∃ t, step (queued (slotted (.fixed 2047))) = .next t :=
  ⟨fun a n _ _ => by cases a <;> exact soft_none n, by decide, ⟨_, rfl⟩⟩
theorem witness_ShotsAndReservationsStayLawful :
    (queued (shooting { at_ .measure with reservation := true } 0)).shotLaw
      ∧ ∃ t, step (queued (shooting { at_ .measure with reservation := true } 0)) = .next t :=
  ⟨⟨by decide, fun _ => rfl, fun _ _ => .inl rfl⟩, ⟨_, rfl⟩⟩
theorem reset_heldLaw (s : State) (d : s.dsl = State.reset.dsl) (x : s.apg = State.reset.apg)
    (t : s.transmit = State.reset.transmit) (a : Axis) : s.axisHeldLaw a := by
  refine ⟨?_, fun f h => ?_, fun _ => ⟨fun f h => ?_, fun f h => ?_⟩⟩
  · simp only [State.axis, d, x]; cases a <;> decide
  all_goals rw [t] at h; cases a <;> cases h
theorem witness_HoldAndTheCriticalRecordStayLawful :
    (critical false (some 63)).holdLaw ∧ (critical false (some 63)).criticalLaw
      ∧ ∃ t, step (queued (critical false (some 63))) = .next t :=
  ⟨⟨reset_heldLaw _ rfl rfl rfl, fun _ => bothAxes rfl rfl⟩, ⟨fun _ => rfl, fun _ => .inl rfl⟩, ⟨_, rfl⟩⟩
theorem witness_TheDueQueueStaysInOrder :
    ({ rest with
        osc :=
          { rest.osc with
            queue := [{ target := 63, priority := 0, seq := 65535 }, { target := 0, priority := 3, seq := 0 }] } } : State).queueOrdered
      ∧ ∃ t, step (queued rest) = .next t := ⟨show List.Pairwise _ _ by decide, ⟨_, rfl⟩⟩
theorem witness_CommandedSpeedsStayLawful :
    (queued (moving .jog)).speedLaw ∧ (∃ t, step (queued (moving .jog)) = .next t) ∧ 1 ≤ rest.station.n.vmaxH
      ∧ (∀ g ∈ rest.sdu.groups, g.definition.n ≤ 7) ∧ (∀ g ∈ rest.sdu.groups, g.active = false)
      ∧ (let groups := rest.sdu.groups.set 3 { coldGroup with active := true };
        groups[3]? = some { coldGroup with active := true } ∧ ∀ j < 3, ∀ x ∈ groups[j]?, x.active = false) :=
  ⟨bothAxes ⟨by decide, fun h => by rcases h with h | h <;> cases h⟩ ⟨by decide, fun h => by rcases h with h | h <;> cases h⟩,
    ⟨_, rfl⟩, by decide, by decide, by decide, by decide⟩

theorem witness_RequestsArrive :
    4 ≤ (ports 8 4).requests.buffer.length ∧ (ports 0 4).notices.alertWaits = false
      ∧ ((ports 8 3).requests.buffer.length < 4 ∧ 8 ≤ (ports 8 3).requests.replies.length)
      ∧ parseRequest hd 0x11 [3, 255] = .request (.aim hd 255)
      ∧ (parseRequest hd 0x11 [3] = .wrongLength hd ∧ rest.takesRequests) :=
  ⟨by decide, rfl, ⟨by decide, by decide⟩, by decide, by decide, rest_takes⟩
theorem witness_RequestBytesNameTheirRequests :
    (0x13 : Byte) ≠ 0x10 ∧ (0x13 : Byte) ≠ 0x11 ∧ (0x13 : Byte) ≠ 0x12 ∧ 16 < (17 : Byte).toNat ∧ 6 < (7 : Byte).toNat
      ∧ 5 < (6 : Byte).toNat := by decide
theorem witness_SharedRefusals :
    rest.takesRequests ∧ (diverted .lockout .halt).takesRequests ∧ (diverted .lockout .halt).dvc.state = .lockout
      ∧ isOrder (.key hd 1) = true := ⟨rest_takes, ⟨rfl, by decide⟩, rfl, rfl⟩
theorem witness_QueriesReadAndNoticesClear :
    rest.takesRequests ∧ isQuery (.queryTarget hd 64) = true ∧ ∀ h, Instr.queryTarget hd 64 ≠ .queryNotices h :=
  ⟨rest_takes, rfl, fun _ x => by cases x⟩
theorem witness_RaisingANotice :
    rest.notices.records.length = 16 ∧ NoticeKind.derate ≠ .linkError := ⟨rfl, by decide⟩
set_option maxRecDepth 4000 in
theorem witness_ReceiversFindFrames :
    rest.link.rx .controller = [] ∧ (∀ b ∈ [(0xA4 : Byte), 0xA6], b ≠ 0xA5) ∧ (0x11 : Byte) ≠ 0xA5 ∧ 240 < (241 : Byte).toNat
      ∧ rest.link.rxController = []
      ∧ (let f : Frame := { kind := 0x11, tag := 0, payload := [1] };
        let inner := f.kind :: f.tag :: BitVec.ofNat 8 f.payload.length :: f.payload
        f.payload.length ≤ 240 ∧ ((0 : Byte) ++ (0 : Byte) : BitVec 16) ≠ crc16 inner ∧ ∀ b ∈ inner ++ [(0 : Byte), 0], b ≠ 0xA5) := by
  decide
theorem witness_QueryBodiesSayTheState :
    rest.takesRequests ∧ 63 < 64 ∧ 63 ≤ 63 ∧ 1 < 2 ∧ (rest.scs.soft.get .v).length = 32
      ∧ (rest.scs.slots.get .v).length = 32 :=
  ⟨rest_takes, by decide, by decide, by decide, rfl, rfl⟩

theorem witness_LoadZenithWritesTheNamedRows :
    rest.takesRequests ∧ ((diverted .lockout .halt).takesRequests ∧ (diverted .lockout .halt).dvc.state = .lockout)
      ∧ rest.dvc.state ≠ .lockout ∧ (1 < 2 ∨ 32 < 33) ∧ (0 ≤ 32 ∧ 32 ≤ 32 ∧ (List.replicate 33 (0 : Nat)).length + 0 = 32 + 1) :=
  ⟨rest_takes, ⟨⟨rfl, by decide⟩, rfl⟩, by decide, by decide, by decide⟩
theorem witness_LoadSectorSetsOneSoftCorrection :
    rest.takesRequests ∧ (diverted .lockout .halt).dvc.state = .lockout ∧ rest.dvc.state ≠ .lockout
      ∧ (1 < 2 ∧ 31 < 32 ∧ ((2048 : Int) < -2048 ∨ (2047 : Int) < 2048))
      ∧ (1 = (axisCode .v).toNat ∧ 31 ≤ 31 ∧ 1 ≤ 1 ∧ ((-2048 : Int) ≤ 2047 ∧ (2047 : Int) ≤ 2047))
      ∧ ((slotted (.fixed 0)).scs.slots.get .h).getD 31 .blank = .fixed 0
      ∧ ∀ x, ((slotted .spoiled).scs.slots.get .h).getD 31 .blank ≠ .fixed x :=
  ⟨rest_takes, rfl, by decide, by decide, by decide, by decide, fun _ h => by cases h⟩
theorem witness_LoadDerateReplacesAGroup :
    rest.takesRequests ∧ (diverted .lockout .halt).dvc.state = .lockout ∧ rest.dvc.state ≠ .lockout
      ∧ (3 < 4 ∧ 7 < 8 ∧ (0 : Int) ≤ 0)
      ∧ (3 ≤ 3 ∧ boolOfCode 1 = some true ∧ sourceOfCode 3 = some .tiltJitter ∧ modeOfCode 1 = some .fn ∧ 7 ≤ 7
        ∧ (32766 : Int) < 32767 ∧ (-32768 : Int) ≤ 32766 ∧ (32767 : Int) ≤ 32767) :=
  ⟨rest_takes, rfl, by decide, by decide, by decide⟩
theorem witness_LoadTargetChecksItsFields :
    rest.takesRequests ∧ rest.dvc.state ≠ .lockout ∧ 63 < 64
      ∧ (let l := { aLoad with kind := 2, dwell := 999 };
        l.kind < 3 ∧ l.kind = 2 ∧ (l.dwell < 1000 ∨ 600000 < l.dwell)) :=
  ⟨rest_takes, by decide, by decide, by decide⟩
theorem witness_LoadTargetChangesAnEntry :
    (rest.takesRequests ∧ rest.dvc.state ≠ .lockout ∧ 63 ≤ 63 ∧ definitionOfLoad aLoad = some aDefinition
        ∧ (∀ c, rest.dvc.ordinary = some c → c.target ≠ some 63) ∧ (rest.entry 63).state ≠ .active ∧ rest.engaged 63 = false)
      ∧ ((restWith 63 (inState .active)).takesRequests ∧ ((restWith 63 (inState .active)).entry 63).state = .active)
      ∧ ((heldWith aContext).takesRequests ∧ (heldWith aContext).dvc.state ≠ .lockout
        ∧ (heldWith aContext).dvc.ordinary = some aContext ∧ aContext.target = some 63) :=
  ⟨⟨rest_takes, by decide, by decide, by decide, fun _ h => (nomatch h), by decide, by decide⟩,
    ⟨⟨rfl, by decide⟩, by decide⟩, ⟨⟨rfl, by decide⟩, by decide, rfl, rfl⟩⟩
theorem witness_LoadStationRefusals :
    rest.takesRequests ∧ (diverted .lockout .halt).dvc.state = .lockout ∧ rest.dvc.state ≠ .lockout
      ∧ (let n := { coldStation.n with vmaxH := 16384 };
        16383 < n.vmaxH)
      ∧ (let st : Station := { coldStation with n := { coldStation.n with vMax := 5999999 } };
        stationOfLoad { n := st.n, compEnable := 1, criticalEnable := 1 } = some st
          ∧ (rest.axis .v).p = some 6000000
          ∧ (rest.station.n.vMin ≤ 6000000 ∧ 6000000 ≤ rest.station.n.vMax ∧ (6000000 < st.n.vMin ∨ st.n.vMax < 6000000))) :=
  ⟨rest_takes, rfl, by decide, by decide, by decide⟩
theorem witness_LoadStationRefusals_level :
    let s := { rest with dvc := { rest.dvc with level := .lost } }
    let st : Station := { coldStation with n := { coldStation.n with tiltLimit := 999 } }
    s.takesRequests ∧ s.dvc.state ≠ .lockout ∧ stationOfLoad { n := st.n, compEnable := 1, criticalEnable := 1 } = some st
      ∧ s.dvc.level = .lost ∧ st.n.tiltLimit < s.station.n.tiltLimit :=
  ⟨⟨rfl, by decide⟩, by decide, by decide, rfl, by decide⟩
theorem witness_LoadStationReplacesTheBlock :
    let s := restWith 63 { inState .armed with misses := 1 }
    s.takesRequests ∧ s.dvc.state ≠ .lockout ∧ s.entries[63]? = some { inState .armed with misses := 1 } ∧ s.busy = false :=
  ⟨⟨rfl, by decide⟩, by decide, rfl, rfl⟩
theorem witness_LoadStationReplacesTheBlock_flying :
    let s := flying (at_ .locking)
    s.takesRequests ∧ s.dvc.state ≠ .lockout
      ∧ stationOfLoad { n := coldStation.n, compEnable := 1, criticalEnable := 1 } = some coldStation
      ∧ (∀ x : Int, ¬(s.station.n.vMin ≤ x ∧ x ≤ s.station.n.vMax ∧ (x < coldStation.n.vMin ∨ coldStation.n.vMax < x)))
      ∧ s.dvc.level = .level ∧ s.busy = true ∧ 0 < coldStation.n.acqFrames
      ∧ 0 < coldStation.n.lockN ∧ 0 < coldStation.n.lossN ∧ 0 < coldStation.n.ambigLimit ∧ 0 < coldStation.n.centreLimit :=
  ⟨⟨rfl, by decide⟩, by decide, by decide, fun _ ⟨a, b, c⟩ => c.elim (Int.not_lt.mpr a) (Int.not_lt.mpr b), rfl, rfl, by decide,
    by decide, by decide, by decide, by decide⟩

theorem witness_StartAndStopSetTheMode :
    let s : State := { restWith 63 (inState .due) with osc := { rest.osc with queue := [{ target := 63, priority := 3, seq := 0 }] } }
    rest.takesRequests ∧ (diverted .lockout .halt).dvc.state = .lockout ∧ rest.dvc.state ≠ .lockout ∧ rest.osc.queue = []
      ∧ (s.takesRequests ∧ s.dvc.state = .run ∧ s.pen.pointing = none ∧ s.scs.burn = none ∧ s.dsl.jog = .none
        ∧ s.dsl.selected = both .park ∧ s.osc.detectorReady = true ∧ s.reports.queue.length < 32 ∧ s.osc.queue ≠ []) :=
  ⟨rest_takes, rfl, by decide, rfl, ⟨rfl, by decide⟩, rfl, rfl, rfl, rfl, rfl, rfl, by decide, by decide⟩

/-- Ready to dispatch entry 63, with 31 records waiting. -/
def ready : State :=
  { restWith 63 (inState .due) with
    osc := { rest.osc with mode := .running, queue := [{ target := 63, priority := 3, seq := 0 }] }
    reports :=
      { rest.reports with
        queue :=
          List.replicate 31
            { sequence := 0, target := 0, siteTime := 0, hz := 0, v := 0, distance := 0, strength := 0, attempts := 1,
              flags :=
                { suspect := false, limited := false, tiltStale := false, retried := false, oneOff := false, follow := false,
                  control := false },
              deviations := none, followIndex := none } } }

theorem witness_DispatchTakesTheHead :
    rest.osc.mode = .stopped
      ∧ (ready.osc.queue = { target := 63, priority := 3, seq := 0 } :: [] ∧ ready.osc.mode = .running ∧ ready.dvc.state = .run
        ∧ ready.pen.pointing = none ∧ ready.scs.burn = none ∧ ready.dsl.jog = .none ∧ ready.dsl.selected = both .park
        ∧ ready.osc.detectorReady = true ∧ ready.reports.queue.length < 32 ∧ (∀ a, (ready.axis a).motion = .still)
        ∧ (∀ a, (ready.latestRaw a).isSome) ∧ ready.dsl.restartHold = both false) :=
  ⟨rfl, rfl, rfl, rfl, rfl, rfl, rfl, rfl, rfl, by decide, bothAxes rfl rfl, bothAxes rfl rfl, rfl⟩
theorem witness_AimRefusesOrBegins :
    rest.takesRequests ∧ rest.dvc.state ≠ .lockout ∧ 63 < 64 ∧ burning.scs.burn ≠ none
      ∧ ((flying (at_ .slew)).scs.burn = none ∧ (flying (at_ .slew)).pen.pointing ≠ none)
      ∧ (rest.scs.burn = none ∧ rest.pen.pointing = none ∧ (rest.entry 63).state = .empty)
      ∧ (let s := restWith 63 (inState .suspended);
        s.takesRequests ∧ s.scs.burn = none ∧ s.pen.pointing = none ∧ s.osc.mode = .stopped ∧ s.dvc.state = .run
          ∧ s.dsl.jog = .none ∧ s.dsl.selected = both .park ∧ s.reports.queue.length < 32 ∧ (s.entry 63).state = .suspended) :=
  ⟨rest_takes, by decide, by decide, by decide, ⟨rfl, by decide⟩, ⟨rfl, rfl, by decide⟩, ⟨rfl, by decide⟩, rfl, rfl, rfl, rfl, rfl,
    rfl, by decide, by decide⟩
theorem witness_SuspendAndRestore :
    rest.takesRequests ∧ (diverted .lockout .halt).dvc.state = .lockout ∧ rest.dvc.state ≠ .lockout ∧ 63 < 64
      ∧ ((restWith 63 (inState .active)).entry 63).state = .active
      ∧ (((restWith 63 (inState .suspended)).entry 63).state = .suspended ∧ (restWith 63 (inState .suspended)).engaged 63 = false)
      ∧ (((restWith 63 (inState .due)).entry 63).state = .due ∧ (restWith 63 (inState .due)).engaged 63 = false)
      ∧ ((restWith 63 (inState .spent)).entry 63).state ≠ .suspended := by
  refine ⟨rest_takes, rfl, ?_⟩; decide
theorem witness_EntriesFallDue :
    (let e := { inState .backoff with countdown := 1, retry := some 1 };
      (e.state = .backoff ∧ e.countdown ≠ 4294967295 ∧ e.countdown ≤ 1) ∧ ∃ r, e.retry = some r ∧ r ≤ 1)
      ∧ ((restWith 63 (inState .armed)).AtRest ∧ (restWith 63 (inState .armed)).entries[63]? = some (inState .armed)
        ∧ (inState .armed).countdown ≠ 4294967295 ∧ (restWith 63 (inState .armed)).engaged 63 = false)
      ∧ ((restWith 63 (inState .backoff)).AtRest ∧ (restWith 63 (inState .backoff)).entries[63]? = some (inState .backoff)
        ∧ (inState .backoff).state = .backoff)
      ∧ (let s : State :=
          { heldWith { aContext with part := some { (at_ .slew).part with kind := .oneOff } } with
            dvc :=
              { rest.dvc with
                critical :=
                  some
                    { context := { aContext with part := some { (at_ .slew).part with kind := .oneOff } }, priorState := .run,
                      priorCause := .none, priorResume := none, cleared := false } }
            entries := rest.entries.set 63 (inState .armed) }
        s.AtRest ∧ s.entries[63]? = some (inState .armed) ∧ s.engaged 63 = true) :=
  ⟨⟨by decide, 1, rfl, by decide⟩, ⟨restWith_atRest _ _, rfl, by decide, by decide⟩, ⟨restWith_atRest _ _, rfl, rfl⟩,
    ⟨rfl, rfl, rfl, rfl, rfl, rfl, rfl, rfl, bothAxes rfl rfl, bothAxes rfl rfl⟩, rfl, by decide⟩
theorem witness_EnqueueKeysAndRenumbers :
    [63, 0] ≠ [] ∧ ready.osc.counter < 65535 ∧ 65535 ≤ ({ ready with osc := { ready.osc with counter := 65535 } } : State).osc.counter :=
  by decide
theorem witness_OutcomesMoveTheEntry :
    (inState .active).misses + 1 < coldStation.n.missLimit ∧ (inState .active).misses < coldStation.n.missLimit
      ∧ coldStation.n.missLimit ≤ ({ inState .active with misses := 5 } : Entry).misses + 1
      ∧ coldStation.n.missLimit ≤ ({ inState .active with misses := 6 } : Entry).misses := by decide

theorem witness_PauseStopsAndHolds :
    rest.takesRequests ∧ (diverted .lockout .halt).dvc.state = .lockout ∧ (diverted .halted .halt).dvc.state = .halted
      ∧ (heldWith aContext).dvc.state = .held
      ∧ ((moving .pointing).takesRequests ∧ (moving .pointing).dvc.state = .run ∧ (∀ a, ((moving .pointing).latestRaw a).isSome)
        ∧ (moving .pointing).dsl.restartHold = both false
        ∧ ∃ a, ((moving .pointing).axis a).inMotion = true ∧ ((moving .pointing).axis a).s ≠ 0)
      ∧ (rest.dvc.state = .run ∧ rest.pen.shot = none ∧ ∀ a, (rest.axis a).inMotion = false) :=
  ⟨rest_takes, rfl, rfl, rfl, ⟨⟨rfl, by decide⟩, rfl, bothAxes rfl rfl, rfl, .v, moving_inMotion _ _⟩, rfl, rfl,
    bothAxes rfl rfl⟩
theorem witness_HaltHoldsAndDiscards :
    (rest.dvc.state ≠ .halted ∧ rest.dvc.state ≠ .lockout ∧ (∀ a, rest.axisHeldLaw a) ∧ rest.shotLaw ∧ rest.takesRequests
        ∧ rest.dvc.haltLine = false ∧ rest.dsl.selected.get .h ≠ .hold)
      ∧ ((diverted .halted .halt).takesRequests ∧ (diverted .halted .halt).dvc.state = .halted)
      ∧ ({ rest with dvc := { rest.dvc with haltLine := true } } : State).dvc.haltLine = true
      ∧ ((diverted .lockout .halt).dvc.haltLine = false ∧ (diverted .lockout .halt).dvc.state = .lockout) :=
  ⟨⟨by decide, by decide, rest_heldLaw, ⟨by decide, fun h => (nomatch h), fun _ h => (nomatch h)⟩, rest_takes, rfl, by decide⟩,
    ⟨⟨rfl, by decide⟩, rfl⟩, rfl, rfl, rfl⟩
theorem witness_ClearAcknowledgesTheFault :
    rest.takesRequests ∧ (diverted .lockout .halt).dvc.state = .lockout ∧ (rest.dvc.state ≠ .lockout ∧ rest.dvc.state ≠ .critical)
      ∧ ((critical false none).takesRequests ∧ (critical false none).dvc.state = .critical
        ∧ (∀ a c, (critical false none).dvc.report.get a ≠ .fault c) ∧ ∀ a, (critical false none).dvc.fresh.get a = true) :=
  ⟨rest_takes, rfl, ⟨by decide, by decide⟩, ⟨rfl, by decide⟩, rfl, bothAxes (fun _ h => (nomatch h)) (fun _ h => (nomatch h)),
    bothAxes rfl rfl⟩
theorem witness_ResumeRefusesOrRestarts :
    (rest.takesRequests ∧ rest.dvc.state = .run)
      ∧ (let s : State := { heldWith aContext with scs := burning.scs };
        s.takesRequests ∧ s.dvc.state = .held ∧ s.scs.burn ≠ none
          ∧ ∃ c n, s.dvc.ordinary = some c ∧ c.recoverable = true ∧ c.target = some n)
      ∧ (let s : State := { critical true (some 63) with scs := burning.scs };
        s.takesRequests ∧ s.dvc.state = .critical ∧ s.scs.burn ≠ none
          ∧ ∃ c n, s.dvc.critical = some c ∧ c.cleared = true ∧ c.priorState = .run ∧ c.context.target = some n)
      ∧ ((heldWith aContext).takesRequests ∧ (heldWith aContext).dvc.state = .held ∧ (heldWith aContext).scs.burn = none
        ∧ (heldWith aContext).dvc.ordinary = some aContext ∧ aContext.recoverable = true ∧ aContext.target = some 63
        ∧ aContext.part = some (at_ .measure).part) :=
  ⟨⟨rest_takes, rfl⟩, ⟨⟨rfl, by decide⟩, rfl, by decide, _, _, rfl, rfl, rfl⟩,
    ⟨⟨rfl, by decide⟩, rfl, by decide, _, _, rfl, rfl, rfl, rfl⟩, ⟨rfl, by decide⟩, rfl, rfl, rfl, rfl, rfl, rfl⟩
theorem witness_DiversionsEndWithoutAPointing :
    (let c := { aContext with target := none, part := none };
      (heldWith c).takesRequests ∧ (heldWith c).osc.mode = .stopped ∧ (heldWith c).dvc.state = .held
        ∧ (heldWith c).dvc.ordinary = some c ∧ c.target = none ∧ c.part = none ∧ (heldWith c).dvc.critical = none)
      ∧ ((diverted .halted .halt).takesRequests ∧ (diverted .halted .halt).osc.mode = .stopped
        ∧ (diverted .halted .halt).dvc.haltLine = false ∧ (diverted .halted .halt).dvc.ordinary = none)
      ∧ rest.dvc.state = .run
      ∧ ((heldWith aContext).takesRequests ∧ (heldWith aContext).osc.mode = .stopped ∧ (heldWith aContext).dvc.ordinary = some aContext
        ∧ (heldWith aContext).dvc.critical = none ∧ aContext.part = some (at_ .measure).part
        ∧ (at_ .measure).part.kind = .scheduled ∧ (heldWith aContext).entries[63]? = some (inState .active)
        ∧ (inState .active).pendingDef = none ∧ (inState .active).definition.periodic = true
        ∧ (inState .active).misses < (heldWith aContext).station.n.missLimit) :=
  ⟨⟨⟨rfl, by decide⟩, rfl, rfl, rfl, rfl, rfl, rfl⟩, ⟨⟨rfl, by decide⟩, rfl, rfl, rfl⟩, rfl,
    ⟨rfl, by decide⟩, rfl, rfl, rfl, rfl, rfl, rfl, rfl, rfl, by decide⟩
theorem witness_RestartStopsAndWarms :
    (let s := restWith 63 (inState .spent);
      s.takesRequests ∧ s.dvc.state ≠ .lockout ∧ s.restarting = false ∧ s.shotReserved ∧ (∀ a, (s.axis a).inMotion = false)
        ∧ s.pen.pointing = none ∧ s.dvc.ordinary = none ∧ s.dvc.critical = none ∧ s.entries[63]? = some (inState .spent))
      ∧ ((diverted .stopping .restart).takesRequests ∧ (diverted .stopping .restart).restarting = true)
      ∧ (let s := moving .nobody
        s.takesRequests ∧ s.dvc.state ≠ .lockout ∧ s.restarting = false ∧ s.dvc.state.holds = false
          ∧ (∀ a, (s.latestRaw a).isSome) ∧ s.dsl.restartHold = both false ∧ ∃ a, (s.axis a).inMotion = true ∧ (s.axis a).s ≠ 0) :=
  ⟨⟨⟨rfl, by decide⟩, by decide, rfl, fun h => (nomatch h), bothAxes rfl rfl, rfl, rfl, rfl, rfl⟩, ⟨⟨rfl, by decide⟩, rfl⟩,
    ⟨rfl, by decide⟩, by decide, rfl, rfl, bothAxes rfl rfl, rfl, .h, moving_inMotion _ _⟩
theorem witness_JoggingGrantsAndEndsALease :
    rest.takesRequests ∧ rest.dvc.state ≠ .lockout ∧ burning.scs.burn ≠ none
      ∧ ((flying (at_ .slew)).scs.burn = none ∧ (flying (at_ .slew)).pen.pointing ≠ none)
      ∧ ((diverted .held .pause).scs.burn = none ∧ (diverted .held .pause).pen.pointing = none
        ∧ (diverted .held .pause).dvc.state ≠ .run)
      ∧ (rest.dvc.state = .run ∧ rest.scs.burn = none ∧ rest.pen.pointing = none ∧ (∀ a, (rest.axis a).motion = .still)
        ∧ (∀ a, rest.dsl.selected.get a ≠ .hold) ∧ (∀ a, (rest.latestRaw a).isSome) ∧ rest.dsl.restartHold = both false)
      ∧ (let s : State := { moving .jog with dsl := { rest.dsl with jog := .leased 1 { h := 8192, v := -8192 } } };
        s.takesRequests ∧ s.dsl.jog = .leased 1 { h := 8192, v := -8192 } ∧ s.dvc.state = .run ∧ s.pen.pointing = none
          ∧ (∀ a, (s.latestRaw a).isSome) ∧ s.dsl.restartHold = both false ∧ ∃ a, (s.axis a).inMotion = true ∧ (s.axis a).s ≠ 0)
      ∧ ∀ n speed, rest.dsl.jog ≠ .leased n speed :=
  ⟨rest_takes, by decide, by decide, ⟨rfl, by decide⟩, ⟨rfl, rfl, by decide⟩,
    ⟨rfl, rfl, rfl, bothAxes rfl rfl, bothAxes (by decide) (by decide), bothAxes rfl rfl, rfl⟩,
    ⟨⟨rfl, by decide⟩, rfl, rfl, rfl, bothAxes rfl rfl, rfl, .h, moving_inMotion _ _⟩, fun _ _ h => (nomatch h)⟩
theorem witness_BurnsNeedTheirSequence :
    rest.takesRequests ∧ (diverted .lockout .halt).dvc.state = .lockout ∧ rest.dvc.state ≠ .lockout ∧ (0 < 1 ∧ 4 < 5)
      ∧ (1 ≤ 1 ∧ 1 ≤ 4) ∧ burning.scs.burn ≠ none ∧ (rest.scs.burn = none ∧ rest.scs.guard ≠ 4)
      ∧ ((slotted .blank).scs.guard = 4 ∧ ((2048 : Int) < -2048 ∨ (2047 : Int) < 2048))
      ∧ ((slotted .spoiled).scs.guard = 4 ∧ (slotted .spoiled).scs.burn = none ∧ 0 = (axisCode .h).toNat
        ∧ ¬(1 < 0 ∨ 31 < 31 ∨ (2047 : Int) < -2048 ∨ (2047 : Int) < 2047)
        ∧ ((slotted .spoiled).scs.slots.get .h).getD 31 .blank ≠ .blank)
      ∧ (let s : State := { slotted .blank with apg := (moving .nobody).apg };
        (s.scs.slots.get .h).getD 31 .blank = .blank ∧ ∃ b, (s.axis b).inMotion = true)
      ∧ ((slotted .blank).pen.pointing = none ∧ (slotted .blank).dsl.jog = .none ∧ ∀ b, ((slotted .blank).axis b).inMotion = false)
      ∧ (burning.AtRest ∧ burning.scs.burn = some aBurn ∧ CellRead.value (-2048) = .value aBurn.value
        ∧ CellRead.unreadable ≠ .value aBurn.value) :=
  ⟨rest_takes, rfl, by decide, by decide, by decide, by decide, ⟨rfl, by decide⟩, ⟨rfl, by decide⟩,
    ⟨rfl, rfl, rfl, by decide, by decide⟩, ⟨by decide, .h, rfl⟩, ⟨rfl, rfl, bothAxes rfl rfl⟩,
    ⟨rfl, rfl, rfl, rfl, rfl, rfl, rfl, rfl, bothAxes rfl rfl, bothAxes rfl rfl⟩, rfl, rfl, by decide⟩

theorem witness_StoppingDistance : 0 < 1 ∧ 1 ≤ 1 ∧ 1 < 16383 := by decide
theorem witness_MovingAxisObeysTheSpeedRule :
    let r := onTheWay 1000000 .pointing
    r.motion = .moving ∧ r.p = some 1000000 ∧ r.setpoint = some 1005000 ∧ 0 < 1 ∧ 0 < 1 ∧ 0 < 1
      ∧ ((0 : Int) ≤ 1005000 ∧ (1005000 : Int) < 16777216 ∧ (0 : Int) ≤ 1000000 ∧ (1000000 : Int) < 16777216)
      ∧ remaining .h 1000000 1005000 ≠ 0 ∧ 0 < r.vmax ∧ 0 < r.acc ∧ r.s ≤ r.vmax
      ∧ stopDistance r.acc r.s ≤ (remaining .h 1000000 1005000).natAbs ∧ r.dir = dirOf (remaining .h 1000000 1005000) := by decide
theorem witness_MovingAxisObeysTheSpeedRule_arrives :
    let r := { onTheWay 0 .pointing with setpoint := some 64, s := 0 }
    r.motion = .moving ∧ r.p = some 0 ∧ r.setpoint = some 64 ∧ remaining .h 0 64 ≠ 0 ∧ ¬(0 < r.s)
      ∧ (r.period .h 8192 64 8192).arrives = true
      ∧ ((onTheWay 1000000 .pointing).period .h 8192 64 8192).arrives = false := by decide
theorem witness_RetargetsStopsAndBraking :
    let r := { onTheWay 16777215 .pointing with motion := .braking, s := 64 }
    r.motion = .braking ∧ 0 < r.s ∧ 0 < r.acc ∧ r.p = some 16777215 ∧ ((0 : Int) ≤ 16777215 ∧ (16777215 : Int) < 16777216)
      ∧ stopDistance r.acc r.s < 8388608 ∧ r.s ≤ r.acc ∧ r.setpoint = some 16782215 ∧ (16782215 : Int) ≠ 16777215
      ∧ ({ r with setpoint := some 16777215 } : AxisRec).setpoint = r.p
      ∧ ({ r with s := 65 } : AxisRec).acc < ({ r with s := 65 } : AxisRec).s := by decide
theorem witness_SpotResultsAndSearchOffsets : (0 : Int) ≤ 0 := by decide
theorem noCorrection (a : Axis) (n : Nat) : effectiveCorrection rest.scs a n = 0 := by
  have e : ∀ a, (rest.scs.slots.get a).getD n .blank = .blank := by
    intro a
    have : rest.scs.slots.get a = List.replicate 32 .blank := by cases a <;> rfl
    rw [this]
    simp only [List.getD_eq_getElem?_getD, List.getElem?_replicate]
    split <;> rfl
  have f : ∀ a, (rest.scs.soft.get a).getD n none = none := by intro a; cases a <;> exact soft_none n
  simp only [effectiveCorrection, e, f]
  rfl
theorem witness_ReductionsInvertEachOther :
    ((0 : Int) ≤ 16777215 ∧ (16777215 : Int) < 16777216 ∧ (0 : Int) ≤ 1048576 ∧ (1048576 : Int) < 16777216
        ∧ (∀ a n, effectiveCorrection rest.scs a n = 0)
        ∧ (inverseReduction rest 16777215 1048576 0 0).limited = false ∧ rest.station.n.vMin ≤ rest.station.n.vMax
        ∧ 0 ≤ (inverseReduction rest 16777215 1048576 0 0).v ∧ (inverseReduction rest 16777215 1048576 0 0).v < 16777216)
      ∧ (31 ≤ 31 ∧ workedTable[31]? = some { s := 4096, k := 0 } ∧ workedTable[31 + 1]? = some { s := 4096, k := 0 } ∧ (0 : Int) ≤ 262143
        ∧ (262143 : Int) < 262144) := by
  refine ⟨⟨by decide, by decide, by decide, by decide, noCorrection, ?_⟩, ?_⟩ <;> decide
theorem witness_InterpolationOfAHistory :
    let hist : List Sample := [{ time := 0, raw := 16777215 }, { time := 800, raw := 0 }]
    hist.Pairwise (fun x y => x.time < y.time) ∧ { time := 0, raw := 16777215 } ∈ hist
      ∧ hist[0]? = some { time := 0, raw := 16777215 } ∧ hist[0 + 1]? = some { time := 800, raw := 0 } ∧ (0 : Int) < 1
      ∧ (1 : Int) < 800 ∧ hist.head? = some { time := 0, raw := 16777215 } ∧ (-1 : Int) < 0
      ∧ hist.getLast? = some { time := 800, raw := 0 } ∧ (800 : Int) < 801 := by decide

/-- A state as a frame of the axis port finds it. -/
def axisFrameAt (s : State) (us : Nat) : State :=
  { s.advanceTo us with link := { (s.advanceTo us).link with rxAxis := [] } }

/-- A state as a frame of the sensor port finds it. -/
def sensorFrameAt (s : State) (us : Nat) : State :=
  { s.advanceTo us with link := { (s.advanceTo us).link with rxSensor := [] } }

theorem axisFrame_rest : (axisFrameAt rest 0).AtRest := rest_atRest
theorem sensorFrame_rest : (sensorFrameAt rest 0).AtRest := rest_atRest
theorem axisFrame_flight (p : Pointing) (h : p.frozen = false) : (axisFrameAt (flying p) 0).InFlight p :=
  ⟨rfl, rfl, rfl, h, rfl, rfl, rfl, notHeld, bothAxes rfl rfl⟩
theorem sensorFrame_flight (p : Pointing) (h : p.frozen = false) : (sensorFrameAt (flying p) 0).InFlight p :=
  ⟨rfl, rfl, rfl, h, rfl, rfl, rfl, notHeld, bothAxes rfl rfl⟩
theorem sensorFrame_mayEnd (p : Pointing) (h : p.frozen = false) (t : p.target = 63) :
    (sensorFrameAt (flying p) 0).MayEnd p :=
  ⟨sensorFrame_flight p h, bothAxes rfl rfl, by rw [t]; rfl⟩
theorem sensorFrame_shot (p : Pointing) (h : p.frozen = false) (t : p.target = 63) :
    (sensorFrameAt (shooting p 799) 0).MayEnd p :=
  ⟨⟨rfl, rfl, rfl, h, rfl, rfl, rfl, notHeld, bothAxes rfl rfl⟩, bothAxes rfl rfl, by rw [t]; rfl⟩

/-- The part at rest with a direction feed that is one H sample short of its next DIRECTION. -/
def feeding (count : Nat) : State :=
  { rest with
    station := { coldStation with n := { coldStation.n with feedDiv := 4 } }
    reports := { rest.reports with feedCount := count } }

theorem witness_AngleFramesFillTheHistory :
    (∃ y, ((axisFrameAt rest 0).scu.history.get .h).getLast? = some y ∧ (-50 : Int) ≤ y.time)
      ∧ ((axisFrameAt State.reset 0).scu.history.get .h = [] ∧ (axisFrameAt State.reset 0).dsl.selected = both .hold
        ∧ (axisFrameAt State.reset 0).dsl.jog = .none ∧ (axisFrameAt State.reset 0).dvc.state ≠ .stopping
        ∧ (axisFrameAt State.reset 0).pen.shot = none ∧ (axisFrameAt State.reset 0).apg.settle = none
        ∧ (axisFrameAt State.reset 0).station.n.feedDiv = 0)
      ∧ ((∃ y, ((axisFrameAt rest 0).scu.history.get .h).getLast? = some y ∧ y.time < (-49 : Int)) ∧ (axisFrameAt rest 0).AtRest
        ∧ (axisFrameAt rest 0).station.n.feedDiv = 0)
      ∧ ((axisFrameAt (feeding 2) 0).AtRest ∧ (axisFrameAt (feeding 2) 0).station.n.feedDiv ≠ 0
        ∧ (axisFrameAt (feeding 2) 0).reports.feedCount + 1 ≠ (axisFrameAt (feeding 2) 0).station.n.feedDiv)
      ∧ ((axisFrameAt (feeding 3) 0).reports.feedCount + 1 = (axisFrameAt (feeding 3) 0).station.n.feedDiv
        ∧ (axisFrameAt (feeding 3) 0).latestRaw .v = some 6000000) :=
  ⟨⟨_, rfl, by decide⟩, ⟨rfl, rfl, rfl, by decide, rfl, rfl, rfl⟩, ⟨⟨_, rfl, by decide⟩, axisFrame_rest, rfl⟩,
    ⟨⟨rfl, rfl, rfl, rfl, rfl, rfl, rfl, rfl, bothAxes rfl rfl, bothAxes rfl rfl⟩, by decide, by decide⟩, by decide, rfl⟩
theorem witness_DriveStatusFramesReport :
    (axisFrameAt rest 0).AtRest
      ∧ (let s : State := { rest with dvc := { rest.dvc with report := both (.fault .encoder) } };
        (axisFrameAt s 0).AtRest ∧ (axisFrameAt s 0).dvc.report.get .v = .fault .encoder)
      ∧ (let s : State := { State.reset with dvc := { State.reset.dvc with state := .lockout, lockoutFaults := 255 } };
        (axisFrameAt s 0).dvc.state = .lockout ∧ (axisFrameAt s 0).dsl.selected = both .hold ∧ (axisFrameAt s 0).dsl.jog = .none
          ∧ (axisFrameAt s 0).dvc.report.get .h ≠ .fault .stall) :=
  ⟨axisFrame_rest, ⟨⟨rfl, rfl, rfl, rfl, rfl, rfl, rfl, rfl, bothAxes rfl rfl, bothAxes rfl rfl⟩, rfl⟩, rfl, rfl, rfl, by decide⟩
theorem witness_FaultsLeadToCriticalOrLockout :
    ((∀ b, (axisFrameAt rest 0).axisHeldLaw b) ∧ (axisFrameAt rest 0).dvc.report.get .h ≠ .fault .stall
        ∧ ((axisFrameAt rest 0).dvc.state ≠ .critical ∧ (axisFrameAt rest 0).dvc.state ≠ .lockout
          ∧ (axisFrameAt rest 0).restarting = false) ∧ (axisFrameAt rest 0).station.criticalEnable = true)
      ∧ ({ rest with station := { coldStation with criticalEnable := false } } : State).station.criticalEnable = false
      ∧ ((∀ b, (axisFrameAt (critical false none) 0).axisHeldLaw b)
        ∧ (axisFrameAt (critical false none) 0).dvc.report.get .h ≠ .fault .stall
        ∧ (axisFrameAt (critical false none) 0).dvc.state = .critical ∧ (axisFrameAt (critical false none) 0).dsl.selected = both .hold
        ∧ (axisFrameAt (critical false none) 0).pen.pointing = none ∧ (axisFrameAt (critical false none) 0).dsl.jog = .none
        ∧ (axisFrameAt (critical false none) 0).dvc.cause.axis = some .h
        ∧ ∃ r, (axisFrameAt (critical false none) 0).dvc.critical = some r ∧ r.cleared = false)
      ∧ (axisFrameAt (critical true none) 0).dvc.cause.axis ≠ some .v
      ∧ (State.reset.axis .h).motion = .held
      ∧ ((rest.axis .h).motion ≠ .held ∧ (∀ b, rest.axisHeldLaw b) ∧ (∀ f, rest.dvc.report.get .h ≠ .fault f)
        ∧ rest.dvc.state ≠ .critical ∧ rest.dvc.state ≠ .lockout ∧ rest.restarting = false)
      ∧ ((∀ b, (axisFrameAt (flying (at_ .measure)) 0).axisHeldLaw b)
        ∧ (axisFrameAt (flying (at_ .measure)) 0).pen.pointing = some (at_ .measure)
        ∧ (axisFrameAt (flying (at_ .measure)) 0).dvc.report.get .h ≠ .fault .stall
        ∧ (axisFrameAt (flying (at_ .measure)) 0).dvc.state = .run) :=
  ⟨⟨fun b => by cases b <;> exact heldLaw_of _ _ (by decide) (by decide) rfl, by decide, ⟨by decide, by decide, rfl⟩, rfl⟩, rfl,
    ⟨reset_heldLaw _ rfl rfl rfl, by decide, rfl, rfl, rfl, rfl, rfl, _, rfl, rfl⟩, by decide, rfl,
    ⟨by decide, rest_heldLaw, fun _ h => (nomatch h), by decide, by decide, rfl⟩,
    fun b => by cases b <;> exact heldLaw_of _ _ (by decide) (by decide) rfl, rfl, by decide, rfl⟩

/-- One qualifying spot, none, and two near-equal ones. -/
def oneSpot : List Spot := [{ dx := 30, dy := -30, intensity := 4095 }]
def nearSpots : List Spot := [{ dx := 30, dy := -30, intensity := 4095 }, { dx := -30, dy := 30, intensity := 4095 }]

theorem witness_SpotFramesBeforeTheLock :
    (sensorFrameAt rest 0).AtRest
      ∧ (sensorFrameAt (flying (at_ .slew)) 0).InFlight (at_ .slew)
      ∧ ((sensorFrameAt (flying (at_ .look)) 0).InFlight (at_ .look) ∧ (∃ x, (at_ .look).settleTime = some x ∧ x < (-99 : Int))
        ∧ spotResult aDefinition coldStation.n.ambig oneSpot = .chosen { dx := 30, dy := -30 })
      ∧ (¬∃ x, (at_ .acquire).settleTime = some x ∧ x < (-100 : Int))
      ∧ (spotResult aDefinition coldStation.n.ambig nearSpots = .ambiguous
        ∧ (flying (at_ .acquire)).squ.ambiguity + 1 ≠ coldStation.n.ambigLimit)
      ∧ ((sensorFrameAt (flying (at_ .acquire)) 0).InFlight (at_ .acquire)
        ∧ spotResult aDefinition coldStation.n.ambig [] = .noCandidate
        ∧ (flying (at_ .acquire)).squ.acquire + 1 ≠ coldStation.n.acqFrames)
      ∧ ({ (flying (at_ .acquire)).squ with acquire := 1 } : Squ).acquire + 1 = coldStation.n.acqFrames
      ∧ (coldStation.n.searchLegs ≤ ({ at_ .look with searchLeg := 12 } : Pointing).searchLeg
        ∧ (sensorFrameAt (flying { at_ .look with searchLeg := 12 }) 0).MayEnd { at_ .look with searchLeg := 12 }) :=
  ⟨sensorFrame_rest, sensorFrame_flight _ rfl, ⟨sensorFrame_flight _ rfl, ⟨_, rfl, by decide⟩, by decide⟩,
    fun ⟨_, h, k⟩ => by cases h; exact absurd k (by decide), by decide, ⟨sensorFrame_flight _ rfl, by decide, by decide⟩, by decide,
    by decide, sensorFrame_mayEnd _ rfl rfl⟩
theorem witness_SpotFramesBeforeTheLock_locking :
    (sensorFrameAt (flying (at_ .locking)) 0).InFlight (at_ .locking)
      ∧ (let squ : Squ := { zeroSqu with lock := 2, previous := some { dx := -170, dy := 170 } };
        squ.lock ≠ 0 ∧ -coldStation.n.lockTol ≤ (30 : Int) - (-170) ∧ (30 : Int) - (-170) ≤ coldStation.n.lockTol
          ∧ squ.lock + 1 = coldStation.n.lockN)
      ∧ (let squ : Squ := { zeroSqu with lock := 2, previous := some { dx := -171, dy := 170 } };
        coldStation.n.lockTol < (30 : Int) - (-171) ∧ squ.lock ≠ 0)
      ∧ (at_ .locking).source = .acquire ∧ coldStation.n.acqFrames ≠ 1 :=
  ⟨sensorFrame_flight _ rfl, by decide, by decide, rfl, by decide⟩
theorem witness_SpotFramesOnTheTarget :
    ((sensorFrameAt (flying (at_ .centre)) 0).InFlight (at_ .centre)
        ∧ spotResult aDefinition coldStation.n.ambig oneSpot = .chosen { dx := 30, dy := -30 }
        ∧ (-coldStation.n.aimTol ≤ (30 : Int) ∧ (30 : Int) ≤ coldStation.n.aimTol ∧ -coldStation.n.aimTol ≤ (-30 : Int))
        ∧ (flying (at_ .centre)).pen.shot = none ∧ (flying (at_ .centre)).reports.queue.length < 32)
      ∧ ((sensorFrameAt (flying { at_ .follow with track := some 0, dwell := some 1 }) 0).InFlight
          { at_ .follow with track := some 0, dwell := some 1 })
      ∧ (spotResult aDefinition coldStation.n.ambig [] = .noCandidate
        ∧ (flying (at_ .measure)).squ.loss + 1 ≠ coldStation.n.lossN
        ∧ ({ zeroSqu with loss := 3 } : Squ).loss + 1 = coldStation.n.lossN
        ∧ (sensorFrameAt (flying (at_ .measure)) 0).MayEnd (at_ .measure))
      ∧ (spotResult aDefinition coldStation.n.ambig nearSpots = .ambiguous
        ∧ ({ zeroSqu with ambiguity := 7 } : Squ).ambiguity + 1 = coldStation.n.ambigLimit) :=
  ⟨⟨sensorFrame_flight _ rfl, by decide, by decide, rfl, by decide⟩, sensorFrame_flight _ rfl,
    ⟨by decide, by decide, by decide, sensorFrame_mayEnd _ rfl rfl⟩, by decide⟩
theorem witness_RangeAnswersAndRetries :
    (∀ k, (sensorFrameAt rest 0).pen.shot ≠ some { id := 5, stage := .awaitingRange k }) ∧ (sensorFrameAt rest 0).AtRest
      ∧ ((sensorFrameAt (shooting { at_ .measure with attempts := 2 } 799) 0).MayEnd { at_ .measure with attempts := 2 }
        ∧ (sensorFrameAt (shooting { at_ .measure with attempts := 2 } 799) 0).pen.shot
            = some { id := 5, stage := .awaitingRange 799 }
        ∧ ({ at_ .measure with attempts := 2 } : Pointing).attempts ≤ coldStation.n.shotRetry
        ∧ (sensorFrameAt (shooting { at_ .measure with attempts := 2 } 799) 0).pen.retriesClosed = false)
      ∧ (coldStation.n.shotRetry < ({ at_ .measure with attempts := 3 } : Pointing).attempts
        ∧ (sensorFrameAt (shooting { at_ .measure with attempts := 3 } 799) 0).MayEnd { at_ .measure with attempts := 3 })
      ∧ (interpolate .h (rest.scu.history.get .h) (-51) = .stale ∧ interpolate .h (rest.scu.history.get .h) (-49) = .waits
        ∧ interpolate .v (rest.scu.history.get .v) (-49) ≠ .stale)
      ∧ ((shooting (at_ .measure) 799).MayEnd (at_ .measure)
        ∧ (shooting (at_ .measure) 799).pen.shot = some { id := 5, stage := .awaitingRange 799 })
      ∧ ∀ j k, rest.pen.shot ≠ some { id := j, stage := .awaitingRange k } :=
  ⟨fun _ h => (nomatch h), sensorFrame_rest, ⟨sensorFrame_shot _ rfl rfl, rfl, by decide, rfl⟩,
    ⟨by decide, sensorFrame_shot _ rfl rfl⟩, by decide, ⟨shooting_mayEnd _ _ rfl rfl, rfl⟩, fun _ _ h => (nomatch h)⟩

/-- A capture that waits for both axes. -/
def aCapture (distance : Int) : Capture := { time := -50, distance := distance, strength := 255, found := both none }

/-- A shot in AWAITING_ANGLES. -/
def capturing (p : Pointing) (distance : Int) : State :=
  { flying p with pen := { (flying p).pen with shot := some { id := 5, stage := .awaitingAngles (aCapture distance) } } }

theorem capturing_mayEnd (p : Pointing) (d : Int) (h : p.frozen = false) (t : p.target = 63) :
    (capturing p d).MayEnd p :=
  ⟨⟨rfl, rfl, rfl, h, rfl, rfl, rfl, notHeld, bothAxes rfl rfl⟩, bothAxes rfl rfl, by rw [t]; rfl⟩
theorem witness_CapturesMakeRecords :
    (let p : Pointing := { at_ .measure with frozenCopy := { aDefinition with d0 := 5000, prism := 0 } };
      (capturing p 5002).MayEnd p ∧ (capturing p 5002).pen.shot = some { id := 5, stage := .awaitingAngles (aCapture 5002) }
        ∧ p.frozenCopy.d0 ≠ 0 ∧ p.frozenCopy.kind ≠ .track ∧ p.frozenCopy.dtol < (5002 : Int) - p.frozenCopy.d0
        ∧ ¬(p.frozenCopy.dtol < (5001 : Int) - p.frozenCopy.d0))
      ∧ (let p : Pointing := { at_ .measure with frozenCopy := { aDefinition with kind := .track, dwell := 1000 } };
        (capturing p 0).MayEnd p ∧ p.frozenCopy.kind = .track ∧ p.frozenCopy.d0 = 0 ∧ p.phase = .measure ∧ p.followCount = 0
          ∧ some p.frozenCopy.dwell ≠ some 0)
      ∧ ((sensorFrameAt (shooting (at_ .measure) 799) 0).pen.shot = some { id := 5, stage := .awaitingRange 799 }
        ∧ interpolate .h (sensorFrameAt (shooting (at_ .measure) 799) 0).scu.history.h (-50) = .value 1000000
        ∧ interpolate .v (sensorFrameAt (shooting (at_ .measure) 799) 0).scu.history.v (-50) = .value 6000000) :=
  ⟨⟨capturing_mayEnd _ _ rfl rfl, rfl, by decide, by decide, by decide, by decide⟩,
    ⟨capturing_mayEnd _ _ rfl rfl, rfl, rfl, rfl, rfl, by decide⟩, rfl, by decide, by decide⟩
theorem witness_TiltFramesAndStaleSources :
    (sensorFrameAt rest 0).AtRest ∧ (sensorFrameAt rest 0).dvc.level = .level ∧ ¬(coldStation.n.tiltLimit < 1000)
      ∧ coldStation.n.tiltLimit < 1001 ∧ min (rest.dvc.beyond + 1) 255 < coldStation.n.levelN
      ∧ (let s : State := { rest with dvc := { rest.dvc with level := .lost, within := 8 } };
        (sensorFrameAt s 0).AtRest ∧ (sensorFrameAt s 0).dvc.level = .lost ∧ min (s.dvc.within + 1) 255 < coldStation.n.levelOkN) :=
  ⟨sensorFrame_rest, rfl, by decide, by decide, by decide,
    ⟨rfl, rfl, rfl, rfl, rfl, rfl, rfl, rfl, bothAxes rfl rfl, bothAxes rfl rfl⟩, rfl, by decide⟩
/-- The part at rest with the level monitor in a given state and with both counts one short of `n`. -/
def leveling (l : LevelState) (n : Nat) : State :=
  { rest with dvc := { rest.dvc with level := l, beyond := n - 1, within := n - 1 } }

theorem witness_TiltFramesAndStaleSources_limits :
    (let s := leveling .level coldStation.n.levelN;
      (sensorFrameAt s 0).restarting = false ∧ (sensorFrameAt s 0).AtRest ∧ (sensorFrameAt s 0).dvc.level = .level
        ∧ coldStation.n.levelN = min ((sensorFrameAt s 0).dvc.beyond + 1) 255)
      ∧ (let s := leveling .lost coldStation.n.levelOkN;
        (sensorFrameAt s 0).AtRest ∧ (sensorFrameAt s 0).dvc.level = .lost
          ∧ coldStation.n.levelOkN = min ((sensorFrameAt s 0).dvc.within + 1) 255)
      ∧ (let s := sensorFrameAt { moving .diversion with dvc := { rest.dvc with state := .stopping, cause := .restart } } 0;
        s.restarting = true ∧ (s.axis .h).inMotion = true ∧ (s.latestRaw .h).isSome = true ∧ s.dsl.restartHold.get .h = false) :=
  ⟨⟨rfl, ⟨rfl, rfl, rfl, rfl, rfl, rfl, rfl, rfl, bothAxes rfl rfl, bothAxes rfl rfl⟩, rfl, by decide⟩,
    ⟨⟨rfl, rfl, rfl, rfl, rfl, rfl, rfl, rfl, bothAxes rfl rfl, bothAxes rfl rfl⟩, rfl, by decide⟩, rfl, rfl, rfl, rfl⟩
/-- The TILT frame that fills level_n at rest leads to HELD with its own notice, and the one that fills level_ok_n back to LEVEL
(R151, R152). -/
theorem test_tilt_frames_reach_the_limits :
    gives (.tiltFrame 0 1001 0 false 0) (leveling .level coldStation.n.levelN)
        (fun t => decide (t.dvc.state = .held ∧ t.dvc.cause = .level ∧ (t.notices.record .levelLoss).pending = true)) = true
      ∧ gives (.tiltFrame 0 0 0 false 0) (leveling .lost coldStation.n.levelOkN)
        (fun t => decide (t.dvc.level = .level ∧ (t.notices.record .levelRegained).pending = true)) = true := by
  decide
theorem witness_LevelLossAndReturn :
    (rest.dvc.level = .level ∧ rest.AtRest)
      ∧ (let c := { aContext with target := none, part := none };
        let s : State :=
          { heldWith c with
            dvc := { rest.dvc with state := .held, cause := .level, resumeMode := some .auto, level := .lost, ordinary := some c } };
        s.dvc.level = .lost ∧ s.dvc.state = .held ∧ s.dvc.ordinary = some c ∧ c.target = none ∧ c.part = none
          ∧ s.osc.mode = .stopped ∧ s.pen.pointing = none ∧ s.dsl.jog = .none ∧ s.dsl.selected = both .park
          ∧ s.dsl.restartHold = both false ∧ (∀ a, (s.axis a).motion = .still) ∧ (∀ a, (s.latestRaw a).isSome)
          ∧ s.dvc.resumeMode = some .auto ∧ s.scs.burn = none)
      ∧ (heldWith aContext).dvc.resumeMode = some .command :=
  ⟨⟨rfl, rest_atRest⟩, ⟨rfl, rfl, rfl, rfl, rfl, rfl, rfl, rfl, rfl, rfl, bothAxes rfl rfl, bothAxes rfl rfl, rfl, rfl⟩, rfl⟩
theorem witness_PeriodExpiryStepsThePart :
    (rest.stc.periodUs ≤ 1000 ∧ rest.stc.siteTime + 1000 < 2 ^ 48 ∧ rest.scs.burn = none ∧ rest.station.n.angleSilenceExp ≤ 17
        ∧ (∀ a, rest.dvc.silenceAge.get a + 1000 < 2 ^ rest.station.n.angleSilenceExp) ∧ rest.AtRest ∧ ∀ a, (rest.axis a).s = 0)
      ∧ ((flying (at_ .slew)).InFlight (at_ .slew) ∧ (at_ .slew).phase = .slew ∧ (flying (at_ .slew)).pen.shot = none
        ∧ (flying (at_ .slew)).apg.settle = none ∧ (flying (at_ .slew)).stc.siteTime + 1000 < 2 ^ 48) :=
  ⟨⟨by decide, by decide, rfl, by decide, bothAxes (by decide) (by decide), rest_atRest, bothAxes rfl rfl⟩,
    flying_inFlight _ rfl, rfl, rfl, rfl, by decide⟩
theorem witness_PeriodExpiryAlwaysCounts :
    (burning.scs.burn = some aBurn ∧ aBurn.timer = 399) ∧ ({ aBurn with timer := 398 } : Burn).timer ≠ 399 ∧ rest.scs.burn = none :=
  ⟨⟨rfl, rfl⟩, by decide, rfl⟩
theorem witness_PointingTimersRunOut :
    (flying (at_ .settle)).MayEnd (at_ .settle) ∧ (flying (at_ .follow)).MayEnd (at_ .follow)
      ∧ (flying (at_ .slew)).InFlight (at_ .slew)
      ∧ ((shooting (at_ .follow) 0).InFlight (at_ .follow) ∧ (shooting (at_ .follow) 0).pen.shot ≠ none)
      ∧ (let p := { at_ .follow with dwell := some 1, onAim := true, reservation := true }
        (flying p).InFlight p ∧ p.dwell ≠ some 0 ∧ (flying p).pen.shot = none ∧ p.onAim = true ∧ p.reservation = true) :=
  ⟨flying_mayEnd _ rfl rfl, flying_mayEnd _ rfl rfl, flying_inFlight _ rfl, ⟨shooting_inFlight _ _ rfl, by decide⟩,
    flying_inFlight _ rfl, by decide, rfl, rfl, rfl⟩

/-- H on its way for a pointing in SLEW that V has ended or not. -/
def slewing (vArrived : Bool) : State :=
  let p := { at_ .slew with arrived := { h := false, v := vArrived } }
  { flying p with apg := { axes := rest.apg.axes.set .h (onTheWay 1000000 .pointing), settle := none } }

/-- A settle test one V sample short of its end. -/
def settling (h : Nat) : State :=
  { flying (at_ .settle) with
    apg :=
      { rest.apg with
        settle := some { setpoint := { h := 1000000, v := 6000000 }, win := 40, n := 5, count := { h := h, v := 4 } } } }

theorem slewing_flight (b : Bool) :
    (slewing b).InFlight { at_ .slew with arrived := { h := false, v := b } } :=
  ⟨rfl, rfl, rfl, rfl, rfl, rfl, rfl,
    bothAxes (fun x => nomatch (x : Motion.moving = .held)) (fun x => nomatch (x : Motion.still = .held)), bothAxes rfl rfl⟩
theorem settling_flight (n : Nat) : (settling n).InFlight (at_ .settle) :=
  ⟨rfl, rfl, rfl, rfl, rfl, rfl, rfl, notHeld, bothAxes rfl rfl⟩
theorem witness_ArrivalsAndSettling :
    ((rest.axis .h).motion ≠ .moving ∧ (rest.axis .h).motion ≠ .braking)
      ∧ (((slewing false).axis .h).motion = .moving ∧ ((slewing false).axis .h).setpoint = some 1005000
        ∧ ((slewing false).axis .h).requester = .pointing ∧ ((slewing true).axis .v).setpoint = some 6000000)
      ∧ rest.apg.settle = none
      ∧ ((settling 5).InFlight (at_ .settle) ∧ (at_ .settle).phase = .settle ∧ (settling 5).apg.settle.isSome = true)
      ∧ ((axisFrameAt (settling 5) 0).InFlight (at_ .settle) ∧ (axisFrameAt (settling 5) 0).pen.shot = none
        ∧ (∃ y, (axisFrameAt (settling 5) 0).scu.history.v.getLast? = some y ∧ y.time < (0 : Int))
        ∧ (∃ x, (axisFrameAt (settling 5) 0).apg.settle = some x ∧ x.count.h = x.n
          ∧ (if -x.win ≤ (6000040 : Int) - x.setpoint.v ∧ (6000040 : Int) - x.setpoint.v ≤ x.win then min (x.count.v + 1) x.n else 0)
              = x.n)
        ∧ ∃ x, (axisFrameAt (settling 4) 0).apg.settle = some x ∧ x.count.h ≠ x.n) :=
  ⟨⟨by decide, by decide⟩, ⟨rfl, rfl, rfl, rfl⟩, rfl, ⟨settling_flight _, rfl, rfl⟩,
    ⟨rfl, rfl, rfl, rfl, rfl, rfl, rfl, notHeld, bothAxes rfl rfl⟩, rfl, ⟨_, rfl, by decide⟩, ⟨_, rfl, rfl, rfl⟩, _, rfl, by decide⟩
theorem witness_StopsCompleteAndResume :
    rest.dvc.state ≠ .stopping
      ∧ ((diverted .stopping .pause).dvc.state = .stopping ∧ (diverted .stopping .pause).dvc.cause = .pause
        ∧ (∀ a, ((diverted .stopping .pause).axis a).inMotion = false) ∧ (diverted .stopping .pause).pen.shot = none)
      ∧ (let s := { diverted .stopping .level with dvc := { rest.dvc with state := .stopping, cause := .level, level := .lost } };
        s.dvc.cause = .level ∧ s.dvc.level = .lost ∧ s.dvc.state = .stopping)
      ∧ (rest.osc.mode = .stopped ∧ rest.dvc.state ≠ .held)
      ∧ (let s := { heldWith aContext with dvc := { (heldWith aContext).dvc with resumeMode := some .auto } };
        s.dvc.state = .held ∧ s.dvc.resumeMode = some .auto ∧ s.dvc.level = .level ∧ s.scs.burn = none
          ∧ s.dvc.ordinary = some aContext ∧ aContext.recoverable = true ∧ aContext.target = some 63
          ∧ aContext.part = some (at_ .measure).part)
      ∧ (let s := { moving .diversion with dvc := { rest.dvc with state := .stopping, cause := .restart } };
        s.dvc.state = .stopping ∧ s.dvc.cause = .restart ∧ ∃ a, (s.axis a).inMotion = true) :=
  ⟨by decide, ⟨rfl, rfl, bothAxes rfl rfl, rfl⟩, ⟨rfl, rfl, rfl⟩, ⟨rfl, by decide⟩, ⟨rfl, rfl, rfl, rfl, rfl, rfl, rfl, rfl⟩, rfl,
    rfl, .h, rfl⟩
theorem witness_TransmittersSendInOrder :
    ((ports 8 0).requests.replies = { tag := 0, code := .done, body := [] } :: List.replicate 7 { tag := 0, code := .done, body := [] }
        ∧ (ports 8 0).transmit.controller = none ∧ (ports 8 0).requests.buffer = [])
      ∧ ((ports 8 1).requests.buffer = [{ frame := .wrongLength hd, stamp := 0 }] ∧ (List.replicate 7 (0 : Nat)).length < 8)
      ∧ (rest.requests.replies = [] ∧ (rest.raise .derate none).notices.alertWaits = true
        ∧ (rest.raise .derate none).transmit.controller = none)
      ∧ (ready.requests.replies = [] ∧ ready.notices.alertWaits = false ∧ ready.reports.queue ≠ [] ∧ ready.transmit.controller = none)
      ∧ (let s : State :=
          { rest with
            reports := { rest.reports with direction := some { siteTime := 0, hz := 0, v := 0 } }
            transmit :=
              { rest.transmit with
                controller := some (.direction { siteTime := 0, hz := 0, v := 0 })
                axis := some { axis := .v, mode := .hold, position := 0, speed := 0 }, sensor := some 255, shots := [255] } };
        s.reports.queue = [] ∧ s.reports.direction = some { siteTime := 0, hz := 0, v := 0 } ∧ s.transmit.controller ≠ none
          ∧ s.transmit.axis = some { axis := .v, mode := .hold, position := 0, speed := 0 } ∧ s.transmit.sensor ≠ none
          ∧ s.transmit.shots = 255 :: [])
      ∧ (let s : State :=
          { rest with
            transmit := { rest.transmit with slots := both (some { axis := .h, mode := .position, position := 0, speed := 0 }) } };
        s.transmit.slots.get .h = some { axis := .h, mode := .position, position := 0, speed := 0 } ∧ s.transmit.axis = none
          ∧ s.transmit.sensor = none) :=
  ⟨⟨rfl, rfl, rfl⟩, ⟨rfl, by decide⟩, ⟨rfl, rfl, rfl⟩, ⟨rfl, rfl, by decide, rfl⟩, ⟨rfl, rfl, by decide, rfl, by decide, rfl⟩, rfl, rfl,
    rfl⟩

/-! ### The clauses of step laws 3 and 4, of the loads, halts and diversions -/

theorem ready_entry (n : Nat) : ready.entry n = if n = 63 then inState .due else emptyEntry := by
  have l : ready.entries = (List.replicate 64 emptyEntry).set 63 (inState .due) := rfl
  simp only [State.entry, l, List.getD_eq_getElem?_getD, List.getElem?_set, List.length_replicate, List.getElem?_replicate]
  by_cases h : n = 63
  · subst h; rfl
  · rw [if_neg (fun x => h x.symm), if_neg h]; split <;> rfl
theorem ready_holds (n : Nat) (k : PointingKind) : ¬ready.holdsAt n k := by
  rintro (⟨_, h, _⟩ | ⟨_, _, h, _⟩ | ⟨_, _, h, _⟩) <;> cases h
theorem ready_queueLaw : ready.QueueLaw where
  once := by decide
  apart := fun _ _ => ⟨fun _ h => (nomatch h), fun _ h => (nomatch h), fun _ h => (nomatch h)⟩
  queued := fun n => by
    rw [ready_entry]
    by_cases h : n = 63
    · subst h; exact ⟨fun _ => ⟨rfl, rfl⟩, fun _ => ⟨_, .head _, rfl⟩⟩
    · rw [if_neg h]
      exact ⟨fun ⟨x, m, e⟩ => absurd (e ▸ (by cases m with | head => rfl | tail _ m => nomatch m)) h, fun ⟨e, _⟩ => nomatch e⟩
  active := fun n h => absurd h (ready_holds n _)
  engaged := fun n h => absurd h (ready_holds n _)
  deferred := fun n h => by rw [ready_entry] at h; by_cases e : n = 63 <;> simp only [e, if_true, if_false] at h <;> cases h
  visit :=
    ⟨fun h => (nomatch h), fun _ => ⟨rfl, rfl⟩, fun h => (nomatch h), fun _ h => (nomatch h), fun _ h => (nomatch h),
      fun _ h => (nomatch h), fun _ h => (nomatch h)⟩
theorem witness_TheDueQueueStaysInOrder_law4 : ready.QueueLaw ∧ ∃ t, step { ready with pending := [.stop hd] } = .next t :=
  ⟨ready_queueLaw, _, rfl⟩
theorem witness_CommandedSpeedsStayLawful_law3 :
    let s : State := { moving .pointing with apg := { axes := both (onTheWay 7335032 .pointing), settle := none } }
    s.WindowLaw ∧ (s.axis .v).inMotion = true ∧ (s.axis .v).setpoint = some s.station.n.vMax
      ∧ ∃ t, step (queued s) = .next t :=
  ⟨⟨by decide, fun _ h => (nomatch h), fun x _ h _ => by cases (h : some (7340032 : Int) = some x); decide⟩, rfl, rfl, _, rfl⟩

theorem witness_RequestBytesNameTheirRequests_lengths :
    (∀ n ∈ [0, 2, 240], n ≠ 1) ∧ (6 : Nat) ≠ 5 ∧ (8 : Nat) ≠ 7 ∧ (39 : Nat) ≠ 40 ∧ (72 : Nat) ≠ 71
      ∧ (([] : List Byte).length + 1 < 3 ∧ (([0, 0, 0] : List Byte).length + 1 - 3) % 4 ≠ 0) := by decide
set_option maxRecDepth 4000 in
theorem witness_ReceiversFindFrames_ports :
    (rest.link.rxAxis = [] ∧ rest.link.rxSensor = [] ∧ rest.link.rx .sensor = [])
      ∧ (let inner : List Byte := [0xA5, 0, 1, 0x11]
        (1 : Byte).toNat ≤ 240 ∧ ([0x11] : List Byte).length = (1 : Byte).toNat ∧ ((0 : Byte) ++ (0 : Byte) : BitVec 16) ≠ crc16 inner
          ∧ ([] : List Byte).length < (1 : Byte).toNat + 2)
      ∧ (([] : List Byte).length ≤ 240 ∧ ([] : List Byte).length ≠ 6 ∧ 1 < (2 : Byte).toNat ∧ ((0 : Byte) = 0 ∧ (1 : Byte) ≠ 0)
        ∧ (4 < (5 : Byte).toNat) ∧ ((0x11 : Byte) ≠ 0x30 ∧ (0x11 : Byte) ≠ 0x31))
      ∧ ((List.replicate 29 (0 : Nat)).length ≤ 29 ∧ ([0, 0, 1] : List Byte).length ≠ 3 + 8 * (([0, 0, 1] : List Byte).getD 2 0).toNat)
      ∧ ((0x30 : Byte) ≠ 0x40 ∧ (0x30 : Byte) ≠ 0x41 ∧ (0x30 : Byte) ≠ 0x42) := by decide
set_option maxRecDepth 4000 in
theorem witness_ReceiversFindFrames_split : ∃ t, exec (.badFrame 0 .axis [0xA5, 0x30]) rest = .next t := ⟨_, rfl⟩

theorem flying_heldLaw (p : Pointing) (a : Axis) : (flying p).axisHeldLaw a := by
  have s : Source.aim ≠ .hold := by decide
  have m : Motion.still ≠ .held := by decide
  cases a <;> exact heldLaw_of _ _ s m rfl
theorem witness_HaltHoldsAndDiscards_ends :
    (let p := at_ .measure;
      (flying p).dvc.state = .run ∧ (∀ a, (flying p).axisHeldLaw a) ∧ (flying p).shotLaw ∧ (flying p).pen.pointing = some p
        ∧ (flying p).dvc.ordinary = none ∧ (flying p).dvc.critical = none)
      ∧ (let s := heldWith aContext;
        s.dvc.state = .held ∧ (∀ a, s.axisHeldLaw a) ∧ s.shotLaw ∧ s.pen.pointing = none ∧ s.restarting = false
          ∧ s.dvc.critical = none ∧ s.dvc.ordinary = some aContext ∧ aContext.target = some 63
          ∧ aContext.part = some (at_ .measure).part)
      ∧ (let s := diverted .stopping .restart;
        s.restarting = true ∧ (∀ a, s.axisHeldLaw a) ∧ s.shotLaw ∧ s.pen.pointing = none ∧ s.dvc.ordinary = none
          ∧ s.dvc.critical = none) :=
  ⟨⟨rfl, flying_heldLaw _, ⟨by decide, fun h => (nomatch h), fun _ _ => .inl rfl⟩, rfl, rfl, rfl⟩,
    ⟨rfl, fun a => by cases a <;> exact heldLaw_of _ _ (by decide) (by decide) rfl,
      ⟨by decide, fun h => (nomatch h), fun _ h => (nomatch h)⟩, rfl, rfl, rfl, rfl, rfl, rfl⟩,
    rfl, fun a => by cases a <;> exact heldLaw_of _ _ (by decide) (by decide) rfl,
    ⟨by decide, fun h => (nomatch h), fun _ h => (nomatch h)⟩, rfl, rfl, rfl⟩

/-- CRITICAL, cleared, as left from a given state with a given record and ordinary context. -/
def criticalFrom (x : DvcState) (c : Cause) (m : Option ResumeMode) (context : Context) (o : Option Context) : State :=
  { State.reset with
    dvc :=
      { State.reset.dvc with
        state := .critical, cause := .drive .h .stall, ordinary := o
        critical := some { context := context, priorState := x, priorCause := c, priorResume := m, cleared := true } } }

/-- A context with no target. -/
def noTarget : Context := { aContext with target := none, part := none }

theorem witness_ResumeRefusesOrRestarts_held :
    let c := { aContext with recoverable := false }
    (heldWith c).takesRequests ∧ (heldWith c).osc.mode = .stopped ∧ (heldWith c).dvc.state = .held
      ∧ (heldWith c).dvc.ordinary = some c ∧ c.recoverable = false ∧ c.target = some 63 ∧ c.part = some (at_ .measure).part :=
  ⟨⟨rfl, by decide⟩, rfl, rfl, rfl, rfl, rfl, rfl⟩
theorem witness_ResumeRefusesOrRestarts_critical :
    (let s := criticalFrom .run .none none aContext none;
      s.takesRequests ∧ s.osc.mode = .stopped ∧ s.dvc.state = .critical ∧ s.dvc.critical.map (·.cleared) = some true
        ∧ s.dvc.critical.map (·.context) = some aContext ∧ s.dvc.critical.map (·.priorState) = some .run ∧ s.scs.burn = none
        ∧ (s.axis .h).motion = .held ∧ (s.axis .v).motion = .held)
      ∧ (let s := criticalFrom .run .none none noTarget none;
        s.dvc.critical.map (·.context.target) = some none ∧ s.pen.pointing = none)
      ∧ (criticalFrom .stopping .pause none aContext none).dvc.critical.map (fun r => (r.priorState, r.priorCause))
          = some (.stopping, .pause)
      ∧ (let s := criticalFrom .stopping .level none aContext none;
        s.dvc.critical.map (fun r => (r.priorState, r.priorCause)) = some (.stopping, .level) ∧ s.dvc.level = .level
          ∧ s.scs.burn = none)
      ∧ (let s := criticalFrom .held .pause (some .command) noTarget (some aContext);
        s.dvc.critical.map (fun r => (r.priorState, r.priorResume)) = some (.held, some .command)
          ∧ some ResumeMode.command ≠ some .auto)
      ∧ (let s := criticalFrom .held .level (some .auto) noTarget (some aContext);
        s.dvc.critical.map (fun r => (r.priorState, r.priorResume)) = some (.held, some .auto) ∧ s.dvc.level = .level
          ∧ s.scs.burn = none ∧ s.dvc.ordinary = some aContext ∧ aContext.recoverable = true)
      ∧ (criticalFrom .halted .halt none noTarget none).dvc.critical.map (·.priorState) = some .halted :=
  ⟨⟨⟨rfl, by decide⟩, rfl, rfl, rfl, rfl, rfl, rfl, rfl, rfl⟩, ⟨rfl, rfl⟩, rfl, ⟨rfl, rfl, rfl⟩, ⟨rfl, by decide⟩,
    ⟨rfl, rfl, rfl, rfl, rfl⟩, rfl⟩
theorem witness_DiversionsEndWithoutAPointing_contexts :
    (let c := { aContext with part := some { (at_ .slew).part with kind := .oneOff } };
      (heldWith c).takesRequests ∧ (heldWith c).osc.mode = .stopped ∧ (heldWith c).dvc.state = .held
        ∧ (heldWith c).dvc.critical = none ∧ (heldWith c).dvc.ordinary = some c ∧ c.target = some 63
        ∧ c.part = some { (at_ .slew).part with kind := .oneOff })
      ∧ (let s := criticalFrom .held .pause (some .command) { noTarget with target := some 63 } (some aContext);
        s.takesRequests ∧ s.dvc.state = .critical ∧ s.dvc.haltLine = false ∧ (∃ r, s.dvc.critical = some r ∧ r.cleared = true)
          ∧ s.dvc.ordinary = some aContext ∧ ∀ r, s.dvc.critical = some r → r.context.part = none)
      ∧ (let s := criticalFrom .run .none none aContext none;
        s.dvc.ordinary = none ∧ ∃ r, s.dvc.critical = some r ∧ r.context.target = some 63
          ∧ r.context.part = some (at_ .measure).part)
      ∧ (∀ c, (heldWith noTarget).dvc.ordinary = some c → c.target = none) :=
  ⟨⟨⟨rfl, by decide⟩, rfl, rfl, rfl, rfl, rfl, rfl⟩,
    ⟨⟨rfl, by decide⟩, rfl, rfl, ⟨_, rfl, rfl⟩, rfl, fun _ h => by cases h; rfl⟩, ⟨rfl, _, rfl, rfl, rfl⟩, fun _ h => by cases h; rfl⟩
theorem witness_RestartStopsAndWarms_ends :
    (let s := flying (at_ .measure);
      s.takesRequests ∧ s.dvc.state ≠ .lockout ∧ s.restarting = false ∧ s.shotReserved ∧ (∀ a, (s.axis a).inMotion = false)
        ∧ s.dvc.ordinary = none ∧ s.dvc.critical = none ∧ s.pen.pointing = some (at_ .measure))
      ∧ (let s := heldWith aContext;
        s.takesRequests ∧ s.dvc.state ≠ .lockout ∧ s.restarting = false ∧ s.shotReserved ∧ (∀ a, (s.axis a).inMotion = false)
          ∧ s.pen.pointing = none ∧ s.dvc.critical = none ∧ s.dvc.ordinary = some aContext ∧ aContext.target = some 63
          ∧ aContext.part = some (at_ .measure).part)
      ∧ (∀ r, (criticalFrom .held .pause (some .command) { aContext with part := none } (some aContext)).dvc.critical = some r →
        r.context.part = none)
      ∧ (let s := criticalFrom .run .none none aContext none;
        s.takesRequests ∧ s.dvc.state ≠ .lockout ∧ s.restarting = false ∧ s.shotReserved ∧ (∀ a, (s.axis a).inMotion = false)
          ∧ s.pen.pointing = none ∧ s.dvc.ordinary = none ∧ s.dvc.critical.map (·.context) = some aContext) :=
  ⟨⟨⟨rfl, by decide⟩, by decide, rfl, fun h => (nomatch h), bothAxes rfl rfl, rfl, rfl, rfl⟩,
    ⟨⟨rfl, by decide⟩, by decide, rfl, fun h => (nomatch h), bothAxes rfl rfl, rfl, rfl, rfl, rfl, rfl⟩,
    fun _ h => by cases h; rfl,
    ⟨rfl, by decide⟩, by decide, rfl, fun h => (nomatch h), bothAxes rfl rfl, rfl, rfl, rfl⟩
theorem witness_JoggingGrantsAndEndsALease_moving :
    let s := moving .jog
    s.takesRequests ∧ s.dvc.state = .run ∧ s.scs.burn = none ∧ s.pen.pointing = none ∧ (∀ a, (s.axis a).motion ≠ .held)
      ∧ (∀ a, s.dsl.selected.get a ≠ .hold) ∧ (∀ a, (s.latestRaw a).isSome) ∧ s.dsl.restartHold = both false
      ∧ 0 < max (-(s.effectiveSpeed .h : Int)) (min 1 (s.effectiveSpeed .h))
      ∧ max (-(s.effectiveSpeed .v : Int)) (min (-32768) (s.effectiveSpeed .v)) < 0
      ∧ max (-(s.effectiveSpeed .v : Int)) (min 0 (s.effectiveSpeed .v)) = 0 ∧ ∀ a, (s.axis a).inMotion = true ∧ (s.axis a).s ≠ 0 :=
  ⟨⟨rfl, by decide⟩, rfl, rfl, rfl, bothAxes (fun x => nomatch (x : Motion.moving = .held)) (fun x => nomatch (x : Motion.moving = .held)),
    bothAxes (by decide) (by decide), bothAxes rfl rfl, rfl, by decide, by decide, by decide, moving_inMotion _⟩
theorem witness_ReductionsInvertEachOther_terms :
    coldStation.n.vMin ≤ coldStation.n.vMax ∧ (0 : Int) ≤ 8388607 ∧ (8388607 : Int) ≤ 8388607 ∧ (-1 : Int) < 0
      ∧ (8388607 : Int) < 8388608 ∧ (inverseReduction rest 0 262144 0 0).limited = true := by decide
theorem witness_AngleFramesFillTheHistory_capture :
    (let s := axisFrameAt (capturing (at_ .measure) 0) 0;
      s.InFlight (at_ .measure) ∧ s.apg.settle = none ∧ s.station.n.feedDiv = 0
        ∧ s.pen.shot = some { id := 5, stage := .awaitingAngles (aCapture 0) }
        ∧ (∀ y, (s.scu.history.get .h).getLast? = some y → y.time < (-40 : Int)) ∧ (aCapture 0).found.get .h = none
        ∧ interpolate .h (s.scu.history.h ++ [{ time := -40, raw := 1000010 }]) (aCapture 0).time = .value 1000000
        ∧ interpolate .h (s.scu.history.h ++ [{ time := -40, raw := 1000010 }]) (-39) = .waits ∧ (aCapture 0).found.v = none)
      ∧ ({ aCapture 0 with found := { h := some 0, v := none } } : Capture).found.get .h ≠ none :=
  ⟨⟨⟨rfl, rfl, rfl, rfl, rfl, rfl, rfl, notHeld, bothAxes rfl rfl⟩, rfl, rfl, rfl, fun _ h => by cases h; decide, rfl, by decide,
    by decide, rfl⟩, by decide⟩
theorem witness_FaultsLeadToCriticalOrLockout_restart :
    let s := diverted .stopping .restart
    (∀ b, (axisFrameAt s 0).axisHeldLaw b) ∧ (axisFrameAt s 0).restarting = true ∧ (axisFrameAt s 0).pen.pointing = none
      ∧ (axisFrameAt s 0).dvc.report.get .v ≠ .fault .encoder ∧ (∀ b, s.axisHeldLaw b) ∧ (s.axis .v).motion ≠ .held
      ∧ ∀ f, s.dvc.report.get .v ≠ .fault f :=
  ⟨fun b => by cases b <;> exact heldLaw_of _ _ (by decide) (by decide) rfl, rfl, rfl, by decide,
    fun b => by cases b <;> exact heldLaw_of _ _ (by decide) (by decide) rfl, by decide, fun _ h => (nomatch h)⟩

/-- A pointing in flight with given counters, as a SPOT frame finds it. -/
def counting (p : Pointing) (c : Squ) : State := sensorFrameAt { flying p with squ := c } 0

theorem counting_mayEnd (p : Pointing) (c : Squ) (h : p.frozen = false) (t : p.target = 63) : (counting p c).MayEnd p :=
  ⟨⟨rfl, rfl, rfl, h, rfl, rfl, rfl, notHeld, bothAxes rfl rfl⟩, bothAxes rfl rfl, by rw [t]; rfl⟩
theorem witness_SpotFramesBeforeTheLock_legs :
    ((at_ .look).phase = .look ∧ ({ at_ .look with searchLeg := 11 } : Pointing).searchLeg < coldStation.n.searchLegs)
      ∧ ((counting (at_ .acquire) { zeroSqu with ambiguity := 7 }).MayEnd (at_ .acquire)
        ∧ ({ zeroSqu with ambiguity := 7 } : Squ).ambiguity + 1 = coldStation.n.ambigLimit)
      ∧ ((counting (at_ .locking) { zeroSqu with ambiguity := 7 }).MayEnd (at_ .locking)
        ∧ ({ zeroSqu with ambiguity := 6 } : Squ).ambiguity + 1 ≠ coldStation.n.ambigLimit)
      ∧ (let p := { at_ .locking with source := .search 12, searchLeg := 12 };
        (counting p zeroSqu).MayEnd p ∧ p.source = .search p.searchLeg ∧ coldStation.n.searchLegs ≤ p.searchLeg)
      ∧ (let p := { at_ .locking with source := .search 11, searchLeg := 11 };
        (counting p zeroSqu).InFlight p ∧ p.source = .search p.searchLeg ∧ p.searchLeg < coldStation.n.searchLegs)
      ∧ (let s : State := { flying (at_ .locking) with station := { coldStation with n := { coldStation.n with acqFrames := 1 } } };
        (sensorFrameAt s 0).InFlight (at_ .locking) ∧ (sensorFrameAt s 0).station.n.acqFrames = 1) :=
  ⟨by decide, ⟨counting_mayEnd _ _ rfl rfl, by decide⟩, ⟨counting_mayEnd _ _ rfl rfl, by decide⟩,
    ⟨counting_mayEnd _ _ rfl rfl, by decide⟩, ⟨(counting_mayEnd _ _ rfl rfl).flight, by decide⟩,
    ⟨rfl, rfl, rfl, rfl, rfl, rfl, rfl, notHeld, bothAxes rfl rfl⟩, rfl⟩
theorem witness_SpotFramesOnTheTarget_limits :
    ((counting (at_ .centre) { zeroSqu with centre := 19 }).MayEnd (at_ .centre)
        ∧ ({ zeroSqu with centre := 19 } : Squ).centre + 1 = coldStation.n.centreLimit
        ∧ ¬(-coldStation.n.aimTol ≤ (31 : Int) ∧ (31 : Int) ≤ coldStation.n.aimTol)
        ∧ ({ zeroSqu with centre := 19 } : Squ).loss + 1 ≠ coldStation.n.lossN)
      ∧ (∀ x ∈ [Phase.centre, .measure, .follow], (counting (at_ x) { zeroSqu with ambiguity := 6 }).InFlight (at_ x)
        ∧ ({ zeroSqu with ambiguity := 6 } : Squ).ambiguity + 1 ≠ coldStation.n.ambigLimit) :=
  ⟨⟨counting_mayEnd _ _ rfl rfl, by decide⟩, fun _ _ => ⟨(counting_mayEnd _ _ rfl rfl).flight, by decide⟩⟩

/-- A part in a stop with H on its way for the diversion. -/
def stoppingMoving (c : Cause) (l : LevelState) : State :=
  { moving .diversion with dvc := { rest.dvc with state := .stopping, cause := c, level := l } }

theorem witness_LevelLossAndReturn_loss :
    (let s := { flying (at_ .slew) with apg := (moving .pointing).apg };
      s.dvc.level = .level ∧ (∀ a, (s.latestRaw a).isSome) ∧ s.dsl.restartHold = both false ∧ s.dvc.state = .run
        ∧ ∃ a, (s.axis a).inMotion = true ∧ (s.axis a).s ≠ 0)
      ∧ (let s := shooting { at_ .measure with attempts := 1, reservation := true } 0;
        s.dvc.level = .level ∧ s.dvc.state = .run ∧ ∀ a, (s.axis a).inMotion = false)
      ∧ ((stoppingMoving .pause .level).dvc.level = .level ∧ (stoppingMoving .pause .level).dvc.state = .stopping
        ∧ (stoppingMoving .pause .level).dvc.cause = .pause ∧ (∀ a, ((stoppingMoving .pause .level).latestRaw a).isSome)
        ∧ ∃ a, ((stoppingMoving .pause .level).axis a).inMotion = true)
      ∧ ((heldWith aContext).dvc.state = .held ∧ (diverted .halted .halt).dvc.state.holds = true
        ∧ (stoppingMoving .restart .level).dvc.cause ≠ .pause) :=
  ⟨⟨rfl, bothAxes rfl rfl, rfl, rfl, .h, moving_inMotion .pointing .h⟩, ⟨rfl, rfl, bothAxes rfl rfl⟩,
    ⟨rfl, rfl, rfl, bothAxes rfl rfl, .h, rfl⟩, rfl, rfl, by decide⟩
theorem witness_LevelLossAndReturn_resume :
    let s : State :=
      { heldWith aContext with
        dvc := { (heldWith aContext).dvc with cause := .level, resumeMode := some .auto, level := .lost } }
    s.dvc.level = .lost ∧ s.dvc.state = .held ∧ s.dvc.resumeMode = some .auto ∧ s.scs.burn = none
      ∧ s.dvc.ordinary = some aContext ∧ aContext.recoverable = true ∧ aContext.target = some 63
      ∧ aContext.part = some (at_ .measure).part := ⟨rfl, rfl, rfl, rfl, rfl, rfl, rfl, rfl⟩
theorem witness_PeriodExpiryStepsThePart_timers :
    (∀ p : Pointing, p.frozen = false → (flying p).InFlight p ∧ ∀ a, ((flying p).axis a).motion = .still)
      ∧ (¬(coldStation.n.spotSilence ≤ min (498 + 1) 2000) ∧ coldStation.n.spotSilence ≤ min (499 + 1) 2000)
      ∧ (1498 + 1 < coldStation.n.settleTimeout ∧ coldStation.n.settleTimeout ≤ 1499 + 1 ∧ (flying (at_ .settle)).MayEnd (at_ .settle))
      ∧ (let p := { at_ .follow with dwell := some 1, track := some 1, onAim := true, reservation := true };
        (flying p).MayEnd p ∧ p.dwell = some 1 ∧ (flying p).pen.shot = none ∧ (shooting p 0).pen.shot ≠ none)
      ∧ (let p := { at_ .follow with dwell := some 2, track := some 1, onAim := true, reservation := false };
        (flying p).InFlight p ∧ p.dwell ≠ some 1 ∧ p.track = some 1 ∧ p.onAim = true ∧ (flying p).reports.queue.length < 32)
      ∧ (let p := { at_ .measure with attempts := 2, reservation := true };
        (shooting p 799).MayEnd p ∧ p.attempts ≤ coldStation.n.shotRetry ∧ (shooting p 799).pen.retriesClosed = false
          ∧ coldStation.n.rangeTimeout ≤ 799 + 1 ∧ 798 + 1 < coldStation.n.rangeTimeout ∧ coldStation.n.shotRetry < 3) :=
  ⟨fun p h => ⟨flying_inFlight p h, bothAxes rfl rfl⟩, by decide, ⟨by decide, by decide, flying_mayEnd _ rfl rfl⟩,
    ⟨flying_mayEnd _ rfl rfl, rfl, rfl, by decide⟩, ⟨flying_inFlight _ rfl, by decide, rfl, rfl, by decide⟩,
    ⟨shooting_mayEnd _ _ rfl rfl, by decide, rfl, by decide, by decide, by decide⟩⟩

/-- The cold hold of V in a state of DVC, with a V sample accepted since or not. -/
def coldHeld (x : DvcState) (v : List Sample) (w : Option Waiting) : State :=
  { State.reset with
    scu := { history := { h := [], v := v } }
    apg := { State.reset.apg with axes := State.reset.apg.axes.set .v { coldAxis with waiting := w } }
    dvc := { State.reset.dvc with state := x } }

theorem witness_PeriodExpiryStepsThePart_hold :
    (∀ x v w, (coldHeld x v w).scs.burn = none ∧ (coldHeld x v w).station.n.angleSilenceExp ≤ 17
        ∧ (∀ a, (coldHeld x v w).dvc.silenceAge.get a + 1000 < 2 ^ (coldHeld x v w).station.n.angleSilenceExp)
        ∧ (coldHeld x v w).osc.mode = .stopped ∧ (coldHeld x v w).pen.shot = none ∧ (coldHeld x v w).dsl.jog = .none
        ∧ (coldHeld x v w).pen.pointing = none ∧ (coldHeld x v w).dsl.selected.get .v = .hold
        ∧ ((coldHeld x v w).axis .v).motion = .held)
      ∧ (coldHeld .run [] none).latestRaw .v = none
      ∧ ((coldHeld .lockout [{ time := 0, raw := 6000000 }] none).dvc.state.holds = true
        ∧ (coldHeld .held [] none).dvc.state = .held)
      ∧ ((coldHeld .run [{ time := 0, raw := 6000000 }] none).latestRaw .v = some 6000000
        ∧ ((coldHeld .run [{ time := 0, raw := 6000000 }] none).axis .v).requester = .nobody
        ∧ ((coldHeld .run [] (some { setpoint := 6000001, requester := .pointing })).axis .v).waiting
            = some { setpoint := 6000001, requester := .pointing }) :=
  ⟨fun _ _ _ => ⟨rfl, show 13 ≤ 17 by decide, bothAxes (show 0 + 1000 < 2 ^ 13 by decide) (show 0 + 1000 < 2 ^ 13 by decide), rfl, rfl, rfl, rfl, rfl, rfl⟩, rfl, ⟨rfl, rfl⟩, rfl, rfl, rfl⟩
set_option maxRecDepth 8000 in
/-- R153 and log entry 46: a V axis whose HOLD was taken and let go since the last expiry, so that no HOLD frame was formed at one,
is released with 1,000 added to the age that stood. -/
theorem test_a_short_hold_keeps_the_silence_age :
    let s := coldHeld .run [{ time := 0, raw := 6000000 }] none
    gives (.periodExpiry .unreadable) { s with dvc := { s.dvc with silenceAge := { h := 0, v := 5000 } } }
        (fun t => decide ((t.axis .v).motion = .still ∧ t.dvc.silenceAge.v = 6000 ∧ t.dvc.silenceAge.h = 0)) = true := by decide
theorem witness_PeriodExpiryStepsThePart_silence :
    let s : State := { rest with dvc := { rest.dvc with silenceAge := { h := 131072, v := 0 } } }
    s.AtRest ∧ s.tablesWhole ∧ s.scs.burn = none ∧ s.station.n.angleSilenceExp ≤ 17 ∧ s.stc.siteTime + 1000 < 2 ^ 48
      ∧ s.stc.periodUs ≤ 1000 ∧ 2 ^ s.station.n.angleSilenceExp ≤ s.dvc.silenceAge.get .h + 1000
      ∧ s.dvc.silenceAge.get .v + 1000 < 2 ^ s.station.n.angleSilenceExp ∧ (∀ f, s.dvc.report.get .h ≠ .fault f)
      ∧ ({ s.dvc with report := both (.fault .encoder) } : Dvc).report.get .h = .fault .encoder :=
  ⟨⟨rfl, rfl, rfl, rfl, rfl, rfl, rfl, rfl, bothAxes rfl rfl, bothAxes rfl rfl⟩,
    ⟨rfl, rfl, rfl, rfl, rfl, rfl, rfl, rfl⟩, rfl, by decide, by decide, by decide, by decide,
    by decide, fun _ h => (nomatch h), rfl⟩
theorem witness_PeriodExpiryAlwaysCounts_lease :
    let s : State :=
      { moving .jog with dsl := { rest.dsl with jog := .leased 2 { h := 8192, v := 0 }, selected := both .jog } }
    s.dsl.jog = .leased 2 { h := 8192, v := 0 } ∧ s.dvc.state = .run ∧ s.pen.pointing = none ∧ s.pen.shot = none ∧ s.scs.burn = none
      ∧ s.osc.mode = .stopped ∧ (∀ a, (s.latestRaw a).isSome) ∧ (∀ a, (s.axis a).motion ≠ .held) ∧ s.dsl.selected = both .jog
      ∧ s.station.n.angleSilenceExp ≤ 17 ∧ (∀ a, s.dvc.silenceAge.get a + 1000 < 2 ^ s.station.n.angleSilenceExp)
      ∧ ((s.axis .h).period .h 8192 64 8192).axis.motion = .moving ∧ 1 < 2 ∧ 1 ≤ 1 :=
  ⟨rfl, rfl, rfl, rfl, rfl, rfl, bothAxes rfl rfl,
    bothAxes (fun x => nomatch (x : Motion.moving = .held)) (fun x => nomatch (x : Motion.moving = .held)), rfl, by decide,
    bothAxes (by decide) (by decide), by decide, by decide, by decide⟩

/-- The restart stop with its timer. -/
def restarting (n : Nat) : State :=
  { moving .diversion with
    dsl := { rest.dsl with selected := both .aim }
    dvc := { rest.dvc with state := .stopping, cause := .restart, restartTimer := some n } }

set_option maxRecDepth 8000 in
/-- R145 and log entry 45: a FAULT ends the restart stop with group 0 active, and its own temperature sets the flag that the warm
values cleared: one DERATE beside the fault's notice. A temperature in the band sets none, and none is raised (R144, R145). -/
theorem test_a_restart_fault_derates_again :
    let hot : DerateGroup :=
      { definition := { enable := true, source := .driveHTemp, high := 120, low := 110, n := 3, mode := .f8 }, active := true }
    let s : State := { restarting 5 with sdu := { rest.sdu with groups := [hot] } }
    let told := fun (n : Nat) (t : State) =>
      decide (t.dvc.state = .critical ∧ t.sdu.groups.map (·.active) = [n == 1] ∧ (t.notices.record .derate).count = n
        ∧ (t.notices.record .driveFault).count = 1)
    gives (.driveStatusFrame 0 .h (.fault .stall) 121) s (told 1) = true
      ∧ gives (.driveStatusFrame 0 .h (.fault .stall) 112) s (told 0) = true := by decide

theorem witness_PeriodExpiryAlwaysCounts_restart :
    ((restarting 1999).restarting = true ∧ (restarting 1999).pen.pointing = none ∧ (restarting 1999).pen.shot = none
        ∧ (restarting 1999).dsl.jog = .none ∧ (restarting 1999).scs.burn = none ∧ (restarting 1999).dvc.ordinary = none
        ∧ (restarting 1999).dvc.critical = none ∧ (∀ a, ((restarting 1999).latestRaw a).isSome)
        ∧ (∀ a, ((restarting 1999).axis a).motion ≠ .held) ∧ (∀ a, (restarting 1999).dsl.selected.get a = .aim)
        ∧ (let s : State :=
            { restarting 1999 with
              apg := { axes := { h := onTheWay 1000000 .diversion, v := stillAt 1000000 }, settle := none }
              dsl := { rest.dsl with selected := { h := .aim, v := .park } } };
          s.dsl.selected.get .h = .aim ∧ s.dsl.selected.get .v = .park ∧ (s.axis .v).motion = .still)
        ∧ (∀ a, (restarting 1999).dvc.silenceAge.get a + 1000 < 2 ^ (restarting 1999).station.n.angleSilenceExp))
      ∧ (((restarting 1999).axis .h).period .h 8192 64 8192).axis.inMotion = true
      ∧ ((restarting 1998).dvc.restartTimer.getD 0 + 1 < 2000 ∧ 2000 ≤ (restarting 1999).dvc.restartTimer.getD 0 + 1)
      ∧ (∀ a, (({ stillAt 1000000 with requester := .diversion } : AxisRec).period a 8192 64 8192).axis.inMotion = false) :=
  ⟨⟨rfl, rfl, rfl, rfl, rfl, rfl, rfl, bothAxes rfl rfl,
      bothAxes (fun x => nomatch (x : Motion.moving = .held)) (fun x => nomatch (x : Motion.moving = .held)), bothAxes rfl rfl,
      ⟨rfl, rfl, rfl⟩, bothAxes (by decide) (by decide)⟩, by decide, by decide, bothAxes (by decide) (by decide)⟩
theorem witness_ArrivalsAndSettling_horizontal :
    let s : State :=
      { settling 5 with
        apg :=
          { rest.apg with settle := some { setpoint := { h := 20, v := 6000000 }, win := 40, n := 5, count := { h := 4, v := 5 } } } }
    (axisFrameAt s 0).InFlight (at_ .settle) ∧ (axisFrameAt s 0).pen.shot = none
      ∧ (∀ y, ((axisFrameAt s 0).scu.history.get .h).getLast? = some y → y.time < (0 : Int))
      ∧ (∃ x, (axisFrameAt s 0).apg.settle = some x ∧ x.count.v = x.n
        ∧ 8388608 ≤ ((16777196 : Int) - x.setpoint.h) % 16777216
        ∧ -x.win ≤ ((16777196 : Int) - x.setpoint.h) % 16777216 - 16777216 ∧ min (x.count.get .h + 1) x.n = x.n) :=
  ⟨⟨rfl, rfl, rfl, rfl, rfl, rfl, rfl, notHeld, bothAxes rfl rfl⟩, rfl, fun _ h => by cases h; decide, _, rfl, rfl, by decide,
    by decide, by decide⟩
/-- The record that `n` numbers. -/
def aRecord (n : Nat) : ObsRecord :=
  { sequence := n, target := 63, siteTime := 0, hz := 0, v := 0, distance := 0, strength := 0, attempts := 1,
    flags :=
      { suspect := false, limited := false, tiltStale := false, retried := false, oneOff := false, follow := false,
        control := false },
    deviations := none, followIndex := none }

/-- Two records held, while the transmitter sends `x`. -/
def draining (x : Option Sending) : State :=
  { rest with
    reports := { rest.reports with queue := [aRecord 0, aRecord 1] }
    transmit := { rest.transmit with controller := x } }

theorem witness_TransmittersSendInOrder_records :
    ((draining (some (.obs (aRecord 0)))).recordsGo
        ∧ ∃ t, step { draining (some (.obs (aRecord 0))) with pending := [.obsSent .ends] } = .next t)
      ∧ ((draining none).raise .derate none).recordsGo
      ∧ (draining (some (.alert []))).transmit.controller = some (.alert [])
      ∧ (draining (some (.obs (aRecord 0)))).osc.mode = .stopped :=
  ⟨⟨fun h => (nomatch h), _, rfl⟩, fun _ => by decide, rfl, rfl⟩
/-- R131, R181: the end of any frame begins the oldest record's; a REPLY and an ALERT that wait go first; an OBS frame that ends is
followed by the next record. -/
theorem test_records_go_as_frames_end :
    gives (.directionSent .ends) (draining (some (.direction { siteTime := 0, hz := 0, v := 0 })))
        (fun t => decide (t.transmit.controller = some (.obs (aRecord 0)) ∧ t.reports.queue.length = 2)) = true
      ∧ gives (.obsSent .ends) (draining (some (.obs (aRecord 0))))
        (fun t => decide (t.transmit.controller = some (.obs (aRecord 1)) ∧ t.reports.queue.length = 1)) = true
      ∧ gives (.obsSent .ends) ((draining (some (.obs (aRecord 0)))).raise .derate none)
        (fun t => decide (t.transmit.controller = none ∧ t.firstSource = some .alert)) = true := by decide
/-- R131: a record made while the transmitter is free goes at once, so no later REPLY overtakes it. -/
theorem test_a_record_made_goes_at_once :
    gives (.captureComplete 1000000 6000000) (capturing (at_ .measure) 5000)
        (fun t => decide (t.reports.queue.length = 1 ∧ t.transmit.controller = t.reports.queue.head?.map .obs)) = true := by
  decide
theorem witness_TransmittersSendInOrder_dispatch :
    let s : State :=
      { ports 8 0 with requests := { (ports 8 0).requests with buffer := [{ frame := .request (.stop hd), stamp := 0 }] } }
    s.requests.replies = { tag := 0, code := .done, body := [] } :: List.replicate 7 { tag := 0, code := .done, body := [] }
      ∧ s.transmit.controller = none ∧ s.requests.buffer = { frame := .request (.stop hd), stamp := 0 } :: []
      ∧ isOrder (.stop hd) = true ∧ (List.replicate 7 (0 : Nat)).length < 8 ∧ (Instr.hdr (.stop hd)).us ≤ s.stc.periodUs
      ∧ s.link.rxController = [] := ⟨rfl, rfl, rfl, rfl, by decide, by decide, rfl⟩
theorem witness_TransmittersSendInOrder_bytes :
    (65535 < 65536 ∧ 255 < 256 ∧ 281474976710655 < 2 ^ 48 ∧ (0 : Int) ≤ 16777215 ∧ (16777215 : Int) < 16777216
        ∧ (4294967295 : Int) < 2 ^ 32 ∧ (-8388608 : Int) ≤ -8388608 ∧ (8388607 : Int) < 8388608 ∧ (-2147483648 : Int) ≤ -2147483648)
      ∧ (rest.notices.records.map (·.pending)).length = 16 ∧ (-32768 : Int) ≤ -32768 ∧ (32767 : Int) < 32768 := by decide
theorem witness_EnqueueKeysAndRenumbers_order : ready.queueOrdered := show List.Pairwise _ _ by decide
theorem witness_PointingTimersRunOut_oneOff :
    let p : Pointing := { at_ .settle with kind := .oneOff }
    let s : State := { flying p with entries := rest.entries.set 63 { inState .due with deferred := true } }
    s.MayEnd p ∧ p.phase = .settle ∧ (s.entry 63).deferred = true :=
  ⟨⟨⟨rfl, rfl, rfl, rfl, rfl, rfl, rfl, notHeld, bothAxes rfl rfl⟩, bothAxes rfl rfl, rfl⟩, rfl, rfl⟩

/-! ### Points of the rules on worked states -/

set_option maxRecDepth 8000 in
/-- R29 and section 3.8 at 6,000: the NOSENSOR of an expiry sets the retry timer to 2,000, which that expiry does not count. -/
theorem test_retry_timer_starts_at_the_next_expiry :
    (gives (.periodExpiry .unreadable) (flying { at_ .acquire with silence := 499 })
        (fun t =>
          decide ((t.entry 63).state = .backoff ∧ (t.entry 63).retry = some 2000 ∧ t.osc.detectorReady = false))) = true := by
  decide

/-- R108 and the table of section 6.3: the chosen candidate outside aim_tol at centre_limit ends the pointing, and the loss count
is 0 as at every chosen frame in CENTRE. -/
theorem test_centre_limit_zeroes_the_loss :
    (gives (.spotFrame 0 0 [{ dx := 31, dy := 0, intensity := 4095 }])
        { flying (at_ .centre) with squ := { zeroSqu with centre := 19, loss := 3 } }
        (fun t => decide (t.pen.pointing = none ∧ t.squ.loss = 0 ∧ (t.entry 63).lastOutcome = some .unsettled))) = true := by decide
/-- R177, R40: the SUSPENDED notice of an entry that a RESTART's ABANDONED outcome sets aside stands in the cleared summary. -/
theorem test_restart_keeps_its_own_suspension :
    (gives (.restart hd)
        { State.raise { flying (at_ .measure) with entries := rest.entries.set 63 { inState .active with misses := 6 } } .derate none with
          pending := [] }
        (fun t =>
          decide (t.notices.record .suspended = { pending := true, count := 1, lastTarget := some 63 }
            ∧ t.notices.record .derate = { pending := false, count := 0, lastTarget := none }))) = true := by decide
/-- R174, R175: a frame that waits keeps the site time of its arrival. -/
theorem test_a_waiting_frame_keeps_its_stamp :
    (gives (.controllerFrameArrival 1000 0x11 7 [2]) { ports 8 0 with stc := { siteTime := 5, periodUs := 10 } }
        (fun t => decide (t.requests.buffer.map (·.stamp) = [995]))) = true := by decide

/-! ### A pointing frozen in a PAUSE stop -/

/-- A pointing frozen in a PAUSE stop, H at rest or on its way to its stop point, with a shot in hand or none. -/
def paused (p : Pointing) (shot : Option Shot) (moves : Bool) : State :=
  { flying p with
    pen := { (flying p).pen with shot := shot, retriesClosed := true }
    apg :=
      { axes := rest.apg.axes.set .h (if moves then onTheWay 1000000 .diversion else stillAt 1000000), settle := none }
    dvc := { rest.dvc with state := .stopping, cause := .pause } }

theorem paused_frozen (p : Pointing) (x : Option Shot) (m : Bool) (h : p.frozen = true) : (paused p x m).Frozen p :=
  ⟨rfl, .inl rfl, rfl, h, rfl, rfl, rfl, bothAxes (by cases m; exact .inl rfl; exact .inr ⟨rfl, rfl⟩) (.inl rfl),
    bothAxes rfl rfl⟩
theorem sensorFrame_frozen (p : Pointing) (x : Option Shot) (m : Bool) (h : p.frozen = true) :
    (sensorFrameAt (paused p x m) 0).Frozen p :=
  ⟨rfl, .inl rfl, rfl, h, rfl, rfl, rfl, bothAxes (by cases m; exact .inl rfl; exact .inr ⟨rfl, rfl⟩) (.inl rfl),
    bothAxes rfl rfl⟩
theorem axisFrame_frozen (p : Pointing) (x : Option Shot) (m : Bool) (h : p.frozen = true) :
    (axisFrameAt (paused p x m) 0).Frozen p :=
  ⟨rfl, .inl rfl, rfl, h, rfl, rfl, rfl, bothAxes (by cases m; exact .inl rfl; exact .inr ⟨rfl, rfl⟩) (.inl rfl),
    bothAxes rfl rfl⟩

/-- A frozen pointing in a given phase, with its reservation. -/
def frozenIn (x : Phase) : Pointing := { at_ x with frozen := true, reservation := true, attempts := 2 }

/-- A shot that waits for its range, and one that waits for angles. -/
def ranging (k : Nat) : Option Shot := some { id := 5, stage := .awaitingRange k }
def angled (distance : Int) : Option Shot := some { id := 5, stage := .awaitingAngles (aCapture distance) }

theorem witness_QueryBodiesSayTheState_numbers :
    (255 : Nat) < 2 ^ 8 ∧ 65535 < 2 ^ 16 ∧ 4294967295 < 2 ^ 32 ∧ 281474976710655 < 2 ^ 48 ∧ ((16777215 : Int) < 2 ^ 24)
      ∧ (-(2 ^ 15) ≤ (-32768 : Int) ∧ (32767 : Int) < 2 ^ 15) ∧ (-(2 ^ 31) ≤ (-2147483648 : Int)) := by decide
theorem witness_LoadDerateReplacesAGroup_numbers :
    ((∀ x ∈ List.replicate 3 coldGroup, x.active = false) ∧ ({ coldGroup with active := true } : DerateGroup).active = true)
      ∧ (3 ≤ 3 ∧ 1 ≤ 1 ∧ 7 ≤ 7 ∧ (-32768 : Int) < 32767 ∧ rest.dvc.state ≠ .lockout) :=
  ⟨⟨fun _ h => by rw [List.eq_of_mem_replicate h]; rfl, rfl⟩, by decide⟩
theorem witness_LoadTargetChangesAnEntry_carried :
    definitionOfLoad { aLoad with kind := 3, priority := 4, hz := -1 } ≠ none
      ∧ definitionOfLoad { aLoad with kind := 4 } = none ∧ definitionOfLoad { aLoad with enable := 2 } = none
      ∧ definitionOfLoad { aLoad with kind := 2, dwell := 600001 } = none
      ∧ definitionOfLoad { aLoad with kind := 2, dwell := 600000 } = some { aDefinition with kind := .track, dwell := 600000 }
      ∧ (heldWith { aContext with part := some { (at_ .measure).part with kind := .oneOff } }).engaged 63 = true := by decide
theorem witness_LoadStationReplacesTheBlock_carried :
    stationOfLoad { n := coldStation.n, compEnable := 0, criticalEnable := 1 } = some { coldStation with compEnable := false }
      ∧ stationOfLoad { n := coldStation.n, compEnable := 2, criticalEnable := 1 } = none
      ∧ stationOfLoad { n := { coldStation.n with jogLease := 2001 }, compEnable := 1, criticalEnable := 1 } = none := by
  decide
theorem witness_LoadStationReplacesTheBlock_window :
    let st : Station := { coldStation with n := { coldStation.n with vMax := 6000000, missLimit := 1 } }
    let s := restWith 63 { inState .armed with misses := 1 }
    let leaves := fun (x : Int) => s.station.n.vMin ≤ x ∧ x ≤ s.station.n.vMax ∧ (x < st.n.vMin ∨ st.n.vMax < x)
    let v := s.axis .v
    stationOfLoad { n := st.n, compEnable := 1, criticalEnable := 1 } = some st
      ∧ ¬((∃ x, v.p = some x ∧ leaves x) ∨ (∃ x, v.motion = .moving ∧ v.setpoint = some x ∧ leaves x)
        ∨ (v.motion = .braking ∧ leaves (v.stopPoint .v)) ∨ (∃ x, v.motion = .braking ∧ v.setpoint = some x ∧ leaves x)
        ∨ (∃ w, v.motion = .held ∧ v.waiting = some w ∧ leaves w.setpoint)
        ∨ (s.dvc.level = .lost ∧ st.n.tiltLimit < s.station.n.tiltLimit)) := by
  refine ⟨by decide, ?_⟩
  rintro (⟨x, h, _, _, k⟩ | ⟨x, h, _⟩ | ⟨h, _⟩ | ⟨x, h, _⟩ | ⟨w, h, _⟩ | ⟨h, _⟩)
  · cases h; exact absurd k (by decide)
  all_goals exact nomatch h
theorem witness_MovingAxisObeysTheSpeedRule_remaining :
    remaining .h 0 8388608 = 8388608 ∧ remaining .h 8388608 0 = 8388608 ∧ remaining .h 16777215 0 = 1
      ∧ (0 : Int) ≤ 16777215 ∧ (16777215 : Int) < 16777216 := by decide
theorem witness_HaltHoldsAndDiscards_critical :
    let s := criticalFrom .held .pause (some .command) { aContext with part := none } (some aContext)
    s.dvc.state = .critical ∧ s.pen.pointing = none ∧ s.restarting = false
      ∧ (∀ r, s.dvc.critical = some r → r.context.part = none) ∧ s.dvc.critical ≠ none ∧ s.dvc.ordinary = some aContext
      ∧ aContext.target = some 63 ∧ aContext.part = some (at_ .measure).part ∧ (∀ a, s.axisHeldLaw a) ∧ s.shotLaw :=
  ⟨rfl, rfl, rfl, fun _ h => by cases h; rfl, by decide, rfl, rfl, rfl, reset_heldLaw _ rfl rfl rfl,
    ⟨by decide, fun h => (nomatch h), fun _ h => (nomatch h)⟩⟩
theorem witness_AngleFramesFillTheHistory_frozen :
    let s := axisFrameAt (paused (frozenIn .measure) (angled 5002) true) 0
    s.Frozen (frozenIn .measure) ∧ s.apg.settle = none ∧ s.station.n.feedDiv = 0
      ∧ s.pen.shot = some { id := 5, stage := .awaitingAngles (aCapture 5002) }
      ∧ (∀ y, (s.scu.history.get .v).getLast? = some y → y.time < (-49 : Int)) ∧ (aCapture 5002).found.get .v = none
      ∧ interpolate .v (s.scu.history.get .v ++ [{ time := -49, raw := 6000001 }]) (-50) = .value 6000000 :=
  ⟨axisFrame_frozen _ _ _ rfl, rfl, rfl, rfl, fun _ h => by cases h; decide, rfl, by decide⟩
theorem witness_DriveStatusFramesReport_states :
    (axisFrameAt (heldWith aContext) 0).Steady ∧ (∀ x : DvcState, x = .critical ∨ x = .halted ∨ x = .lockout →
        (axisFrameAt { State.reset with dvc := { State.reset.dvc with state := x } } 0).Steady)
      ∧ (axisFrameAt (flying (at_ .measure)) 0).Steady ∧ (axisFrameAt (paused (frozenIn .follow) none true) 0).Steady
      ∧ (axisFrameAt rest 0).Steady :=
  ⟨.inr (.inr (.inr (.inl ⟨rfl, rfl, rfl, rfl, rfl, bothAxes rfl rfl, bothAxes rfl rfl⟩))),
    fun _ h => .inr (.inr (.inr (.inr ⟨h, rfl, rfl⟩))), .inr (.inl ⟨_, axisFrame_flight _ rfl⟩),
    .inr (.inr (.inl ⟨_, axisFrame_frozen _ _ _ rfl, .inl ⟨.h, rfl⟩⟩)), .inl axisFrame_rest⟩
theorem witness_SpotFramesBeforeTheLock_frozen :
    (∀ x, (sensorFrameAt (paused (frozenIn x) none true) 0).Frozen (frozenIn x)
        ∧ (sensorFrameAt (paused (frozenIn x) none true) 0).stopWaits)
      ∧ ((sensorFrameAt (paused (frozenIn .follow) (ranging 0) false) 0).Frozen (frozenIn .follow)
        ∧ (sensorFrameAt (paused (frozenIn .follow) (ranging 0) false) 0).stopWaits) :=
  ⟨fun _ => ⟨sensorFrame_frozen _ _ _ rfl, .inl ⟨.h, rfl⟩⟩, sensorFrame_frozen _ _ _ rfl, .inr (by decide)⟩
theorem witness_RangeAnswersAndRetries_frozen :
    (∀ m, (sensorFrameAt (paused (frozenIn .measure) (ranging 799) m) 0).Frozen (frozenIn .measure)
        ∧ (paused (frozenIn .measure) (ranging 799) m).Frozen (frozenIn .measure)
        ∧ (sensorFrameAt (paused (frozenIn .measure) (ranging 799) m) 0).dvc.cause = .pause
        ∧ (paused (frozenIn .measure) (ranging 799) m).pen.shot = some { id := 5, stage := .awaitingRange 799 }
        ∧ (paused (frozenIn .measure) (ranging 799) m).pen.retriesClosed = true
        ∧ ((paused (frozenIn .measure) (ranging 799) m).entry 63).pendingDef = none)
      ∧ ((frozenIn .measure).attempts ≤ coldStation.n.shotRetry
        ∧ coldStation.n.shotRetry < ({ frozenIn .measure with attempts := 3 } : Pointing).attempts)
      ∧ (sensorFrameAt (paused (frozenIn .measure) (ranging 799) true) 0).Steady :=
  ⟨fun _ => ⟨sensorFrame_frozen _ _ _ rfl, paused_frozen _ _ _ rfl, rfl, rfl, rfl, rfl⟩, by decide,
    .inr (.inr (.inl ⟨_, sensorFrame_frozen _ _ _ rfl, .inl ⟨.h, rfl⟩⟩))⟩
theorem witness_RangeAnswersAndRetries_dwell :
    let p := { at_ .follow with dwell := some 0, attempts := 3 }
    let s : State := { shooting { p with attempts := 2 } 799 with pen := { (shooting { p with attempts := 2 } 799).pen with retriesClosed := true } }
    (sensorFrameAt (shooting p 799) 0).MayEnd p ∧ (shooting p 799).MayEnd p ∧ (p.phase = .follow ∧ p.dwell = some 0)
      ∧ coldStation.n.shotRetry < p.attempts
      ∧ (s.MayEnd { p with attempts := 2 } ∧ s.pen.retriesClosed = true ∧ 2 ≤ s.station.n.shotRetry) :=
  ⟨sensorFrame_shot _ rfl rfl, shooting_mayEnd _ _ rfl rfl, ⟨rfl, rfl⟩, by decide,
    ⟨⟨rfl, rfl, rfl, rfl, rfl, rfl, rfl, notHeld, bothAxes rfl rfl⟩, bothAxes rfl rfl, rfl⟩, rfl, by decide⟩
theorem witness_CapturesMakeRecords_frozen :
    (∀ m, let p : Pointing := { frozenIn .measure with frozenCopy := { aDefinition with d0 := 5000, prism := 0 } };
      (paused p (angled 5002) m).Frozen p ∧ (paused p (angled 5002) m).dvc.cause = .pause
        ∧ ((paused p (angled 5002) m).entry p.target).pendingDef = none ∧ p.frozenCopy.dtol < (5002 : Int) - p.frozenCopy.d0
        ∧ ¬(p.frozenCopy.dtol < (5001 : Int) - p.frozenCopy.d0) ∧ p.frozenCopy.kind ≠ .track)
      ∧ (∀ m, let p : Pointing := { frozenIn .measure with frozenCopy := { aDefinition with kind := .track, dwell := 1000 } };
        (paused p (angled 0) m).Frozen p ∧ p.frozenCopy.kind = .track ∧ p.frozenCopy.d0 = 0 ∧ some p.frozenCopy.dwell ≠ some 0)
      ∧ ∀ m, let p : Pointing :=
          { frozenIn .measure with
            frozenCopy := { aDefinition with kind := .track, dwell := 1000 }, followCount := 1, dwell := some 0 };
        (paused p (angled 0) m).Frozen p ∧ p.followCount ≠ 0 ∧ p.dwell = some 0 :=
  ⟨fun _ => ⟨paused_frozen _ _ _ rfl, rfl, rfl, by decide, by decide, by decide⟩,
    fun _ => ⟨paused_frozen _ _ _ rfl, rfl, rfl, by decide⟩, fun _ => ⟨paused_frozen _ _ _ rfl, by decide, rfl⟩⟩
theorem witness_CapturesMakeRecords_dwell :
    (let p : Pointing := { at_ .follow with frozenCopy := { aDefinition with kind := .track }, followCount := 1, dwell := some 0 };
      (capturing p 0).MayEnd p ∧ p.frozenCopy.kind = .track ∧ p.dwell = some 0)
      ∧ (let p : Pointing := { at_ .measure with frozenCopy := { aDefinition with kind := .track }, followCount := 1, dwell := some 0 };
        (capturing p 0).MayEnd p ∧ p.phase = .measure ∧ p.followCount ≠ 0 ∧ p.dwell = some 0)
      ∧ (let p : Pointing :=
          { at_ .follow with frozenCopy := { aDefinition with kind := .track, d0 := 5000, prism := 0 }, dwell := some 0 };
        (capturing p 5002).MayEnd p ∧ p.followCount = 0 ∧ p.phase = .follow ∧ p.dwell = some 0
          ∧ p.frozenCopy.dtol < (5002 : Int) - p.frozenCopy.d0) :=
  ⟨⟨capturing_mayEnd _ _ rfl rfl, rfl, rfl⟩, ⟨capturing_mayEnd _ _ rfl rfl, rfl, by decide, rfl⟩,
    capturing_mayEnd _ _ rfl rfl, rfl, rfl, rfl, by decide⟩
theorem witness_PeriodExpiryStepsThePart_frozen :
    (∀ x k m, (paused (frozenIn x) (ranging k) m).Frozen (frozenIn x) ∧ (paused (frozenIn x) (ranging k) m).stopWaits)
      ∧ (799 + 1 = coldStation.n.rangeTimeout ∧ (frozenIn .measure).attempts ≤ coldStation.n.shotRetry)
      ∧ (let s := paused (frozenIn .settle) none true;
        s.Frozen (frozenIn .settle) ∧ s.stopWaits ∧ s.pen.shot = none
          ∧ ((s.axis .h).period .h s.station.n.vmaxH s.station.n.accH (s.effectiveSpeed .h)).axis.inMotion = true)
      ∧ (let r : AxisRec := { onTheWay 1000000 .diversion with setpoint := some 1000064 };
        (r.period .h 8192 64 8192).axis.inMotion = false) :=
  ⟨fun _ _ _ => ⟨paused_frozen _ _ _ rfl, .inr (fun h => (nomatch h))⟩, by decide,
    ⟨paused_frozen _ _ _ rfl, .inl ⟨.h, rfl⟩, rfl, by decide⟩, by decide⟩
theorem witness_PeriodExpiryStepsThePart_range :
    let p := { at_ .follow with attempts := 2, reservation := true, dwell := some 1 }
    (shooting p 799).MayEnd p ∧ p.phase = .follow ∧ p.attempts ≤ coldStation.n.shotRetry ∧ (shooting p 799).pen.retriesClosed = false
      ∧ coldStation.n.rangeTimeout ≤ 799 + 1 ∧ min (p.silence + 1) 2000 < coldStation.n.spotSilence :=
  ⟨shooting_mayEnd _ _ rfl rfl, rfl, by decide, rfl, by decide, by decide⟩
theorem witness_PointingTimersRunOut_frozen :
    (paused (frozenIn .follow) none true).pen.pointing = some (frozenIn .follow) ∧ (frozenIn .follow).frozen = true := ⟨rfl, rfl⟩
/-- R80, R122, R149: a retry due in a PAUSE stop with both axes at rest leaves HELD with the pointing in the ordinary context, its
attempts counted, and no SHOT frame. -/
theorem test_a_paused_shot_is_not_retried :
    gives (.rangeFrame 0 5 0 0 0 .weak) (paused (frozenIn .measure) (ranging 3) false)
        (fun t =>
          decide (t.dvc.state = .held ∧ t.pen.shot = none ∧ t.pen.pointing = none ∧ t.transmit.shots = [] ∧ t.reserved = 0
            ∧ (t.dvc.ordinary.bind (·.part)).map (·.attempts) = some 2)) = true := by decide
/-- R80: an OK answer in the same stop makes its record, the MONITOR pointing ends DONE, and no context is needed. -/
theorem test_a_paused_shot_makes_its_record :
    gives (.rangeFrame 0 5 50 5000 9 .ok) (paused (frozenIn .measure) (ranging 3) false)
        (fun t =>
          decide (t.dvc.state = .held ∧ t.reports.queue.length = 1 ∧ (t.entry 63).lastOutcome = some .done
            ∧ t.dvc.ordinary.bind (·.target) = none)) = true := by decide

end Sys2Proof.Tests
end

section
/-! SUPPORT. Site time and the control period pass by the operations of an expiry's own work: only the end of the period, an arrival
stamped inside it and SETTIME touch the site clock (R1, R175). -/

namespace Sys2Proof.Machine
open Sys2Proof

@[simp] theorem State.setSilence_stc (s : State) (a : Axis) (n : Nat) : (s.setSilence a n).stc = s.stc := rfl

@[simp] theorem State.enterSettle_stc (s : State) (p : Pointing) : (s.enterSettle p).stc = s.stc := rfl

@[simp] theorem State.stopAxis_stc (s : State) (a : Axis) (req : Requester) : (s.stopAxis a req).stc = s.stc := rfl

@[simp] theorem State.pointingArrival_stc (s : State) (a : Axis) : (s.pointingArrival a).stc = s.stc := by
  simp only [State.pointingArrival]
  (repeat' split) <;> simp

@[simp] theorem State.reportArrival_stc (s : State) (a : Axis) (req : Requester) : (s.reportArrival a req).stc = s.stc := by
  simp [State.reportArrival, apply_ite State.stc]

@[simp] theorem State.retarget_stc (s : State) (a : Axis) (sp : Int) (req : Requester) : (s.retarget a sp req).stc = s.stc := by
  simp [State.retarget, apply_ite State.stc]

@[simp] theorem State.stopIfMoving_stc (s : State) (a : Axis) (req : Requester) : (s.stopIfMoving a req).stc = s.stc := by
  simp only [State.stopIfMoving]
  (repeat' split) <;> simp

@[simp] theorem State.holdAxis_stc (s : State) (a : Axis) : (s.holdAxis a).stc = s.stc := by
  unfold State.holdAxis
  (repeat' split) <;> simp

@[simp] theorem State.releaseAxis_stc (s : State) (a : Axis) (want : Source) : (s.releaseAxis a want).stc = s.stc := by
  simp only [State.releaseAxis]
  split <;> simp

@[simp] theorem State.chooseAxis_stc (s : State) (atExpiry : Bool) (a : Axis) : (s.chooseAxis atExpiry a).stc = s.stc := by
  simp [State.chooseAxis, apply_ite State.stc]

@[simp] theorem State.choose_stc (s : State) : s.choose.stc = s.stc := by
  simp [State.choose]

@[simp] theorem State.chooseAtExpiry_stc (s : State) : s.chooseAtExpiry.stc = s.stc := by
  simp [State.chooseAtExpiry]

@[simp] theorem State.jogTest_stc (s : State) : s.jogTest.stc = s.stc := by
  unfold State.jogTest
  (repeat' split) <;> simp

@[simp] theorem State.raiseEach_stc (s : State) (k : NoticeKind) (ns : List Nat) : (s.raiseEach k ns).stc = s.stc := by
  induction ns generalizing s with
  | nil => rfl
  | cons n ns ih => exact (ih (s.raise k (some n))).trans (s.raise_stc k _)

@[simp] theorem State.enqueue_stc (s : State) (nums : List Nat) : (s.enqueue nums).stc = s.stc := by
  simp [State.enqueue, apply_ite State.stc]

@[simp] theorem State.tickTable_stc (s : State) : s.tickTable.stc = s.stc := by
  simp [State.tickTable]

@[simp] theorem State.raiseMaybe_stc (s : State) (k : Option NoticeKind) (target : Option Nat) :
    (s.raiseMaybe k target).stc = s.stc := by
  unfold State.raiseMaybe
  split <;> simp

@[simp] theorem State.deliverOutcome_stc (s : State) (n : Nat) (kind : PointingKind) (o : Verdict) :
    (s.deliverOutcome n kind o).stc = s.stc := by
  simp only [State.deliverOutcome]
  (repeat' split) <;> simp

@[simp] theorem State.pointAxes_stc (s : State) (p : Pointing) : (s.pointAxes p).stc = s.stc := by
  simp [State.pointAxes]

@[simp] theorem State.launch_stc (s : State) (p : Pointing) : (s.launch p).stc = s.stc := by
  simp [State.launch]

@[simp] theorem State.beginPointing_stc (s : State) (n : Nat) (kind : PointingKind) : (s.beginPointing n kind).stc = s.stc := by
  simp [State.beginPointing]

@[simp] theorem State.dispatchHead_stc (s : State) : s.dispatchHead.stc = s.stc := by
  unfold State.dispatchHead
  split <;> simp

@[simp] theorem State.examineDispatch_stc (s : State) : s.examineDispatch.stc = s.stc := by
  simp [State.examineDispatch, apply_ite State.stc]

@[simp] theorem State.releaseSlot_stc (s : State) : s.releaseSlot.stc = s.stc := rfl

@[simp] theorem State.withdrawShot_stc (s : State) : s.withdrawShot.stc = s.stc := by
  simp [State.withdrawShot, apply_ite State.stc]

@[simp] theorem State.stopAfterPointing_stc (s : State) : s.stopAfterPointing.stc = s.stc := by
  simp [State.stopAfterPointing, apply_ite State.stc]

@[simp] theorem State.endPointing_stc (s : State) (o : Verdict) : (s.endPointing o).stc = s.stc := by
  unfold State.endPointing
  (repeat' split) <;> simp

@[simp] theorem State.failPointing_stc (s : State) (o : Verdict) : (s.failPointing o).stc = s.stc := by
  unfold State.failPointing
  split <;> simp

@[simp] theorem State.abandonTarget_stc (s : State) (x : Option (Nat × PointingKind)) :
    (s.abandonTarget x).stc = s.stc := by
  rcases x with _ | ⟨n, k⟩
  · rfl
  · simp [State.abandonTarget]

@[simp] theorem State.discardContexts_stc (s : State) : s.discardContexts.stc = s.stc := by
  simp [State.discardContexts, apply_ite State.stc]

@[simp] theorem State.enterRun_stc (s : State) : s.enterRun.stc = s.stc := rfl

@[simp] theorem State.restartPointing_stc (s : State) (c : Context) : (s.restartPointing c).stc = s.stc := by
  unfold State.restartPointing
  split <;> simp

@[simp] theorem State.resumeHeld_stc (s : State) : s.resumeHeld.stc = s.stc := by
  simp only [State.resumeHeld]
  (repeat' split) <;> simp

@[simp] theorem State.autoResumeTest_stc (s : State) : s.autoResumeTest.stc = s.stc := by
  simp [State.autoResumeTest, apply_ite State.stc]

@[simp] theorem State.warmValues_stc (s : State) (raised : Notices) : (s.warmValues raised).stc = s.stc := by
  simp [State.warmValues]

@[simp] theorem State.enterHeld_stc (s : State) (target : Option Nat) (part : Option PointingPart) (cause : Cause) :
    (s.enterHeld target part cause).stc = s.stc := by
  simp [State.enterHeld]

@[simp] theorem State.stopTest_stc (s : State) (raised : Notices) : (s.stopTest raised).stc = s.stc := by
  unfold State.stopTest
  (repeat' split) <;> simp

@[simp] theorem State.wrapUpWith_stc (s : State) (raised : Notices) : (s.wrapUpWith raised).stc = s.stc := by
  simp [State.wrapUpWith]

@[simp] theorem State.recordMayGo_stc (s : State) (b : Bool) : (s.recordMayGo b).stc = s.stc := by
  simp [State.recordMayGo, apply_ite State.stc]

@[simp] theorem State.holdBoth_stc (s : State) : s.holdBoth.stc = s.stc := by
  simp only [State.holdBoth]
  (repeat' split) <;> simp

@[simp] theorem State.enterLockout_stc (s : State) (cause : Cause) : (s.enterLockout cause).stc = s.stc := by
  simp [State.enterLockout]

@[simp] theorem State.enterCritical_stc (s : State) (cause : Cause) : (s.enterCritical cause).stc = s.stc := by
  simp [State.enterCritical]

@[simp] theorem State.firstFault_stc (s : State) (cause : Cause) : (s.firstFault cause).stc = s.stc := by
  simp [State.firstFault, apply_ite State.stc]

@[simp] theorem State.takeFault_stc (s : State) (a : Axis) (cause : Cause) (raised : Notices) :
    (s.takeFault a cause raised).stc = s.stc := by
  unfold State.takeFault
  (repeat' split) <;> simp

@[simp] theorem State.restartExpires_stc (s : State) (raised : Notices) : (s.restartExpires raised).stc = s.stc := by
  simp [State.restartExpires, apply_ite State.stc]

@[simp] theorem State.fire_stc (s : State) (p : Pointing) : (s.fire p).stc = s.stc := rfl

@[simp] theorem State.tryShot_stc (s : State) : s.tryShot.stc = s.stc := by
  unfold State.tryShot
  (repeat' split) <;> simp

@[simp] theorem State.shotFails_stc (s : State) (o : Verdict) : (s.shotFails o).stc = s.stc := by
  unfold State.shotFails
  (repeat' split) <;> simp

@[simp] theorem State.retryDeclined_stc (s : State) : s.retryDeclined.stc = s.stc := by
  unfold State.retryDeclined
  (repeat' split) <;> simp

@[simp] theorem State.retryOr_stc (s : State) (o : Verdict) : (s.retryOr o).stc = s.stc := by
  unfold State.retryOr
  (repeat' split) <;> simp

@[simp] theorem State.rangeTick_stc (s : State) : s.rangeTick.stc = s.stc := by
  unfold State.rangeTick
  (repeat' split) <;> simp

@[simp] theorem State.dwellRunsOut_stc (s : State) : s.dwellRunsOut.stc = s.stc := by
  simp [State.dwellRunsOut, apply_ite State.stc]

@[simp] theorem State.trackRunsOut_stc (s : State) : s.trackRunsOut.stc = s.stc := by
  simp [State.trackRunsOut, apply_ite State.stc]

@[simp] theorem State.followTick_stc (s : State) (p : Pointing) : (s.followTick p).stc = s.stc := by
  simp [State.followTick, apply_ite State.stc]

@[simp] theorem State.pointingTick_stc (s : State) : s.pointingTick.stc = s.stc := by
  simp only [State.pointingTick]
  (repeat' split) <;> simp

@[simp] theorem State.stepAxis_stc (s : State) (a : Axis) : (s.stepAxis a).stc = s.stc := by
  simp [State.stepAxis, apply_ite State.stc]

@[simp] theorem State.completeBurn_stc (s : State) (b : Burn) (cell : CellRead) : (s.completeBurn b cell).stc = s.stc := by
  simp [State.completeBurn, apply_ite State.stc]

@[simp] theorem State.burnTick_stc (s : State) (cell : CellRead) : (s.burnTick cell).stc = s.stc := by
  simp only [State.burnTick]
  (repeat' split) <;> simp

@[simp] theorem State.extendJog_stc (s : State) (j : Int) : (s.extendJog j).stc = s.stc := by
  simp [State.extendJog, apply_ite State.stc]

@[simp] theorem State.stopJog_stc (s : State) (speed : PerAxis Int) : (s.stopJog speed).stc = s.stc := by
  simp [State.stopJog]

@[simp] theorem State.jogTick_stc (s : State) : s.jogTick.stc = s.stc := by
  unfold State.jogTick
  (repeat' split) <;> simp

@[simp] theorem State.restartTick_stc (s : State) (raised : Notices) : (s.restartTick raised).stc = s.stc := by
  simp [State.restartTick, apply_ite State.stc]

@[simp] theorem State.formDrives_stc (s : State) : s.formDrives.stc = s.stc := rfl

@[simp] theorem State.encoderSilent_stc (s : State) (a : Axis) (raised : Notices) : (s.encoderSilent a raised).stc = s.stc := by
  simp [State.encoderSilent, apply_ite State.stc]

@[simp] theorem State.watchEncoder_stc (s : State) (a : Axis) (held : Bool) (raised : Notices) :
    (s.watchEncoder a held raised).stc = s.stc := by
  simp [State.watchEncoder, apply_ite State.stc]

@[simp] theorem State.expiryDrives_stc (s : State) (raised : Notices) : (s.expiryDrives raised).stc = s.stc := by
  simp [State.expiryDrives]

end Sys2Proof.Machine
end

section
/-! SUPPORT. The end of a control period (R1, R175) and the count of the target table at it (R26 to R30, R45). -/

namespace Sys2Proof.Machine

open Sys2Proof

/-! ### The end of a control period -/

theorem State.moveTimes_zero (s : State) : s.moveTimes 0 = s := by
  have shot : ∀ x : Shot, x.moveTime 0 = x := by
    rintro ⟨id, _ | c⟩ <;> simp [Shot.moveTime]
  simp [State.moveTimes, funext shot]

theorem State.latestRaw_moveTimes (s : State) (δ : Int) (a : Axis) : (s.moveTimes δ).latestRaw a = s.latestRaw a := by
  cases a <;> simp [State.latestRaw, State.moveTimes, List.getLast?_map, Function.comp_def]

/-- The end of a control period moves site time, perhaps with every capture time held, and lets an axis that the restart timeout
held be released (R1, R175, R133). -/
theorem State.endPeriod_moved (s : State) :
    ∃ (c : Stc) (δ : Int), c.periodUs = 0
      ∧ s.endPeriod = { s.moveTimes δ with stc := c, dsl := { s.dsl with restartHold := both false } } := by
  refine ⟨s.endPeriod.stc, ?_⟩
  by_cases before : s.stc.siteTime + (1000 - s.stc.periodUs) < Config.siteTimeModulus
  · exact ⟨0, rfl, by simp [State.endPeriod, State.advanceBy, before, s.moveTimes_zero]⟩
  · exact ⟨-(Config.siteTimeModulus : Int), rfl, by simp [State.endPeriod, State.advanceBy, before, State.moveTimes]⟩

/-- The stamp of the end of the control period, before a wrap (R1). -/
def State.periodEnd (s : State) : Stc := { siteTime := s.stc.siteTime + (1000 - s.stc.periodUs), periodUs := 0 }

theorem State.endPeriod_eq {s : State} (noWrap : s.stc.siteTime + 1000 < 2 ^ 48) (noHold : s.dsl.restartHold = both false) :
    s.endPeriod = { s with stc := s.periodEnd } := by
  have before : s.stc.siteTime + (1000 - s.stc.periodUs) < Config.siteTimeModulus := by
    unfold Config.siteTimeModulus; omega
  simp [State.endPeriod, State.advanceBy, before, State.periodEnd, ← noHold]

theorem State.endPeriod_periodUs (s : State) : s.endPeriod.stc.periodUs = 0 := rfl

/-! ### The table -/

theorem State.raiseEach_eq (s : State) (k : NoticeKind) (ns : List Nat) :
    s.raiseEach k ns = { s with notices := ns.foldl (fun m n => m.raise k (some n)) s.notices } := by
  unfold State.raiseEach
  induction ns generalizing s with
  | nil => rfl
  | cons n ns ih => exact ih (s.raise k (some n))

/-- An enqueue changes the scheduler's queue and counter alone. -/
theorem State.enqueue_eq (s : State) (ns : List Nat) : s.enqueue ns = { s with osc := (s.enqueue ns).osc } := by
  simp only [State.enqueue]
  split
  · rfl
  · split <;> rfl

theorem State.enqueue_mode (s : State) (ns : List Nat) : (s.enqueue ns).osc.mode = s.osc.mode := by
  simp only [State.enqueue]
  split
  · rfl
  · split <;> rfl

theorem State.enqueue_osc_congr {s t : State} (entries : t.entries = s.entries) (osc : t.osc = s.osc) (ns : List Nat) :
    (t.enqueue ns).osc = (s.enqueue ns).osc := by
  have entry : t.entry = s.entry := funext fun n => by rw [State.entry, State.entry, entries]
  simp only [State.enqueue, entry, osc]
  split
  · exact osc
  · split <;> rfl

/-- What a period expiry makes of entry `n`. -/
def State.tickOf (s : State) (n : Nat) : EntryTick := (s.entry n).tick (s.engaged n)

/-- The numbers of the entries of which a period expiry tells this, in ascending order. -/
def State.told (s : State) (f : EntryTick → Bool) : List Nat :=
  (List.range s.entries.length).filter fun n => f (s.tickOf n)

theorem tickEntries_eq (engaged : Nat → Bool) (n : Nat) (es : List Entry) :
    let tick := fun i => (es.getD i emptyEntry).tick (engaged (n + i))
    tickEntries engaged n es =
      ((List.range es.length).map fun i => (tick i).entry,
        ((List.range es.length).filter fun i => (tick i).handed).map (n + ·),
        ((List.range es.length).filter fun i => (tick i).overrun).map (n + ·)) := by
  induction es generalizing n with
  | nil => rfl
  | cons e es ih =>
    have next : ∀ i, n + 1 + i = n + (i + 1) := by omega
    simp only [tickEntries, ih, next, List.length_cons, List.range_succ_eq_map, List.map_cons, List.map_map,
      List.filter_cons, List.filter_map, Function.comp_def, List.getD_cons_zero, List.getD_cons_succ, Nat.add_zero,
      Nat.succ_eq_add_one]
    split <;> split <;> simp [Function.comp_def]

/-- The target table at a period expiry, as section 3.8 and R26 to R30 give it entry by entry. -/
theorem State.tickTable_eq (s : State) :
    s.tickTable =
      State.enqueue
        { s with
          entries := (List.range s.entries.length).map fun n => (s.tickOf n).entry
          notices := (s.told (·.overrun)).foldl (fun m n => m.raise .overrun (some n)) s.notices }
        (s.told (·.handed)) := by
  simp only [State.tickTable, tickEntries_eq, State.raiseEach_eq, Nat.zero_add, List.map_id', State.told, State.tickOf,
    State.entry]

theorem State.tickTable_entries (s : State) :
    s.tickTable.entries = (List.range s.entries.length).map fun n => (s.tickOf n).entry := by
  rw [State.tickTable_eq, State.enqueue_eq]

theorem State.tickTable_notices (s : State) :
    s.tickTable.notices = (s.told (·.overrun)).foldl (fun m n => m.raise .overrun (some n)) s.notices := by
  rw [State.tickTable_eq, State.enqueue_eq]

theorem State.tickTable_mode (s : State) : s.tickTable.osc.mode = s.osc.mode := by
  rw [State.tickTable_eq, State.enqueue_mode]

theorem State.tickTable_frame (s : State) :
    s.tickTable =
      { s with entries := s.tickTable.entries, notices := s.tickTable.notices, osc := s.tickTable.osc } := by
  rw [State.tickTable_eq, State.enqueue_eq]

end Sys2Proof.Machine
end

section
/-! SUPPORT. One period of an axis (R86 to R89), the drive selector's choice where HOLD neither begins nor ends (R134), the DRIVE
frames (R96), the watch of encoders that are heard (R153), and the expiry of a state in which nothing more follows. -/

namespace Sys2Proof.Machine

open Sys2Proof

/-! ### One axis over a period -/

theorem AxisRec.takeParams_motion (r : AxisRec) (vmax acc : Nat) : (r.takeParams vmax acc).motion = r.motion := by
  unfold AxisRec.takeParams; split <;> rfl

/-- An axis that is not in motion takes the station's speed and acceleration where it has no speed, and no step (R87). -/
theorem AxisRec.period_rest {r : AxisRec} (h : r.inMotion = false) (a : Axis) (vmax acc cap : Nat) :
    r.period a vmax acc cap = { axis := { r.takeParams vmax acc with stepSpeed := 0 }, arrives := false } := by
  have motion := r.takeParams_motion vmax acc
  cases m : r.motion <;> simp_all [AxisRec.period, AxisRec.inMotion]

/-- What a period leaves of an axis record: its requester and the setpoint that waits; and a HELD axis alone is HELD after it. -/
structure AxisRec.PeriodKeeps (r t : AxisRec) : Prop where
  requester : t.requester = r.requester
  waiting : t.waiting = r.waiting
  held : t.motion = .held ↔ r.motion = .held

theorem AxisRec.stepMoving_keeps {r : AxisRec} (m : r.motion = .moving) (a : Axis) (cap : Nat) :
    r.PeriodKeeps (r.stepMoving a cap).axis := by
  simp only [AxisRec.stepMoving]
  repeat' split
  all_goals exact ⟨rfl, rfl, by simp [m]⟩

theorem AxisRec.stepBraking_keeps {r : AxisRec} (m : r.motion = .braking) (a : Axis) :
    r.PeriodKeeps (r.stepBraking a).axis := by
  simp only [AxisRec.stepBraking]
  repeat' split
  all_goals exact ⟨rfl, rfl, by simp [m]⟩

theorem AxisRec.takeParams_keeps (r : AxisRec) (vmax acc : Nat) : r.PeriodKeeps (r.takeParams vmax acc) := by
  unfold AxisRec.takeParams
  split <;> exact ⟨rfl, rfl, Iff.rfl⟩

theorem AxisRec.period_keeps (r : AxisRec) (a : Axis) (vmax acc cap : Nat) :
    r.PeriodKeeps (r.period a vmax acc cap).axis := by
  have motion := r.takeParams_motion vmax acc
  have taken := r.takeParams_keeps vmax acc
  have step : (r.takeParams vmax acc).PeriodKeeps (r.period a vmax acc cap).axis := by
    cases m : (r.takeParams vmax acc).motion with
    | moving => simpa only [AxisRec.period, m] using AxisRec.stepMoving_keeps m a _
    | braking => simpa only [AxisRec.period, m] using AxisRec.stepBraking_keeps m a
    | still => simp only [AxisRec.period, m]; exact ⟨rfl, rfl, by simp [m]⟩
    | held => simp only [AxisRec.period, m]; exact ⟨rfl, rfl, by simp [m]⟩
  exact ⟨step.requester.trans taken.requester, step.waiting.trans taken.waiting, step.held.trans taken.held⟩

/-- An axis that a period leaves at rest, and that was not HELD, is STILL. -/
theorem AxisRec.still_of_rest {r : AxisRec} (rest : r.inMotion = false) (free : r.motion ≠ .held) : r.motion = .still := by
  cases m : r.motion <;> simp_all [AxisRec.inMotion]

theorem AxisRec.rest_of_still {r : AxisRec} (h : r.motion = .still) : r.inMotion = false := by simp [AxisRec.inMotion, h]

theorem AxisRec.rest_of_held {r : AxisRec} (h : r.motion = .held) : r.inMotion = false := by simp [AxisRec.inMotion, h]

/-- A new setpoint or a controlled stop of an axis that is not HELD: the position and the speed of the last step stay, and the axis
is not HELD. -/
structure AxisRec.Turns (r t : AxisRec) : Prop where
  position : t.p = r.p
  stepSpeed : t.stepSpeed = r.stepSpeed
  free : t.motion ≠ .held

theorem AxisRec.startToward_turns (r : AxisRec) (a : Axis) (sp : Int) (q : Requester) :
    r.Turns (r.startToward a sp q).axis := by
  simp only [AxisRec.startToward]
  split <;> exact ⟨rfl, rfl, by simp⟩

theorem AxisRec.turnToward_turns (r : AxisRec) (a : Axis) (sp : Int) (q : Requester) : r.Turns (r.turnToward a sp q) := by
  refine ⟨rfl, rfl, ?_⟩
  simp only [AxisRec.turnToward]
  split <;> simp

theorem AxisRec.retarget_turns {r : AxisRec} (free : r.motion ≠ .held) (a : Axis) (sp : Int) (q : Requester) :
    r.Turns (r.retarget a sp q).axis := by
  cases m : r.motion with
  | held => exact absurd m free
  | still => simpa only [AxisRec.retarget, m] using r.startToward_turns a sp q
  | moving =>
    simp only [AxisRec.retarget, m]
    split
    · exact r.startToward_turns a sp q
    · exact r.turnToward_turns a sp q
  | braking => simpa only [AxisRec.retarget, m] using r.turnToward_turns a sp q

theorem AxisRec.controlledStop_turns {r : AxisRec} (free : r.motion ≠ .held) (a : Axis) (q : Requester) :
    r.Turns (r.controlledStop a q).axis := by
  cases m : r.motion with
  | held => exact absurd m free
  | still => simp only [AxisRec.controlledStop, m]; exact ⟨rfl, rfl, by simp⟩
  | moving =>
    simp only [AxisRec.controlledStop, m]
    split
    · exact ⟨rfl, rfl, by simp⟩
    · exact r.turnToward_turns a _ q
  | braking => simpa only [AxisRec.controlledStop, m] using r.turnToward_turns a _ q

theorem AxisRec.driveFrame_free {r : AxisRec} (h : r.motion ≠ .held) (a : Axis) :
    r.driveFrame a = { axis := a, mode := .position, position := r.pos, speed := r.stepSpeed } := by
  rw [AxisRec.driveFrame, if_neg h]

theorem AxisRec.driveFrame_held {r : AxisRec} (h : r.motion = .held) (a : Axis) :
    r.driveFrame a = { axis := a, mode := .hold, position := r.pos, speed := 0 } := by
  rw [AxisRec.driveFrame, if_pos h]

/-! ### Both axes step -/

/-- What APG does to an axis at a period expiry. -/
def State.stepAct (s : State) (a : Axis) : AxisAct :=
  (s.axis a).period a (stationVmax s.station a) (stationAcc s.station a) (s.sourceCap a)

/-- Both axes have stepped and nothing was reported. -/
def State.stepped (s : State) : State :=
  { s with apg := { s.apg with axes := { h := (s.stepAct .h).axis, v := (s.stepAct .v).axis } } }

@[simp] theorem State.stepped_axis (s : State) (a : Axis) : s.stepped.axis a = (s.stepAct a).axis := by cases a <;> rfl

/-- An arrival changes the pointing in flight and the settle test alone. -/
theorem State.reportArrival_eq (s : State) (a : Axis) (q : Requester) :
    s.reportArrival a q =
      { s with
        pen := { s.pen with pointing := (s.reportArrival a q).pen.pointing }
        apg := { s.apg with settle := (s.reportArrival a q).apg.settle } } := by
  simp only [State.reportArrival, State.pointingArrival]
  repeat' split
  all_goals rfl

/-- The drive selector's cap for an axis whose source is not JOG is its effective speed (R87). -/
theorem State.sourceCap_of_not_jog {s : State} {a : Axis} (h : s.dsl.selected.get a ≠ .jog) :
    s.sourceCap a = s.effectiveSpeed a := by
  rw [State.sourceCap, if_neg h]

/-- An axis that reports no arrival to a pointing just takes its step. -/
theorem State.stepAxis_quiet {s : State} {a : Axis}
    (h : (s.stepAct a).arrives = true → (s.stepAct a).axis.requester = .pointing → s.pen.pointing = none) :
    s.stepAxis a = s.setAxis a (s.stepAct a).axis := by
  unfold State.stepAxis
  change (if (s.stepAct a).arrives then _ else _) = _
  split
  · rename_i arrives
    unfold State.reportArrival
    split
    · simp only [State.pointingArrival, State.setAxis_pen, h arrives ‹_›]
      rfl
    · rfl
  · rfl

theorem State.stepAxes_quiet {s : State}
    (h : ∀ a, (s.stepAct a).arrives = true → (s.stepAct a).axis.requester = .pointing → s.pen.pointing = none) :
    (s.stepAxis .h).stepAxis .v = s.stepped := by
  rw [State.stepAxis_quiet (h .h)]
  exact State.stepAxis_quiet (s := s.setAxis .h _) (h .v)

/-! ### The drive selector's choice where HOLD neither begins nor ends, and the watch of two encoders that are heard -/

/-- Each axis has the source that the choice gives it. -/
def State.chosen (s : State) : State :=
  { s with dsl := { s.dsl with selected := { h := s.wantedSource .h, v := s.wantedSource .v } } }

theorem State.chooseAxis_settled {s : State} {a : Axis} (h : s.wantedSource a = .hold ↔ s.dsl.selected.get a = .hold)
    (atExpiry : Bool) : s.chooseAxis atExpiry a = s.setSource a (s.wantedSource a) := by
  unfold State.chooseAxis
  by_cases want : s.wantedSource a = .hold
  · have same : s.setSource a .hold = s := by rw [← h.mp want, State.setSource, PerAxis.set_get]
    simp [want, h.mp want, same]
  · have other : s.dsl.selected.get a ≠ .hold := fun x => want (h.mpr x)
    simp [want, other]

theorem State.chooseAxes_settled {s : State} (h : ∀ a, s.wantedSource a = .hold ↔ s.dsl.selected.get a = .hold)
    (atExpiry : Bool) : (s.chooseAxis atExpiry .h).chooseAxis atExpiry .v = s.chosen := by
  rw [State.chooseAxis_settled (h .h)]
  exact State.chooseAxis_settled (s := s.setSource .h (s.wantedSource .h)) (h .v) atExpiry

/-- The silence age of an axis after the watch of an encoder that is heard (R153). -/
def State.watchedAge (s : State) (a : Axis) : Nat :=
  if (s.axis a).motion = .held then 0 else s.dvc.silenceAge.get a + 1000

/-- The DRIVE frames of both axes stand in their slots and both encoders have been watched and heard (R96, R153). -/
def State.framed (s : State) : State :=
  { s with
    transmit :=
      { s.transmit with slots := { h := some ((s.axis .h).driveFrame .h), v := some ((s.axis .v).driveFrame .v) } }
    dvc := { s.dvc with silenceAge := { h := s.watchedAge .h, v := s.watchedAge .v } } }

theorem State.framed_slot (s : State) (a : Axis) : s.framed.transmit.slots.get a = some ((s.axis a).driveFrame a) := by
  cases a <;> rfl

theorem State.framed_age (s : State) (a : Axis) : s.framed.dvc.silenceAge.get a = s.watchedAge a := by cases a <;> rfl

/-- The encoder of an axis is not due to be found silent (R153). -/
def State.HeardAt (s : State) (a : Axis) : Prop :=
  s.station.n.angleSilenceExp ≤ 17 ∧ s.dvc.silenceAge.get a + 1000 < 2 ^ s.station.n.angleSilenceExp

theorem State.HeardAt.congr {s t : State} {a : Axis} (h : s.HeardAt a) (station : t.station = s.station)
    (age : t.dvc.silenceAge = s.dvc.silenceAge) : t.HeardAt a := by
  rwa [State.HeardAt, station, age]

theorem State.watchEncoder_heard {s : State} {a : Axis} (h : s.HeardAt a) (raised : Notices) (held : Bool) :
    s.watchEncoder a held raised = s.setSilence a (if held then 0 else s.dvc.silenceAge.get a + 1000) := by
  obtain ⟨exp, heard⟩ := h
  have top : 2 ^ s.station.n.angleSilenceExp ≤ 2 ^ 17 := Nat.pow_le_pow_right (by omega) exp
  have below : min (s.dvc.silenceAge.get a + 1000) 131072 = s.dvc.silenceAge.get a + 1000 := by omega
  cases held <;> simp [State.watchEncoder, below, Nat.not_le.mpr heard]

/-- The DRIVE frames are formed and both encoders are heard (R96, R153). -/
theorem State.formAndWatch_heard {s : State} (h : ∀ a, s.HeardAt a) (raised : Notices) :
    (s.formDrives.watchEncoder .h (decide ((s.axis .h).motion = .held)) raised).watchEncoder .v
        (decide ((s.axis .v).motion = .held)) raised = s.framed := by
  rw [State.watchEncoder_heard (s := s.formDrives) (h .h), State.watchEncoder_heard (a := .v)]
  · simp only [decide_eq_true_eq, State.framed, State.watchedAge]
    rfl
  · exact h .v

theorem exec_periodExpiry {s t : State} {cell : CellRead} (h : s.periodExpires cell = t) :
    exec (.periodExpiry cell) s = .next t := h ▸ rfl

/-- Nothing follows an expiry's own effects but the drive selector's choice where HOLD neither begins nor ends: no jog's stop has
ended, no diversion stop is complete, no dispatch is due and no encoder is silent. -/
structure State.Calm (s : State) : Prop where
  settled : ∀ a, s.wantedSource a = .hold ↔ s.dsl.selected.get a = .hold
  jogging : ∀ x, s.dsl.jog = .stopping x → (s.axis .h).movingFor .jog = true ∨ (s.axis .v).movingFor .jog = true
  going : s.stopComplete = false
  idle : s.osc.mode = .stopped ∨ s.dvc.state ≠ .run
  heard : ∀ a, s.HeardAt a

theorem State.Calm.expiryDrives {s : State} (h : s.Calm) (raised : Notices) :
    s.expiryDrives raised = s.chosen.framed := by
  have choice : s.chooseAtExpiry = s.chosen := State.chooseAxes_settled h.settled true
  unfold State.expiryDrives
  rw [choice]
  exact State.formAndWatch_heard (s := s.chosen) h.heard raised

theorem State.jogTest_same {s : State}
    (h : ∀ x, s.dsl.jog = .stopping x → (s.axis .h).movingFor .jog = true ∨ (s.axis .v).movingFor .jog = true) :
    s.jogTest = s := by
  unfold State.jogTest
  split
  · exact if_pos ((Bool.or_eq_true _ _).mpr (h _ ‹_›))
  · rfl

/-- After the choice and the DRIVE frames the end of the event finds nothing left to do. -/
theorem State.Calm.wrapUpWith {s : State} (h : s.Calm) (raised : Notices) :
    s.chosen.framed.wrapUpWith raised = s.chosen.framed := by
  have jog : s.chosen.framed.jogTest = s.chosen.framed := State.jogTest_same h.jogging
  have choice : s.chosen.framed.choose = s.chosen.framed := State.choose_same fun a => by cases a <;> rfl
  have going : s.chosen.framed.stopComplete = false := h.going
  have dispatch : s.chosen.framed.dispatchReady = false := by
    obtain mode | state := h.idle
    · exact State.dispatchReady_of_stopped mode
    · simp [State.dispatchReady, State.framed, State.chosen, state]
  simp [State.wrapUpWith, jog, choice, State.stopTest, going, State.examineDispatch, dispatch]

/-- Where nothing more follows the work of an expiry, the expiry adds the choice, the DRIVE frames and the silence ages. -/
theorem State.periodExpires_calm {s w : State} {cell : CellRead} (work : s.expiryWork cell (s.expiryRaises cell) = w)
    (h : w.Calm) : s.periodExpires cell = w.chosen.framed.recordMayGo s.restarting := by
  simp only [State.periodExpires, work, h.expiryDrives, h.wrapUpWith]

/-- The same for an expiry whose work ends no diversion stop, in a state that is not a restart stop. -/
theorem State.periodExpires_goesOn {s w : State} {cell : CellRead} (counts : s.expiryCounts cell = w) (h : w.Calm)
    (before : s.restarting = false) (after : w.restarting = false) : s.periodExpires cell = w.chosen.framed := by
  have work : s.expiryWork cell (s.expiryRaises cell) = w := by
    simp [State.expiryWork, counts, State.stopTest, h.going, State.restartTick, after]
  rw [State.periodExpires_calm work h, before]
  rfl

end Sys2Proof.Machine
end

section
/-! SUPPORT. What every period expiry counts: the control period, the tilt age and the burn timer (R1, R12, R169). -/

namespace Sys2Proof.Machine

open Sys2Proof

/-! ### What every period expiry counts -/

theorem State.burnTick_none {s : State} (h : s.scs.burn = none) (cell : CellRead) : s.burnTick cell = s := by
  simp only [State.burnTick, h]

theorem State.burnTick_counts {s : State} {b : Burn} (h : s.scs.burn = some b) (timer : b.timer ≠ 399) (cell : CellRead) :
    s.burnTick cell = { s with scs := { s.scs with burn := some { b with timer := b.timer + 1 } } } := by
  have notDue : ¬b.timer + 1 = 400 := by omega
  simp only [State.burnTick, h, notDue, if_false]

theorem State.completeBurn_base (s : State) (b : Burn) (cell : CellRead) :
    ∃ soft slots, (s.completeBurn b cell).base = { s.base with soft := soft, slots := slots, burn := none } := by
  simp only [State.completeBurn]
  split <;> exact ⟨_, _, rfl⟩

theorem State.burnTick_completes {s : State} {b : Burn} (h : s.scs.burn = some b) (timer : b.timer = 399) (cell : CellRead) :
    ∃ soft slots, (s.burnTick cell).base = { s.base with soft := soft, slots := slots, burn := none } := by
  have due : b.timer + 1 = 400 := by omega
  simp only [State.burnTick, h, due, if_true, State.autoResumeTest_base]
  exact s.completeBurn_base _ cell

/-- The burn timer of a period expiry changes the soft corrections, the slots and the burn of a state's base alone. -/
theorem State.burnTick_base (s : State) (cell : CellRead) :
    ∃ soft slots burn, (s.burnTick cell).base = { s.base with soft := soft, slots := slots, burn := burn } := by
  cases h : s.scs.burn with
  | none => exact ⟨_, _, _, by rw [State.burnTick_none h]⟩
  | some b =>
    by_cases timer : b.timer = 399
    · obtain ⟨soft, slots, eq⟩ := State.burnTick_completes h timer cell
      exact ⟨_, _, _, eq⟩
    · exact ⟨_, _, _, by rw [State.burnTick_counts h timer]; rfl⟩

/-- What a period expiry has counted and stepped before the ages. -/
def State.expiryMoves (s : State) : State := (s.endPeriod.tickTable.rangeTick.pointingTick.stepAxis .h).stepAxis .v

theorem State.expiryMoves_base (s : State) : s.expiryMoves.base = s.base := by simp [State.expiryMoves]

theorem State.expiryCounts_eq (s : State) (cell : CellRead) :
    s.expiryCounts cell = ((s.expiryMoves.ageTick).burnTick cell).jogTick.jogTest := rfl

theorem State.ageTick_base {s t : State} (h : t.base = s.base) :
    t.ageTick.base = { s.base with aru := s.aru.tick s.station.n.tiltStale } := by
  rw [← h, ← show t.aru = s.aru from congrArg Base.aru h, ← show t.station = s.station from congrArg Base.station h]
  rfl

/-- Of the base of a state an expiry changes what the ages and the burn timer change. -/
theorem State.periodExpires_base (s : State) (cell : CellRead) :
    (s.periodExpires cell).base = (s.expiryMoves.ageTick.burnTick cell).base := by
  simp [State.periodExpires, State.expiryDrives, State.chooseAtExpiry, State.expiryWork, State.expiryCounts_eq]

theorem State.periodExpires_periodUs (s : State) (cell : CellRead) : (s.periodExpires cell).stc.periodUs = 0 := by
  have time : (s.periodExpires cell).stc = s.endPeriod.stc := by
    simp [State.periodExpires, State.expiryWork, State.expiryCounts_eq, State.expiryMoves, State.ageTick]
  rw [time, State.endPeriod_periodUs]

/-- The ages and the burn timer, from what they leave of the base: `u` is the state whose ages have been counted. -/
theorem State.counts_of_base {s t u : State} {cell : CellRead}
    (aged : u.base = { s.base with aru := s.aru.tick s.station.n.tiltStale }) (whole : t.base = (u.burnTick cell).base) :
    t.aru = s.aru.tick s.station.n.tiltStale ∧ t.station = s.station
      ∧ t.pending = s.pending ∧ t.requests = s.requests ∧ t.link = s.link
      ∧ (∀ b : Burn, s.scs.burn = some b → b.timer ≠ 399 →
          t.scs.burn = some { b with timer := b.timer + 1 } ∧ t.scs.soft = s.scs.soft ∧ t.scs.slots = s.scs.slots)
      ∧ (∀ b : Burn, s.scs.burn = some b → b.timer = 399 → t.scs.burn = none)
      ∧ (s.scs.burn = none → t.scs.burn = none ∧ t.scs.soft = s.scs.soft ∧ t.scs.slots = s.scs.slots) := by
  have held : u.scs.burn = s.scs.burn := congrArg Base.burn aged
  have soft : u.scs.soft = s.scs.soft := congrArg Base.soft aged
  have slots : u.scs.slots = s.scs.slots := congrArg Base.slots aged
  obtain ⟨_, _, _, ticked⟩ := u.burnTick_base cell
  have all := whole.trans (ticked.trans (by rw [aged]))
  refine ⟨congrArg Base.aru all, congrArg Base.station all, congrArg Base.pending all, congrArg Base.requests all,
    congrArg Base.link all, ?_, ?_, ?_⟩
  · intro b h timer
    rw [State.burnTick_counts (held.trans h) timer] at whole
    exact ⟨congrArg Base.burn whole, (congrArg Base.soft whole).trans soft, (congrArg Base.slots whole).trans slots⟩
  · intro b h timer
    obtain ⟨_, _, done⟩ := State.burnTick_completes (held.trans h) timer cell
    exact congrArg Base.burn (whole.trans done)
  · intro h
    rw [State.burnTick_none (held.trans h)] at whole
    exact ⟨(congrArg Base.burn whole).trans (held.trans h), (congrArg Base.soft whole).trans soft,
      (congrArg Base.slots whole).trans slots⟩

theorem Aru.tick_stale (u : Aru) (limit : Nat) :
    (u.tick limit).tiltStale = true ↔ u.tiltStale = true ∨ limit ≤ min (u.tiltAge + 1) 65535 := by
  simp [Aru.tick, satSucc]

/-- The first part of PeriodExpiryAlwaysCounts: R1, R12, R169 and R175 in every state. -/
theorem State.periodExpires_alwaysCounts (s : State) (cell : CellRead) :
    ∃ t : State, exec (.periodExpiry cell) s = .next t ∧ t.stc.periodUs = 0
      ∧ t.aru.tiltAge = min (s.aru.tiltAge + 1) 65535
      ∧ (t.aru.tiltStale = true ↔ s.aru.tiltStale = true ∨ s.station.n.tiltStale ≤ min (s.aru.tiltAge + 1) 65535)
      ∧ t.aru.tilt = s.aru.tilt ∧ t.aru.jitter = s.aru.jitter ∧ t.aru.zenith = s.aru.zenith ∧ t.station = s.station
      ∧ t.pending = s.pending ∧ t.requests = s.requests ∧ t.link = s.link
      ∧ (∀ b : Burn, s.scs.burn = some b → b.timer ≠ 399 →
          t.scs.burn = some { b with timer := b.timer + 1 } ∧ t.scs.soft = s.scs.soft ∧ t.scs.slots = s.scs.slots)
      ∧ (∀ b : Burn, s.scs.burn = some b → b.timer = 399 → t.scs.burn = none)
      ∧ (s.scs.burn = none → t.scs.burn = none ∧ t.scs.soft = s.scs.soft ∧ t.scs.slots = s.scs.slots) := by
  refine ⟨s.periodExpires cell, rfl, s.periodExpires_periodUs cell, ?_⟩
  have counts := State.counts_of_base (State.ageTick_base s.expiryMoves_base) (s.periodExpires_base cell)
  generalize s.periodExpires cell = t at counts ⊢
  obtain ⟨aru, rest⟩ := counts
  rw [aru]
  exact ⟨rfl, s.aru.tick_stale _, rfl, rfl, rfl, rest⟩

end Sys2Proof.Machine
end

section
/-! SUPPORT. A period expiry with no pointing and no shot, and the jog lease (R139, R140). -/

namespace Sys2Proof.Machine

open Sys2Proof

/-! ### The counts of an expiry with no pointing and no shot -/

theorem State.engaged_moveTimes (s : State) (δ : Int) (n : Nat) : (s.moveTimes δ).engaged n = s.engaged n := by
  simp only [State.engaged, State.moveTimes, Option.map_map, Function.comp_def]

/-- The end of the period and the count of the table, whatever the site time. -/
theorem State.ticked_moved (s : State) :
    ∃ (c : Stc) (δ : Int) (o : Osc), c.periodUs = 0 ∧ o.mode = s.osc.mode
      ∧ s.endPeriod.tickTable =
          { s.moveTimes δ with
            stc := c
            entries := (List.range s.entries.length).map fun n => (s.tickOf n).entry
            notices := (s.told (·.overrun)).foldl (fun m n => m.raise .overrun (some n)) s.notices
            osc := o
            dsl := { s.dsl with restartHold := both false } } := by
  obtain ⟨c, δ, zero, eq⟩ := s.endPeriod_moved
  have tick : s.endPeriod.tickOf = s.tickOf := by
    funext n
    rw [eq]
    exact congrArg (Entry.tick (s.entry n)) (s.engaged_moveTimes δ n)
  have entries : s.endPeriod.entries = s.entries := by rw [eq]; rfl
  refine ⟨c, δ, s.endPeriod.tickTable.osc, zero, by rw [State.tickTable_mode, eq]; rfl, ?_⟩
  rw [State.tickTable_frame, State.tickTable_entries, State.tickTable_notices, State.told, State.told, tick, entries]
  rw [eq]
  rfl

theorem State.moveTimes_pen_idle {s : State} (pointing : s.pen.pointing = none) (shot : s.pen.shot = none) (δ : Int) :
    (s.moveTimes δ).pen = s.pen := by
  rcases hp : s.pen with ⟨p, id, x, r, l⟩
  simp_all [State.moveTimes]

/-- What an expiry's counts leave of a state with no pointing, shot or burn, but for the jog: `w` is the state after one step of
both axes and the ages. -/
structure State.IdleStep (s w : State) : Prop where
  axis : ∀ a, w.axis a = (s.stepAct a).axis
  seen : ∀ a, w.latestRaw a = s.latestRaw a
  entries : w.entries = (List.range s.entries.length).map fun n => (s.tickOf n).entry
  notices : w.notices = (s.told (·.overrun)).foldl (fun m n => m.raise .overrun (some n)) s.notices
  mode : w.osc.mode = s.osc.mode
  pen : w.pen = s.pen
  reports : w.reports = s.reports
  station : w.station = s.station
  dvc : w.dvc = s.dvc
  dsl : w.dsl = { s.dsl with restartHold := both false }

theorem State.expiryCounts_idle {s : State} (pointing : s.pen.pointing = none) (shot : s.pen.shot = none)
    (burn : s.scs.burn = none) (cell : CellRead) :
    ∃ w, s.IdleStep w ∧ s.expiryCounts cell = w.jogTick.jogTest := by
  obtain ⟨c, δ, o, -, mode, eq⟩ := s.ticked_moved
  have pen : s.endPeriod.tickTable.pen = s.pen := by rw [eq]; exact State.moveTimes_pen_idle pointing shot δ
  have range : s.endPeriod.tickTable.rangeTick = s.endPeriod.tickTable := by simp only [State.rangeTick, pen, shot]
  have timers : s.endPeriod.tickTable.pointingTick = s.endPeriod.tickTable := by
    simp only [State.pointingTick, pen, pointing]
  have moves : s.expiryMoves = s.endPeriod.tickTable.stepped := by
    rw [State.expiryMoves, range, timers]
    exact State.stepAxes_quiet fun _ _ _ => by rw [pen, pointing]
  refine ⟨s.endPeriod.tickTable.stepped.ageTick, ?_, ?_⟩
  · rw [eq]
    exact ⟨fun a => by cases a <;> rfl, fun a => (s.latestRaw_moveTimes δ a), rfl, rfl, mode,
      State.moveTimes_pen_idle pointing shot δ, rfl, rfl, rfl, rfl⟩
  · have none : s.endPeriod.tickTable.stepped.ageTick.scs.burn = none := by rw [eq]; exact burn
    rw [State.expiryCounts_eq, moves, State.burnTick_none none]

/-! ### Where the choice is not HOLD -/

theorem State.wanted_ne_hold {s : State} {a : Axis} (free : s.dvc.state.holds = false) (seen : (s.latestRaw a).isSome)
    (noHold : s.dsl.restartHold.get a = false) : s.wantedSource a ≠ .hold := by
  have some : (s.latestRaw a).isNone = false := by simpa using seen
  simp only [State.wantedSource, free, some, noHold, Bool.or_self, Bool.false_eq_true, if_false]
  repeat' split
  all_goals simp

/-- HOLD is neither selected nor wanted. -/
theorem State.settled_of_unheld {s : State} (free : s.dvc.state.holds = false) (seen : ∀ a, (s.latestRaw a).isSome)
    (noHold : s.dsl.restartHold = both false) (unheld : ∀ a, s.dsl.selected.get a ≠ .hold) (a : Axis) :
    s.wantedSource a = .hold ↔ s.dsl.selected.get a = .hold :=
  iff_of_false (State.wanted_ne_hold free (seen a) (by simp [noHold])) (unheld a)

/-! ### The jog lease (R139, R140) -/

theorem AxisRec.Turns.refl {r : AxisRec} (free : r.motion ≠ .held) : r.Turns r := ⟨rfl, rfl, free⟩

theorem State.retarget_of_jog (s : State) (a : Axis) (sp : Int) :
    s.retarget a sp .jog = (s.setAxis a ((s.axis a).retarget a sp .jog).axis).setSettle none := by
  simp only [State.retarget, State.reportArrival]
  split <;> rfl

/-- A lease that goes on counts down, and a moving H axis is sent on ahead. -/
theorem State.jogTick_on {s : State} {n : Nat} {speed : PerAxis Int} (jog : s.dsl.jog = .leased n speed) (on : 1 < n) :
    s.jogTick.jogTest = (s.setJog (.leased (n - 1) speed)).extendJog speed.h := by
  have tick : s.jogTick = (s.setJog (.leased (n - 1) speed)).extendJog speed.h := by
    simp only [State.jogTick, jog, Nat.not_le.mpr on, if_false]
  have leased : ((s.setJog (.leased (n - 1) speed)).extendJog speed.h).dsl.jog = .leased (n - 1) speed := by
    simp only [State.extendJog, State.retarget_of_jog]
    split <;> rfl
  rw [tick]
  exact State.jogTest_same fun x h => by rw [leased] at h; cases h

/-- A lease that ends stops both axes under control. -/
theorem State.stopJog_eq (s : State) (speed : PerAxis Int) :
    s.stopJog speed =
      { s with
        apg :=
          { axes := { h := ((s.axis .h).controlledStop .h .jog).axis, v := ((s.axis .v).controlledStop .v .jog).axis },
            settle := none }
        dsl := { s.dsl with jog := .stopping speed } } := by
  simp only [State.stopJog, State.stopAxis, State.axis, State.setSettle, State.setAxis, State.setJog, PerAxis.set,
    PerAxis.get]

theorem State.jogTest_stopping {s : State} {speed : PerAxis Int} (jog : s.dsl.jog = .stopping speed) :
    s.jogTest =
      s.setJog (if (s.axis .h).movingFor .jog = true ∨ (s.axis .v).movingFor .jog = true then .stopping speed else .none) := by
  simp only [State.jogTest, jog, Bool.or_eq_true]
  split
  · rw [← jog]; rfl
  · rfl

/-- The jog is over where neither axis is in motion for it. -/
theorem State.jogTick_off {s : State} {n : Nat} {speed : PerAxis Int} (jog : s.dsl.jog = .leased n speed) (off : n ≤ 1) :
    let t := s.stopJog speed
    s.jogTick.jogTest =
      t.setJog (if (t.axis .h).movingFor .jog = true ∨ (t.axis .v).movingFor .jog = true then .stopping speed else .none) := by
  have tick : s.jogTick = s.stopJog speed := by simp only [State.jogTick, jog, off, if_true]
  rw [tick]
  exact State.jogTest_stopping rfl

theorem State.extendJog_ahead {s : State} {j : Int} (h : j ≠ 0 ∧ (s.axis .h).motion = .moving) :
    s.extendJog j = (s.setAxis .h ((s.axis .h).retarget .h (s.jogEnd .h j) .jog).axis).setSettle none := by
  rw [State.extendJog, if_pos h, State.retarget_of_jog]

theorem State.extendJog_same {s : State} {j : Int} (h : ¬(j ≠ 0 ∧ (s.axis .h).motion = .moving)) : s.extendJog j = s := by
  rw [State.extendJog, if_neg h]

theorem Jog.stops_of_ite {c : Prop} [Decidable c] {x y : PerAxis Int}
    (h : (if c then Jog.stopping x else .none) = .stopping y) : c := by
  by_contra no
  rw [if_neg no] at h
  cases h

/-- A jog lease runs in RUN with the scheduler STOPPED, both encoders seen and neither axis held. -/
structure State.OnLease (s : State) (n : Nat) (speed : PerAxis Int) : Prop where
  jog : s.dsl.jog = .leased n speed
  run : s.dvc.state = .run
  pointing : s.pen.pointing = none
  shot : s.pen.shot = none
  burn : s.scs.burn = none
  stopped : s.osc.mode = .stopped
  seen : ∀ a, (s.latestRaw a).isSome
  free : ∀ a, (s.axis a).motion ≠ .held
  source : s.dsl.selected = both .jog
  heard : ∀ a, s.HeardAt a

/-- What an expiry leaves, where its counts leave `u`: the state `w` after the steps, with the jog and the axes on their way. -/
theorem State.OnLease.expiry {s w u : State} {n : Nat} {speed : PerAxis Int} {cell : CellRead} (h : s.OnLease n speed)
    (idle : s.IdleStep w) (counts : s.expiryCounts cell = u)
    (same : u = { w with apg := u.apg, dsl := { w.dsl with jog := u.dsl.jog } })
    (turns : ∀ a, (w.axis a).Turns (u.axis a))
    (jogging : ∀ x, u.dsl.jog = .stopping x → (u.axis .h).movingFor .jog = true ∨ (u.axis .v).movingFor .jog = true) :
    ∃ t : State, exec (.periodExpiry cell) s = .next t ∧ t.pen = s.pen ∧ t.reports = s.reports ∧ t.dvc.state = .run
      ∧ (∀ a, t.transmit.slots.get a =
          some { axis := a, mode := .position, position := (w.axis a).pos, speed := (w.axis a).stepSpeed })
      ∧ t.dsl.jog = u.dsl.jog ∧ ∀ a, t.axis a = u.axis a := by
  have dvc : u.dvc = s.dvc := by rw [same]; exact idle.dvc
  have station : u.station = s.station := by rw [same]; exact idle.station
  have mode : u.osc.mode = s.osc.mode := by rw [same]; exact idle.mode
  have pen : u.pen = s.pen := by rw [same]; exact idle.pen
  have reports : u.reports = s.reports := by rw [same]; exact idle.reports
  have seen : ∀ a, u.latestRaw a = s.latestRaw a := fun a => by rw [same]; exact idle.seen a
  have noHold : u.dsl.restartHold = both false := by rw [same, idle.dsl]
  have source : u.dsl.selected = both .jog := by rw [same, idle.dsl]; exact h.source
  have run : u.dvc.state = .run := by rw [dvc, h.run]
  have calm : u.Calm :=
    { settled := State.settled_of_unheld (by simp [run, DvcState.holds]) (fun a => by rw [seen]; exact h.seen a) noHold
        (by simp [source])
      jogging := jogging
      going := State.stopComplete_of_state (by simp [run])
      idle := .inl (by rw [mode, h.stopped])
      heard := fun a => (h.heard a).congr station (by rw [dvc]) }
  have expiry := State.periodExpires_goesOn counts calm (State.restarting_of_state (by simp [h.run]))
    (State.restarting_of_state (by simp [run]))
  refine ⟨u.chosen.framed, exec_periodExpiry expiry, pen, reports, run, fun a => ?_, rfl, fun _ => rfl⟩
  obtain ⟨position, stepSpeed, free⟩ := turns a
  rw [State.framed_slot, show u.chosen.axis a = u.axis a from rfl, AxisRec.driveFrame_free free, AxisRec.pos, AxisRec.pos,
    position, stepSpeed]

/-- The second part of PeriodExpiryAlwaysCounts: R87, R139 and R140. -/
theorem State.periodExpires_jogLease (s : State) (cell : CellRead) (n : Nat) (speed : PerAxis Int) (h : s.OnLease n speed)
    (act : Axis → AxisRec) (steps : ∀ a, (s.stepAct a).axis = act a) :
    let ends := fun a : Axis => ((act a).controlledStop a .jog).axis
    let far := mod24 ((act .h).pos + if 0 < speed.h then 8000000 else -8000000)
    ∃ t : State, exec (.periodExpiry cell) s = .next t ∧ t.pen = s.pen ∧ t.reports = s.reports ∧ t.dvc.state = .run
      ∧ (∀ a, t.transmit.slots.get a =
          some { axis := a, mode := .position, position := (act a).pos, speed := (act a).stepSpeed })
      ∧ (1 < n → t.dsl.jog = .leased (n - 1) speed ∧ t.axis .v = act .v
          ∧ (speed.h ≠ 0 ∧ (act .h).motion = .moving → t.axis .h = ((act .h).retarget .h far .jog).axis)
          ∧ (¬(speed.h ≠ 0 ∧ (act .h).motion = .moving) → t.axis .h = act .h))
      ∧ (n ≤ 1 → (∀ a, t.axis a = ends a)
          ∧ t.dsl.jog = if (ends .h).movingFor .jog = true ∨ (ends .v).movingFor .jog = true then .stopping speed else .none) := by
  intro ends far
  obtain ⟨w, idle, counts⟩ := State.expiryCounts_idle h.pointing h.shot h.burn cell
  obtain rfl : w.axis = act := funext fun a => (idle.axis a).trans (steps a)
  have free : ∀ a, (w.axis a).motion ≠ .held := fun a => by
    rw [idle.axis]; exact fun x => h.free a (((s.axis a).period_keeps a _ _ _).held.mp x)
  have lease : w.dsl.jog = .leased n speed := by rw [idle.dsl]; exact h.jog
  by_cases on : 1 < n
  · have off : ¬n ≤ 1 := by omega
    have tick := counts.trans (State.jogTick_on lease on)
    by_cases ahead : speed.h ≠ 0 ∧ (w.axis .h).motion = .moving
    · obtain ⟨t, next, pen, reports, run, slots, jog, axis⟩ := h.expiry idle
        (tick.trans (State.extendJog_ahead (s := w.setJog (.leased (n - 1) speed)) ahead)) rfl
        (fun a => match a with
          | .h => AxisRec.retarget_turns (free .h) .h _ .jog
          | .v => AxisRec.Turns.refl (free .v))
        (fun x h => nomatch h)
      exact ⟨t, next, pen, reports, run, slots,
        fun _ => ⟨jog, axis .v, fun _ => axis .h, fun no => absurd ahead no⟩,
        fun x => absurd x off⟩
    · obtain ⟨t, next, pen, reports, run, slots, jog, axis⟩ := h.expiry idle
        (tick.trans (State.extendJog_same (s := w.setJog (.leased (n - 1) speed)) ahead)) rfl
        (fun a => AxisRec.Turns.refl (free a)) (fun x h => nomatch h)
      exact ⟨t, next, pen, reports, run, slots,
        fun _ => ⟨jog, axis .v, fun yes => absurd yes ahead, fun _ => axis .h⟩, fun x => absurd x off⟩
  · have tick := counts.trans (State.jogTick_off lease (by omega))
    rw [State.stopJog_eq] at tick
    obtain ⟨t, next, pen, reports, run, slots, jog, axis⟩ := h.expiry idle tick rfl
      (fun a => match a with
        | .h => AxisRec.controlledStop_turns (free .h) .h .jog
        | .v => AxisRec.controlledStop_turns (free .v) .v .jog)
      (fun x h => Jog.stops_of_ite h)
    exact ⟨t, next, pen, reports, run, slots, fun x => absurd x on,
      fun _ => ⟨fun a => by rw [axis]; cases a <;> rfl, jog⟩⟩

end Sys2Proof.Machine
end

section
/-! SUPPORT. A period expiry of the restart stop, and the warm values (R161, R162, R40). -/

namespace Sys2Proof.Machine

open Sys2Proof

/-! ### The restart stop (R161, R162) -/

/-- The warm values of R40 by entry state. -/
theorem Entry.warm_eq (e : Entry) :
    e.warm =
      if e.state = .armed ∨ e.state = .due ∨ e.state = .active ∨ e.state = .backoff then
        { e with state := .armed, countdown := e.definition.offset, misses := 0, retry := none, deferred := false }
      else if e.state = .empty then { e with countdown := 0, misses := 0, overruns := 0, retry := none, deferred := false }
      else { e with retry := none, deferred := false } := by
  cases h : e.state <;> simp [Entry.warm, h]

/-- The warm values of every block, before the drive selector's choice, where no context is saved (R162, R40). -/
def State.warmed (s : State) (raised : Notices) : State :=
  { s with
    notices := raised
    entries := s.entries.map Entry.warm
    osc := s.osc.warm
    squ := zeroSqu
    apg :=
      { axes :=
          { h := { s.apg.axes.h with waiting := none, requester := .nobody },
            v := { s.apg.axes.v with waiting := none, requester := .nobody } },
        settle := none }
    dsl := { s.dsl with jog := .none }
    sdu := { s.sdu with groups := s.sdu.groups.map fun g : DerateGroup => { g with active := false } }
    reports := { s.reports with feedCount := 0 }
    scs := { s.scs with guard := 0 }
    dvc :=
      { s.dvc with
        state := .run, cause := .none, resumeMode := none, ordinary := none, critical := none, restartTimer := none,
        level := .level, beyond := 0, within := 0 } }

theorem State.warmValues_eq {s : State} (ordinary : s.dvc.ordinary = none) (critical : s.dvc.critical = none)
    (raised : Notices) : s.warmValues raised = (s.warmed raised).choose := by
  have discard : State.discardContexts { s with notices := raised }
      = { s with notices := raised, dvc := { s.dvc with ordinary := none, critical := none } } := by
    simp only [State.discardContexts, ordinary, critical, Option.bind_none, State.abandonTarget, if_true]
    rfl
  simp only [State.warmValues, discard]
  rfl

theorem State.warmed_axis (s : State) (raised : Notices) (a : Axis) :
    (s.warmed raised).axis a = { s.axis a with waiting := none, requester := .nobody } := by cases a <;> rfl

/-- `x` is `u` with each axis in motion put into HOLD, to be let go no sooner than the next period (R133, R161), and nothing else
changed but a POSITION frame that is cut off, the settle test and the restart timer. -/
structure State.CutShort (u x : State) : Prop where
  same : x =
    { u with
      apg := x.apg
      dsl := { u.dsl with selected := x.dsl.selected, restartHold := x.dsl.restartHold }
      transmit := x.transmit
      dvc := { u.dvc with restartTimer := x.dvc.restartTimer } }
  axis : ∀ a, x.axis a = if (u.axis a).inMotion then (u.axis a).enterHold else u.axis a
  source : ∀ a, x.dsl.selected.get a = if (u.axis a).inMotion then .hold else u.dsl.selected.get a
  kept : ∀ a, x.dsl.restartHold.get a = if (u.axis a).inMotion then true else u.dsl.restartHold.get a

/-- One axis of a restart stop that is cut short. -/
def State.cutAxis (s : State) (a : Axis) : State :=
  if (s.axis a).inMotion then
    { s.holdAxis a with dsl := { (s.holdAxis a).dsl with restartHold := (s.holdAxis a).dsl.restartHold.set a true } }
  else s

/-- HOLD is selected for one axis: what it changes. -/
theorem State.holdAxis_eq (s : State) (a : Axis) :
    ∃ sent, s.holdAxis a =
      { s with
        apg := { axes := s.apg.axes.set a (s.axis a).enterHold, settle := none }
        dsl := { s.dsl with selected := s.dsl.selected.set a .hold }
        transmit :=
          { s.transmit with
            axis := sent, slots := s.transmit.slots.set a (some ((s.axis a).enterHold.driveFrame a)) } } := by
  refine ⟨(s.holdAxis a).transmit.axis, ?_⟩
  simp only [State.holdAxis, State.setAxis, State.setSettle, State.setSource, State.setSlot]
  repeat' split
  all_goals rfl

theorem State.cutAxis_eq (s : State) (a : Axis) :
    ∃ settle transmit, s.cutAxis a =
      { s with
        apg := { axes := s.apg.axes.set a (if (s.axis a).inMotion then (s.axis a).enterHold else s.axis a), settle := settle }
        transmit := transmit
        dsl :=
          { s.dsl with
            selected := s.dsl.selected.set a (if (s.axis a).inMotion then .hold else s.dsl.selected.get a)
            restartHold := s.dsl.restartHold.set a (if (s.axis a).inMotion then true else s.dsl.restartHold.get a) } } := by
  unfold State.cutAxis
  by_cases m : (s.axis a).inMotion
  · obtain ⟨sent, held⟩ := s.holdAxis_eq a
    simp only [m, if_true, held]
    exact ⟨_, _, rfl⟩
  · have same : s.apg.axes.set a (s.axis a) = s.apg.axes := PerAxis.set_get _ _
    exact ⟨s.apg.settle, s.transmit, by simp only [m, Bool.false_eq_true, if_false, same, PerAxis.set_get]⟩

theorem State.cutShort (u : State) : u.CutShort ((u.cutAxis .h).cutAxis .v) := by
  obtain ⟨_, _, first⟩ := u.cutAxis_eq .h
  obtain ⟨_, _, second⟩ := (u.cutAxis .h).cutAxis_eq .v
  rw [second, first]
  exact ⟨rfl, fun a => by cases a <;> rfl, fun a => by cases a <;> rfl, fun a => by cases a <;> rfl⟩

theorem State.CutShort.of_timer {u x : State} {n : Option Nat}
    (h : (u.setDvc { u.dvc with restartTimer := n }).CutShort x) : u.CutShort x := ⟨h.same, h.axis, h.source, h.kept⟩

/-- With no axis in motion there is nothing to cut short. -/
theorem State.CutShort.of_rest {u : State} (h : u.axesStill = true) : u.CutShort u := by
  have rest : ∀ a, (u.axis a).inMotion = false := by
    simp only [State.axesStill, Bool.and_eq_true, Bool.not_eq_true'] at h
    exact fun a => match a with
      | .h => h.1
      | .v => h.2
  exact ⟨rfl, fun a => by simp [rest a], fun a => by simp [rest a], fun a => by simp [rest a]⟩

/-- The restart stop of R161 with nothing else in hand: no pointing, shot, jog, burn or context, both encoders seen and neither axis
held; PARK is selected for no axis in motion. -/
structure State.RestartStop (s : State) : Prop where
  restarting : s.restarting = true
  pointing : s.pen.pointing = none
  shot : s.pen.shot = none
  jog : s.dsl.jog = .none
  burn : s.scs.burn = none
  ordinary : s.dvc.ordinary = none
  critical : s.dvc.critical = none
  seen : ∀ a, (s.latestRaw a).isSome
  free : ∀ a, (s.axis a).motion ≠ .held
  source : ∀ a, s.dsl.selected.get a = .aim ∨ (s.dsl.selected.get a = .park ∧ (s.axis a).motion = .still)
  heard : ∀ a, s.HeardAt a

theorem State.RestartStop.stopping {s : State} (h : s.RestartStop) : s.dvc.state = .stopping ∧ s.dvc.cause = .restart := by
  simpa [State.restarting] using h.restarting

theorem State.RestartStop.unheld {s : State} (h : s.RestartStop) (a : Axis) : s.dsl.selected.get a ≠ .hold := by
  obtain aim | ⟨park, -⟩ := h.source a
  · simp [aim]
  · simp [park]

theorem State.RestartStop.expiryCounts {s : State} (h : s.RestartStop) (cell : CellRead) : s.IdleStep (s.expiryCounts cell) := by
  obtain ⟨w, idle, counts⟩ := State.expiryCounts_idle h.pointing h.shot h.burn cell
  have jog : w.dsl.jog = .none := by rw [idle.dsl]; exact h.jog
  have same : w.jogTick.jogTest = w := by
    have tick : w.jogTick = w := by simp only [State.jogTick, jog]
    rw [tick]
    exact State.jogTest_same fun x y => by rw [jog] at y; cases y
  rw [counts, same]
  exact idle

/-- The notices that the expiry raises from a cleared summary are its OVERRUN notices (log entry 37). -/
theorem State.RestartStop.raises {s : State} (h : s.RestartStop) (cell : CellRead) :
    s.expiryRaises cell = (s.told (·.overrun)).foldl (fun m n => m.raise .overrun (some n)) clearNotices := by
  have cleared : s.clearSummary.RestartStop :=
    ⟨h.restarting, h.pointing, h.shot, h.jog, h.burn, h.ordinary, h.critical, h.seen, h.free, h.source, h.heard⟩
  exact (cleared.expiryCounts cell).notices

theorem State.wanted_park {s : State} {a : Axis} (free : s.dvc.state.holds = false) (seen : (s.latestRaw a).isSome)
    (noHold : s.dsl.restartHold.get a = false) (pointing : s.pen.pointing = none) (jog : s.dsl.jog = .none)
    (rest : (s.axis a).inMotion = false) : s.wantedSource a = .park := by
  have some : (s.latestRaw a).isNone = false := by simpa using seen
  simp [State.wantedSource, free, some, noHold, State.busy, pointing, AxisRec.movingFor, rest, jog, Jog.running]

/-- The warm values that end a restart stop, with each axis in motion put into HOLD: `u` is the state after the expiry's counts. -/
theorem State.RestartStop.warms {s u x : State} (h : s.RestartStop) (idle : s.IdleStep u) (cut : u.CutShort x)
    (raised : Notices) :
    x.warmValues raised = (x.warmed raised).chosen ∧ (x.warmed raised).chosen.Calm
      ∧ ∀ a, (x.warmed raised).wantedSource a = if (u.axis a).inMotion then .hold else .park := by
  have dvc : x.dvc = { s.dvc with restartTimer := x.dvc.restartTimer } := by rw [cut.same, idle.dvc]
  have station : x.station = s.station := by rw [cut.same]; exact idle.station
  have pen : x.pen = s.pen := by rw [cut.same]; exact idle.pen
  have seen : ∀ a, x.latestRaw a = s.latestRaw a := fun a => by rw [cut.same]; exact idle.seen a
  have kept : ∀ a, (x.warmed raised).dsl.restartHold.get a = (u.axis a).inMotion := fun a => by
    refine (cut.kept a).trans ?_
    rw [idle.dsl]
    cases (u.axis a).inMotion <;> simp
  have source : ∀ a, (u.axis a).inMotion = false → x.dsl.selected.get a = s.dsl.selected.get a := fun a m => by
    rw [cut.source a, idle.dsl, m]
    rfl
  have wanted : ∀ a, (x.warmed raised).wantedSource a = if (u.axis a).inMotion then .hold else .park := by
    intro a
    cases m : (u.axis a).inMotion with
    | true => simp [State.wantedSource, kept a, m]
    | false =>
      have rest : ((x.warmed raised).axis a).inMotion = false := by
        rw [State.warmed_axis]
        exact (congrArg AxisRec.inMotion (cut.axis a)).trans (by simp [m])
      exact State.wanted_park rfl ((congrArg Option.isSome (seen a)).trans (h.seen a)) ((kept a).trans m)
        ((congrArg Pen.pointing pen).trans h.pointing) rfl rest
  have settled : ∀ a, (x.warmed raised).wantedSource a = .hold ↔ (x.warmed raised).dsl.selected.get a = .hold := by
    intro a
    have selected : (x.warmed raised).dsl.selected = x.dsl.selected := rfl
    rw [wanted a, selected]
    cases m : (u.axis a).inMotion with
    | true => simp [cut.source a, m]
    | false => simpa [source a m] using h.unheld a
  have calm : (x.warmed raised).chosen.Calm :=
    { settled := fun a => by cases a <;> exact Iff.rfl
      jogging := fun _ y => nomatch y
      going := rfl
      idle := .inl rfl
      heard := fun a => (h.heard a).congr station (show x.dvc.silenceAge = _ by rw [dvc]) }
  have values := State.warmValues_eq (s := x) (by rw [dvc]; exact h.ordinary) (by rw [dvc]; exact h.critical) raised
  exact ⟨values.trans (State.chooseAxes_settled settled false), calm, wanted⟩

/-- The expiry's own work in a restart stop: it goes on, it is complete, or it is cut short (R161). -/
theorem State.RestartStop.work {s u : State} {cell : CellRead} (h : s.RestartStop) (counts : s.expiryCounts cell = u)
    (raised : Notices) :
    let timer := s.dvc.restartTimer.getD 0 + 1
    let on := u.setDvc { u.dvc with restartTimer := some timer }
    (u.axesStill = false → timer < 2000 → s.expiryWork cell raised = on)
      ∧ (u.axesStill = false → 2000 ≤ timer → s.expiryWork cell raised = on.restartExpires raised)
      ∧ (u.axesStill = true → s.expiryWork cell raised = (u.warmValues raised).restartTick raised) := by
  intro timer on
  have idle := h.expiryCounts cell
  rw [counts] at idle
  obtain ⟨state, cause⟩ := h.stopping
  have complete : u.stopComplete = u.axesStill := by
    simp [State.stopComplete, idle.dvc, state, State.shotInHand, idle.pen, h.shot]
  have restarting : u.restarting = true := by simp [State.restarting, idle.dvc, state, cause]
  have time : u.dvc.restartTimer = s.dvc.restartTimer := by rw [idle.dvc]
  have stop : u.axesStill = false → u.stopTest raised = u := fun moves => by simp [State.stopTest, complete, moves]
  have due : s.expiryWork cell raised = (u.stopTest raised).restartTick raised := by rw [State.expiryWork, counts]
  have tick : u.restartTick raised
      = if 2000 ≤ timer ∧ ¬u.axesStill then on.restartExpires raised else on := by
    simp only [State.restartTick, restarting, if_true, time]
    rfl
  refine ⟨fun moves short => ?_, fun moves long => ?_, fun rest => ?_⟩
  · rw [due, stop moves, tick, if_neg (by omega)]
  · rw [due, stop moves, tick, if_pos ⟨long, by simp [moves]⟩]
  · rw [due, State.stopTest, complete, if_pos rest, if_pos (by rw [idle.dvc, cause])]

/-- A restart stop that goes on is calm. -/
theorem State.RestartStop.calm {s u : State} (h : s.RestartStop) (idle : s.IdleStep u) (moves : u.axesStill = false)
    {timer : Option Nat} : (u.setDvc { u.dvc with restartTimer := timer }).Calm := by
  obtain ⟨state, -⟩ := h.stopping
  have stopping : u.dvc.state = .stopping := by rw [idle.dvc, state]
  have noHold : u.dsl.restartHold = both false := by rw [idle.dsl]
  have free : u.dvc.state.holds = false := by rw [stopping]; rfl
  exact
    { settled := State.settled_of_unheld free (fun a => (congrArg Option.isSome (idle.seen a)).trans (h.seen a)) noHold
        fun a => by rw [State.setDvc_dsl, idle.dsl]; exact h.unheld a
      jogging := fun x y => by rw [State.setDvc_dsl, idle.dsl, h.jog] at y; cases y
      going := by
        have still : (u.setDvc { u.dvc with restartTimer := timer }).axesStill = false := moves
        simp [State.stopComplete, still]
      idle := .inr (by simp [stopping])
      heard := fun a => (h.heard a).congr idle.station (by rw [State.setDvc_dvc, idle.dvc]) }

/-- An OBS frame that may go changes the controller-port transmitter alone. -/
theorem State.recordMayGo_eq (s : State) (b : Bool) :
    ∃ sent, s.recordMayGo b = { s with transmit := { s.transmit with controller := sent } } := by
  unfold State.recordMayGo
  split
  · obtain same | ⟨r, _, _, _, _, begun⟩ := s.beginObs_cases
    · exact ⟨s.transmit.controller, same⟩
    · exact ⟨_, begun⟩
  · exact ⟨s.transmit.controller, rfl⟩

theorem State.axesStill_false {s : State} : s.axesStill = false ↔ ∃ a, (s.axis a).inMotion = true := by
  constructor
  · intro h
    by_contra no
    push Not at no
    simp [State.axesStill, Bool.eq_false_iff.mpr (no .h), Bool.eq_false_iff.mpr (no .v)] at h
  · rintro ⟨a, m⟩
    cases a <;> simp [State.axesStill, m]

/-- What the warm values leave after an expiry of a restart stop (R162, R40, R177): `act` gives each axis after its step. -/
def State.WarmAfter (s t : State) (act : Axis → AxisRec) : Prop :=
  t.dvc.state = .run ∧ t.dvc.cause = .none ∧ t.dvc.restartTimer = none ∧ t.osc.mode = .stopped ∧ t.osc.queue = []
    ∧ t.dvc.level = .level ∧ t.dvc.report = s.dvc.report
    ∧ t.notices = (s.told (·.overrun)).foldl (fun m n => m.raise .overrun (some n)) clearNotices
    ∧ (∀ n e, s.entries[n]? = some e → t.entries[n]? = some (s.tickOf n).entry.warm)
    ∧ ∀ a, (act a).inMotion = false → (t.axis a).motion = .still ∧ t.dsl.selected.get a = .park

theorem State.RestartStop.warmAfter {s u x : State} {cell : CellRead} (h : s.RestartStop) (idle : s.IdleStep u)
    (cut : u.CutShort x) (work : s.expiryWork cell (s.expiryRaises cell) = x.warmValues (s.expiryRaises cell)) :
    ∃ t : State, exec (.periodExpiry cell) s = .next t ∧ t.pen = s.pen ∧ s.WarmAfter t u.axis
      ∧ ∀ a, (u.axis a).inMotion = true →
          (t.axis a).motion = .held ∧ (t.axis a).s = 0 ∧ (t.axis a).setpoint = none ∧ (t.axis a).p = (u.axis a).p
            ∧ t.dsl.selected.get a = .hold
            ∧ t.transmit.slots.get a = some { axis := a, mode := .hold, position := (u.axis a).pos, speed := 0 } := by
  obtain ⟨values, calm, wanted⟩ := h.warms idle cut (s.expiryRaises cell)
  have expiry := State.periodExpires_calm (work.trans values) calm
  generalize hr : s.expiryRaises cell = raised at *
  obtain ⟨sent, last⟩ := (x.warmed raised).chosen.chosen.framed.recordMayGo_eq s.restarting
  have axis : ∀ a, (x.warmed raised).axis a = { (if (u.axis a).inMotion then (u.axis a).enterHold else u.axis a) with
      waiting := none, requester := .nobody } := fun a => by rw [State.warmed_axis, cut.axis a]
  have selected : ∀ a, (x.warmed raised).chosen.dsl.selected.get a = if (u.axis a).inMotion then .hold else .park :=
    fun a => by rw [← wanted a]; cases a <;> rfl
  have entries : x.entries = (List.range s.entries.length).map fun n => (s.tickOf n).entry := by
    rw [cut.same]; exact idle.entries
  refine ⟨_, exec_periodExpiry (expiry.trans last), ?pen, ⟨rfl, rfl, rfl, rfl, rfl, rfl, ?report, ?notices, ?entries, ?rest⟩,
    ?moving⟩
  case pen => exact (show x.pen = s.pen by rw [cut.same]; exact idle.pen)
  case report => exact (show x.dvc.report = s.dvc.report by rw [cut.same, idle.dvc])
  case notices => exact hr.symm.trans (h.raises cell)
  case entries =>
    intro n e he
    have short := (List.getElem?_eq_some_iff.mp he).1
    change (x.entries.map Entry.warm)[n]? = _
    simp [entries, short]
  case rest =>
    intro a rest
    have free : (u.axis a).motion ≠ .held := fun x => h.free a (((s.axis a).period_keeps a _ _ _).held.mp
      ((congrArg AxisRec.motion (idle.axis a)).symm.trans x))
    have still : ((x.warmed raised).axis a).motion = .still := by
      simpa [axis a, rest] using AxisRec.still_of_rest rest free
    exact ⟨still, (selected a).trans (by simp [rest])⟩
  case moving =>
    intro a m
    have held : (x.warmed raised).axis a = { (u.axis a).enterHold with waiting := none, requester := .nobody } := by
      rw [axis a, if_pos m]
    have position : ((x.warmed raised).axis a).p = (u.axis a).p := by rw [held]; rfl
    have motion : ((x.warmed raised).axis a).motion = .held := by rw [held]; rfl
    have frame : ((x.warmed raised).axis a).driveFrame a = { axis := a, mode := .hold, position := (u.axis a).pos, speed := 0 } := by
      rw [AxisRec.driveFrame_held motion, AxisRec.pos, position, AxisRec.pos]
    refine ⟨motion, congrArg AxisRec.s held, congrArg AxisRec.setpoint held, position, (selected a).trans (by simp [m]), ?_⟩
    exact ((x.warmed raised).chosen.chosen.framed_slot a).trans (congrArg some frame)

/-- The third part of PeriodExpiryAlwaysCounts: R161. -/
theorem State.periodExpires_restartStop (s : State) (cell : CellRead) (h : s.RestartStop) (act : Axis → AxisRec)
    (steps : ∀ a, (s.stepAct a).axis = act a) :
    let timer := s.dvc.restartTimer.getD 0 + 1
    let moves := ∃ a, (act a).inMotion = true
    ∃ t : State, exec (.periodExpiry cell) s = .next t ∧ t.pen = s.pen
      ∧ (moves → timer < 2000 → t.dvc.state = .stopping ∧ t.dvc.cause = .restart ∧ t.dvc.restartTimer = some timer
          ∧ t.notices = (s.told (·.overrun)).foldl (fun m n => m.raise .overrun (some n)) s.notices
          ∧ (∀ a, t.axis a = act a)
          ∧ ∀ n e, s.entries[n]? = some e → t.entries[n]? = some (s.tickOf n).entry)
      ∧ (moves → 2000 ≤ timer → s.WarmAfter t act
          ∧ ∀ a, (act a).inMotion = true →
              (t.axis a).motion = .held ∧ (t.axis a).s = 0 ∧ (t.axis a).setpoint = none ∧ (t.axis a).p = (act a).p
                ∧ t.dsl.selected.get a = .hold
                ∧ t.transmit.slots.get a = some { axis := a, mode := .hold, position := (act a).pos, speed := 0 })
      ∧ (¬moves → s.WarmAfter t act) := by
  intro timer moves
  have idle := h.expiryCounts cell
  generalize counts : s.expiryCounts cell = u at idle
  obtain rfl : u.axis = act := funext fun a => (idle.axis a).trans (steps a)
  obtain ⟨goesOn, cut, complete⟩ := h.work counts (s.expiryRaises cell)
  by_cases m : moves
  · have moving : u.axesStill = false := State.axesStill_false.mpr m
    by_cases long : 2000 ≤ timer
    · obtain ⟨t, next, pen, warm, held⟩ := h.warmAfter idle (State.cutShort _).of_timer (cut moving long)
      exact ⟨t, next, pen, fun _ short => absurd short (by omega), fun _ _ => ⟨warm, held⟩, fun no => absurd m no⟩
    · have expiry := State.periodExpires_calm (goesOn moving (by omega)) (h.calm idle moving)
      obtain ⟨sent, last⟩ := State.recordMayGo_eq _ s.restarting
      refine ⟨_, exec_periodExpiry (expiry.trans last), idle.pen, fun _ _ => ⟨?_, ?_, rfl, idle.notices, fun _ => rfl, ?_⟩,
        fun _ x => absurd x long, fun no => absurd m no⟩
      · exact (congrArg Dvc.state idle.dvc).trans h.stopping.1
      · exact (congrArg Dvc.cause idle.dvc).trans h.stopping.2
      · intro n e he
        have short := (List.getElem?_eq_some_iff.mp he).1
        exact (congrArg (·[n]?) idle.entries).trans (by simp [short])
  · have rest : u.axesStill = true := by
      rw [← Bool.not_eq_false, State.axesStill_false]
      exact m
    have cut := State.CutShort.of_rest rest
    have warm := (h.warms idle cut (s.expiryRaises cell)).1
    have work : s.expiryWork cell (s.expiryRaises cell) = u.warmValues (s.expiryRaises cell) := by
      rw [complete rest, warm]
      rfl
    obtain ⟨t, next, pen, warm, -⟩ := h.warmAfter idle cut work
    exact ⟨t, next, pen, fun yes => absurd yes m, fun yes => absurd yes m, fun _ => warm⟩

end Sys2Proof.Machine
end

section
/-! SUPPORT. The statement PeriodExpiryAlwaysCounts. -/

namespace Sys2Proof.Machine

open Sys2Proof

theorem stationVmax_eq (st : Station) (a : Axis) : stationVmax st a = if a = .h then st.n.vmaxH else st.n.vmaxV := by
  cases a <;> rfl

theorem stationAcc_eq (st : Station) (a : Axis) : stationAcc st a = if a = .h then st.n.accH else st.n.accV := by
  cases a <;> rfl

/-- The cap of a jogged axis (R139). -/
theorem State.sourceCap_of_leased {s : State} {n : Nat} {speed : PerAxis Int} {a : Axis} (jog : s.dsl.jog = .leased n speed)
    (source : s.dsl.selected.get a = .jog) :
    s.sourceCap a = max 1 (min (speed.get a).natAbs (s.effectiveSpeed a)) := by
  rw [State.sourceCap, if_pos source, jog]
  rfl

theorem State.stepAct_of_cap {s : State} {a : Axis} {cap : Nat} (h : s.sourceCap a = cap) :
    s.stepAct a =
      (s.axis a).period a (if a = .h then s.station.n.vmaxH else s.station.n.vmaxV)
        (if a = .h then s.station.n.accH else s.station.n.accV) cap := by
  rw [State.stepAct, stationVmax_eq, stationAcc_eq, h]

/-- Settles O56: what every expiry counts, the jog lease, and the restart stop. -/
theorem periodExpiryAlwaysCounts : Obligations.PeriodExpiryAlwaysCounts := by
  unfold Obligations.PeriodExpiryAlwaysCounts
  refine ⟨State.periodExpires_alwaysCounts, ?lease, ?restart⟩
  case lease =>
    intro s cell n speed jog run pointing shot burn stopped seen free source exp ages
    refine State.periodExpires_jogLease s cell n speed
      ⟨jog, run, pointing, shot, burn, stopped, seen, free, source, fun a => ⟨exp, ages a⟩⟩ _ fun a => ?_
    rw [State.stepAct_of_cap (State.sourceCap_of_leased jog (by rw [source, PerAxis.get_both]))]
  case restart =>
    intro s cell restarting pointing shot jog burn ordinary critical seen free source exp ages vmax acc act tick raised warm
      timer moves warmed
    have stop : s.RestartStop := ⟨restarting, pointing, shot, jog, burn, ordinary, critical, seen, free, source,
      fun a => ⟨exp, ages a⟩⟩
    have unjogged : ∀ a, s.dsl.selected.get a ≠ .jog := fun a x => by
      obtain aim | ⟨park, -⟩ := source a
      · rw [aim] at x; cases x
      · rw [park] at x; cases x
    have after : ∀ t, s.WarmAfter t act → warmed t := by
      rintro t ⟨state, cause, timer, mode, queue, level, report, notices, entries, rest⟩
      exact ⟨state, cause, timer, mode, queue, level, report, notices,
        fun n e he => (entries n e he).trans (congrArg some (Entry.warm_eq _)), rest⟩
    obtain ⟨t, next, pen, goesOn, cut, complete⟩ := State.periodExpires_restartStop s cell stop act fun a => by
      rw [State.stepAct_of_cap (State.sourceCap_of_not_jog (unjogged a))]
    exact ⟨t, next, pen, goesOn, fun m long => ⟨after t (cut m long).1, (cut m long).2⟩, fun no => after t (complete no)⟩

end Sys2Proof.Machine
end

section
/-! SUPPORT. What an outcome leaves at the target table (R31 to R35), the end of a pointing with both axes at rest (R79), and the
timers of a pointing and of its shot (R64, R74 to R78, R119). -/

namespace Sys2Proof.Machine

open Sys2Proof

/-! ### The target table at an outcome -/

/-- What an outcome makes of the entry `n` of a pointing of this kind, where no definition is pending (R32 to R35, R25). -/
def State.outcomeMove (s : State) (n : Nat) (kind : PointingKind) (o : Verdict) : EntryMove :=
  let e := Entry.trackUpdate { s.entry n with lastOutcome := some o } o
  match kind with
  | .scheduled => e.afterOutcome s.station.n o
  | .oneOff => { entry := { e with deferred := false }, handed := e.deferred, suspended := false }

/-- The entry's move with the outcome's notice, that of a suspension, and the number handed over. -/
def State.takeMove (s : State) (n : Nat) (o : Verdict) (m : EntryMove) : State :=
  let u := (s.setEntry n m.entry).raiseMaybe o.notice (some n)
  let v := if m.suspended then u.raise .suspended (some n) else u
  if m.handed then v.enqueue [n] else v

theorem Entry.trackUpdate_eq (e : Entry) (o : Verdict) :
    Entry.trackUpdate { e with lastOutcome := some o } o =
      { e with
        lastOutcome := some o
        definition :=
          match e.lastSummary with
          | some x =>
            if e.definition.kind = .track ∧ (o = .done ∨ o = .partialDone) then
              { e.definition with hz := x.hz, v := if x.v < 262144 then 262144 else if 8126464 < x.v then 8126464 else x.v }
            else e.definition
          | none => e.definition } := by
  unfold Entry.trackUpdate
  cases h : e.lastSummary with
  | none => simp
  | some x =>
    simp only [clampTo]
    split <;> rfl

theorem State.afterOutcome_eq (s : State) (n : Nat) (kind : PointingKind) (o : Verdict) :
    s.afterOutcome n kind o = s.takeMove n o (s.outcomeMove n kind o) := by
  simp only [State.outcomeMove, Entry.trackUpdate_eq]
  cases kind <;> cases o <;> rfl

/-- Without a pending definition, the delivery of an outcome is what the law of outcomes leaves. -/
theorem State.deliverOutcome_eq {s : State} {n : Nat} (unpended : (s.entry n).pendingDef = none) (kind : PointingKind)
    (o : Verdict) : s.deliverOutcome n kind o = s.afterOutcome n kind o := by
  have station : (s.raiseMaybe o.notice (some n)).station = s.station := congrArg Base.station (s.raiseMaybe_base _ _)
  have swap : ∀ e, (s.raiseMaybe o.notice (some n)).setEntry n e = (s.setEntry n e).raiseMaybe o.notice (some n) :=
    fun e => by cases o <;> rfl
  rw [State.afterOutcome_eq]
  unfold State.deliverOutcome
  dsimp only
  split
  · rename_i pending
    rw [unpended] at pending
    cases pending
  · cases kind <;> simp only [swap, station] <;> rfl

/-- `t` differs from `s` in the target table's entries, the due queue and its counter, and the notices alone. -/
def State.LedgerOnly (s t : State) : Prop :=
  ∃ es q ns, t = { s with entries := es, osc := q, notices := ns } ∧ q.mode = s.osc.mode

theorem State.LedgerOnly.refl (s : State) : s.LedgerOnly s := ⟨_, _, _, rfl, rfl⟩

theorem State.LedgerOnly.trans {s t u : State} (h : s.LedgerOnly t) (h' : t.LedgerOnly u) : s.LedgerOnly u := by
  obtain ⟨es, q, ns, rfl, mode⟩ := h
  obtain ⟨es', q', ns', rfl, mode'⟩ := h'
  exact ⟨es', q', ns', rfl, mode'.trans mode⟩

theorem State.raise_ledgerOnly (s : State) (k : NoticeKind) (n : Option Nat) : s.LedgerOnly (s.raise k n) :=
  ⟨_, _, _, rfl, rfl⟩

theorem State.enqueue_ledgerOnly (s : State) (ns : List Nat) : s.LedgerOnly (s.enqueue ns) :=
  ⟨_, _, _, s.enqueue_eq ns, s.enqueue_mode ns⟩

theorem State.setEntry_ledgerOnly (s : State) (n : Nat) (e : Entry) : s.LedgerOnly (s.setEntry n e) := ⟨_, _, _, rfl, rfl⟩

theorem State.raiseMaybe_ledgerOnly (s : State) (k : Option NoticeKind) (n : Option Nat) : s.LedgerOnly (s.raiseMaybe k n) := by
  cases k with
  | none => exact .refl s
  | some k => exact s.raise_ledgerOnly k n

theorem State.takeMove_ledgerOnly (s : State) (n : Nat) (o : Verdict) (m : EntryMove) : s.LedgerOnly (s.takeMove n o m) := by
  have noticed := (s.setEntry_ledgerOnly n m.entry).trans (State.raiseMaybe_ledgerOnly _ o.notice (some n))
  simp only [State.takeMove]
  split <;> split
  · exact (noticed.trans (State.raise_ledgerOnly _ _ _)).trans (State.enqueue_ledgerOnly _ _)
  · exact noticed.trans (State.enqueue_ledgerOnly _ _)
  · exact noticed.trans (State.raise_ledgerOnly _ _ _)
  · exact noticed

theorem State.afterOutcome_ledgerOnly (s : State) (n : Nat) (kind : PointingKind) (o : Verdict) :
    s.LedgerOnly (s.afterOutcome n kind o) := by
  rw [State.afterOutcome_eq]
  exact s.takeMove_ledgerOnly n o _

/-- Two states agree in all that the target table's part of an outcome reads. -/
structure State.SameLedger (s t : State) : Prop where
  entries : t.entries = s.entries
  osc : t.osc = s.osc
  notices : t.notices = s.notices

theorem State.SameLedger.entry {s t : State} (h : s.SameLedger t) (n : Nat) : t.entry n = s.entry n := by
  rw [State.entry, State.entry, h.entries]

theorem State.SameLedger.raise {s t : State} (h : s.SameLedger t) (k : NoticeKind) (n : Option Nat) :
    (s.raise k n).SameLedger (t.raise k n) := ⟨h.entries, h.osc, by simp [h.notices]⟩

theorem State.SameLedger.enqueue {s t : State} (h : s.SameLedger t) (ns : List Nat) :
    (s.enqueue ns).SameLedger (t.enqueue ns) := by
  refine ⟨?_, State.enqueue_osc_congr h.entries h.osc ns, ?_⟩
  · rw [s.enqueue_eq, t.enqueue_eq]; exact h.entries
  · rw [s.enqueue_eq, t.enqueue_eq]; exact h.notices

theorem State.SameLedger.takeMove {s t : State} (h : s.SameLedger t) (n : Nat) (o : Verdict) (m : EntryMove) :
    (s.takeMove n o m).SameLedger (t.takeMove n o m) := by
  have moved : (s.setEntry n m.entry).SameLedger (t.setEntry n m.entry) := ⟨by simp [h.entries], h.osc, h.notices⟩
  have noticed : ((s.setEntry n m.entry).raiseMaybe o.notice (some n)).SameLedger
      ((t.setEntry n m.entry).raiseMaybe o.notice (some n)) := by
    cases o.notice with
    | none => exact moved
    | some k => exact moved.raise k _
  simp only [State.takeMove]
  split <;> split
  · exact (noticed.raise _ _).enqueue _
  · exact noticed.enqueue _
  · exact noticed.raise _ _
  · exact noticed

theorem State.SameLedger.afterOutcome {s t : State} (h : s.SameLedger t) (station : t.station = s.station) (n : Nat)
    (kind : PointingKind) (o : Verdict) : (s.afterOutcome n kind o).SameLedger (t.afterOutcome n kind o) := by
  have move : t.outcomeMove n kind o = s.outcomeMove n kind o := by
    simp only [State.outcomeMove, h.entry, station]
  rw [State.afterOutcome_eq, State.afterOutcome_eq, move]
  exact h.takeMove n o _

theorem State.SameLedger.afterEnd {s t : State} (h : s.SameLedger t) (station : t.station = s.station) (p : Pointing)
    (o : Verdict) : (s.afterEnd p o).SameLedger (t.afterEnd p o) := by
  unfold State.afterEnd
  refine State.SameLedger.afterOutcome ?_ ?_ _ _ _
  · exact ⟨h.entries, by simp only [h.osc], h.notices⟩
  · exact station

/-- The drive selector has no part in an outcome. -/
theorem State.afterOutcome_dsl (s : State) (d : Dsl) (n : Nat) (kind : PointingKind) (o : Verdict) :
    State.afterOutcome { s with dsl := d } n kind o = { s.afterOutcome n kind o with dsl := d } := by
  have same : s.SameLedger { s with dsl := d } := ⟨rfl, rfl, rfl⟩
  obtain ⟨entries, osc, notices⟩ := same.afterOutcome rfl n kind o
  obtain ⟨_, _, _, plain, -⟩ := s.afterOutcome_ledgerOnly n kind o
  obtain ⟨_, _, _, other, -⟩ := State.afterOutcome_ledgerOnly { s with dsl := d } n kind o
  rw [plain, other] at entries osc notices ⊢
  simp only at entries osc notices
  rw [entries, osc, notices]

/-! ### The end of a pointing with both axes at rest (R79) -/

theorem State.choose_park {s : State} (free : s.dvc.state.holds = false) (seen : ∀ a, (s.latestRaw a).isSome)
    (noHold : s.dsl.restartHold = both false) (pointing : s.pen.pointing = none) (jog : s.dsl.jog = .none)
    (rest : ∀ a, (s.axis a).inMotion = false) (unheld : ∀ a, s.dsl.selected.get a ≠ .hold) :
    s.choose = { s with dsl := { s.dsl with selected := both .park } } := by
  have wanted : ∀ a, s.wantedSource a = .park := fun a =>
    State.wanted_park free (seen a) (by simp [noHold]) pointing jog (rest a)
  rw [State.choose, State.chooseAxes_settled (fun a => iff_of_false (by simp [wanted a]) (unheld a)), State.chosen, wanted,
    wanted]
  rfl

/-- PEN without its pointing, which has ended with `o`: no shot and no settle test, and the detector not ready after NOSENSOR. -/
def State.unpointed (s : State) (o : Verdict) : State :=
  { s with
    pen := { s.pen with pointing := none, shot := none }
    apg := { s.apg with settle := none }
    osc := { s.osc with detectorReady := s.osc.detectorReady && decide (o ≠ .nosensor) } }

theorem State.unpointed_eq (s : State) (o : Verdict) :
    (if o = .nosensor then
        (((s.setShot none).setPointing none).setSettle none).setOsc
          { (((s.setShot none).setPointing none).setSettle none).osc with detectorReady := false }
      else ((s.setShot none).setPointing none).setSettle none) = s.unpointed o := by
  split <;> simp_all [State.unpointed, State.setOsc, State.setSettle, State.setPointing, State.setShot]

/-- A pointing that may end leaves what the law of ends says. -/
theorem State.MayEnd.endPointing {s : State} {p : Pointing} (h : s.MayEnd p) (o : Verdict) :
    s.endPointing o = s.afterEnd p o := by
  obtain ⟨flight, still, unpended⟩ := h
  have rest : ∀ a, (s.axis a).inMotion = false := fun a => AxisRec.rest_of_still (still a)
  have free : s.dvc.state.holds = false := by rw [flight.run]; rfl
  have stop : (s.unpointed o).stopAfterPointing = s.unpointed o := by
    simp [State.stopAfterPointing, State.stopIfMoving, show (s.unpointed o).dvc = s.dvc from rfl, free,
      show (s.unpointed o).axis = s.axis from rfl, rest]
  have deliver : (s.unpointed o).deliverOutcome p.target p.kind o = (s.unpointed o).afterOutcome p.target p.kind o :=
    State.deliverOutcome_eq (s := s.unpointed o) unpended p.kind o
  have choice : ((s.unpointed o).afterOutcome p.target p.kind o).choose
      = { (s.unpointed o).afterOutcome p.target p.kind o with dsl := { s.dsl with selected := both .park } } := by
    obtain ⟨es, q, ns, after, -⟩ := (s.unpointed o).afterOutcome_ledgerOnly p.target p.kind o
    rw [after]
    exact State.choose_park free flight.seen flight.noHold rfl flight.noJog rest (by simp [State.unpointed, flight.aimed])
  simp only [State.endPointing, flight.pointing]
  rw [State.unpointed_eq, stop, deliver, choice]
  exact (State.afterOutcome_dsl _ _ _ _ _).symm

theorem State.MayEnd.failPointing {s : State} {p : Pointing} (h : s.MayEnd p) (o : Verdict) :
    s.failPointing o = s.afterEnd p (softened p o) := by
  simp only [State.failPointing, h.flight.pointing]
  exact h.endPointing _

/-- R77 for the outcomes that it names. -/
theorem softened_eq {p : Pointing} {o : Verdict} (h : o = .unsettled ∨ o = .nosensor ∨ o = .norange) :
    softened p o = if p.frozenCopy.kind = .track ∧ 1 ≤ p.followCount then .partialDone else o := by
  unfold softened
  split
  · obtain rfl | rfl | rfl := h <;> rfl
  · rfl

/-! ### The timers of a pointing and of its shot -/

/-- A shot whose range timer, if it runs, has counted once more (R119). -/
def Shot.timed (x : Shot) : Shot :=
  match x.stage with
  | .awaitingRange k => { x with stage := .awaitingRange (k + 1) }
  | .awaitingAngles _ => x

/-- No range timer runs out at the next period expiry. -/
def State.RangeOpen (s : State) : Prop :=
  ∀ x, s.pen.shot = some x → ∀ k, x.stage = .awaitingRange k → k + 1 < s.station.n.rangeTimeout

theorem State.rangeTick_open {s : State} (h : s.RangeOpen) : s.rangeTick = s.setShot (s.pen.shot.map Shot.timed) := by
  cases shot : s.pen.shot with
  | none =>
    simp only [State.rangeTick, shot, Option.map_none]
    rw [← shot]
    rfl
  | some x =>
    obtain ⟨id, k | c⟩ := x
    · have short := h _ shot k rfl
      simp only [State.rangeTick, shot, Nat.not_le.mpr short, if_false]
      rfl
    · have off : s.rangeTick = s := by simp only [State.rangeTick, shot]
      exact off.trans (congrArg s.setShot shot :)

theorem State.rangeTick_due {s : State} {x : Shot} {k : Nat} (shot : s.pen.shot = some x) (stage : x.stage = .awaitingRange k)
    (due : s.station.n.rangeTimeout ≤ k + 1) : s.rangeTick = s.retryOr .norange := by
  obtain ⟨id, _ | _⟩ := x
  · cases stage
    simp only [State.rangeTick, shot, due, if_true]
  · cases stage

theorem State.retryOr_fires {s : State} {p : Pointing} (pointing : s.pen.pointing = some p)
    (within : p.attempts ≤ s.station.n.shotRetry) (opened : s.pen.retriesClosed = false) (o : Verdict) :
    s.retryOr o = s.fire p := by
  simp only [State.retryOr, pointing, within, if_true, opened, Bool.false_eq_true, if_false]

theorem State.retryOr_declines {s : State} {p : Pointing} (pointing : s.pen.pointing = some p)
    (within : p.attempts ≤ s.station.n.shotRetry) (closed : s.pen.retriesClosed = true) (o : Verdict) :
    s.retryOr o = if p.frozen then (s.setShot none).releaseSlot else (s.setShot none).endPointing .done := by
  simp only [State.retryOr, pointing, within, if_true, closed, State.retryDeclined]

theorem State.retryOr_fails {s : State} {p : Pointing} (pointing : s.pen.pointing = some p)
    (beyond : s.station.n.shotRetry < p.attempts) (live : p.frozen = false) (o : Verdict) :
    s.retryOr o = (s.setShot none).endPointing (if p.phase = .follow ∧ p.dwell = some 0 then .done else softened p o) := by
  simp only [State.retryOr, pointing, Nat.not_le.mpr beyond, if_false, State.shotFails, Pointing.dwellOver, live,
    Bool.not_false, Bool.and_true, decide_eq_true_eq, State.failPointing, State.setShot_pen]
  split <;> rfl

/-- A pointing whose silence count has counted once more (R78). -/
def Pointing.counted (p : Pointing) : Pointing := { p with silence := min (p.silence + 1) 2000 }

theorem State.pointingTick_frozen {s : State} {p : Pointing} (pointing : s.pen.pointing = some p) (frozen : p.frozen = true) :
    s.pointingTick = s := by
  simp only [State.pointingTick, pointing, frozen, if_true]

/-- The detector of a watched pointing falls silent at the next period expiry (R78). -/
def State.silent (s : State) (p : Pointing) : Bool :=
  p.phase.watched && decide (s.station.n.spotSilence ≤ p.counted.silence)

/-- The settle timer of a pointing goes on, or its pointing ends UNSETTLED (R64). -/
def State.settleTick (s : State) (p : Pointing) : State :=
  let t := s.setPointing (some { p with settleTimer := p.settleTimer + 1 })
  if s.station.n.settleTimeout ≤ p.settleTimer + 1 then t.failPointing .unsettled else t

/-- The timers of a pointing that is not frozen: the settle timer, or silence before the timers of FOLLOW (log entry 39). -/
theorem State.pointingTick_live {s : State} {p : Pointing} (pointing : s.pen.pointing = some p) (live : p.frozen = false) :
    s.pointingTick =
      if p.phase = .settle then s.settleTick p.counted
      else if s.silent p then (s.setPointing (some p.counted)).failPointing .nosensor
      else if p.phase = .follow then s.followTick p.counted
      else s.setPointing (some p.counted) := by
  unfold State.pointingTick
  rw [pointing]
  dsimp only
  rw [if_neg (by simp [live])]
  rfl

theorem State.settle_of_silent {s : State} {p : Pointing} (silent : s.silent p = true) : p.phase ≠ .settle := by
  intro x
  simp [State.silent, x, Phase.watched] at silent

/-- A pointing in FOLLOW whose dwell and track timer have counted once more (R74 to R76). -/
def Pointing.followed (p : Pointing) : Pointing := { p with dwell := p.dwell.map (· - 1), track := p.track.map (· - 1) }

theorem State.followTick_eq (s : State) (p : Pointing) :
    s.followTick p =
      if p.dwell = some 1 then (s.setPointing (some p.followed)).dwellRunsOut
      else if p.track = some 1 then (s.setPointing (some p.followed)).trackRunsOut
      else s.setPointing (some p.followed) := rfl

end Sys2Proof.Machine
end

section
/-! SUPPORT. An expiry whose counts end no stop, raise no fault and run no jog: time, ages, steps and frames (R1, R12, R86, R96,
R143, R153). -/

namespace Sys2Proof.Machine

open Sys2Proof

/-! ### What an expiry counts before the timers -/

/-- The end of the period before a wrap, and the count of the target table. -/
def State.ticked (s : State) : State :=
  { s with
    stc := s.periodEnd, entries := s.tickTable.entries, osc := s.tickTable.osc, notices := s.tickTable.notices }

theorem State.ticked_eq {s : State} (noWrap : s.stc.siteTime + 1000 < 2 ^ 48) (noHold : s.dsl.restartHold = both false) :
    s.endPeriod.tickTable = s.ticked := by
  have osc : (State.tickTable { s with stc := s.periodEnd }).osc = s.tickTable.osc := by
    rw [State.tickTable_eq, State.tickTable_eq]
    refine State.enqueue_osc_congr ?_ ?_ _ <;> rfl
  rw [State.endPeriod_eq noWrap noHold, State.tickTable_frame, State.tickTable_entries, State.tickTable_notices, osc,
    State.ticked, State.tickTable_entries, State.tickTable_notices]
  rfl

theorem State.ticked_sameLedger (s : State) : s.tickTable.SameLedger s.ticked := ⟨rfl, rfl, rfl⟩

/-- `v` is what an expiry has made of `s` when the target table, the range timer and the pointing's timers have counted: nothing of
the axes' records, and of the drive selector at most the sources. -/
structure State.TimersRan (s v : State) : Prop where
  same : v =
    { s with
      stc := s.periodEnd
      entries := v.entries
      osc := v.osc
      notices := v.notices
      pen := v.pen
      apg := { s.apg with settle := v.apg.settle }
      dsl := { s.dsl with selected := v.dsl.selected }
      transmit := { s.transmit with shots := v.transmit.shots } }
  mode : v.osc.mode = s.osc.mode

/-! ### The axes -/

/-- What APG does to an axis whose source cap is its effective speed. -/
def State.periodAct (s : State) (a : Axis) : AxisAct :=
  (s.axis a).period a (if a = .h then s.station.n.vmaxH else s.station.n.vmaxV)
    (if a = .h then s.station.n.accH else s.station.n.accV) (s.effectiveSpeed a)

theorem State.TimersRan.act {s v : State} (ran : s.TimersRan v) {a : Axis} (unjogged : v.dsl.selected.get a ≠ .jog) :
    v.stepAct a = s.periodAct a := by
  rw [State.stepAct_of_cap (State.sourceCap_of_not_jog unjogged), ran.same]
  rfl

/-- Both axes have stepped, which leaves this pointing and this settle test. -/
def State.arrived (v : State) (x : Option Pointing) (y : Option SettleTest) : State :=
  { v.stepped with pen := { v.pen with pointing := x }, apg := { v.stepped.apg with settle := y } }

theorem State.arrived_same (v : State) : v.arrived v.pen.pointing v.apg.settle = v.stepped := rfl

/-! ### What an expiry leaves in which nothing more follows -/

/-- What every expiry with no burn, wrap, fault or jog does to a part whose axes are not held: time, ages, steps and frames. -/
structure State.ExpirySteps (s t : State) : Prop where
  stc : t.stc = s.periodEnd
  scs : t.scs = s.scs
  station : t.station = s.station
  requests : t.requests = s.requests
  link : t.link = s.link
  pending : t.pending = s.pending
  sdu : t.sdu = s.ageTick.sdu
  dvc : t.dvc = { s.dvc with silenceAge := { h := s.dvc.silenceAge.h + 1000, v := s.dvc.silenceAge.v + 1000 } }
  reports : t.reports = s.reports
  scu : t.scu = s.scu
  squ : t.squ = s.squ
  axis : ∀ a, t.axis a = (s.periodAct a).axis
  slots : ∀ a, t.transmit.slots.get a =
    some
      { axis := a, mode := .position, position := (s.periodAct a).axis.pos, speed := (s.periodAct a).axis.stepSpeed }

/-- An expiry in which nothing but time, the table, the pointing's timers and the axes' steps can happen: no wrap, burn, jog or
restart stop, both encoders seen and heard, and neither axis held. -/
structure State.Undisturbed (s : State) : Prop where
  noWrap : s.stc.siteTime + 1000 < 2 ^ 48
  burn : s.scs.burn = none
  heard : ∀ a, s.HeardAt a
  noJog : s.dsl.jog = .none
  noHold : s.dsl.restartHold = both false
  unheld : ∀ a, (s.axis a).motion ≠ .held
  seen : ∀ a, (s.latestRaw a).isSome
  free : s.dvc.state.holds = false
  going : s.restarting = false

theorem State.Undisturbed.periodAct_free {s : State} (h : s.Undisturbed) (a : Axis) :
    (s.periodAct a).axis.motion ≠ .held := fun x =>
  h.unheld a (((s.axis a).period_keeps a _ _ _).held.mp x)

/-- With no burn and no jog the counts of an expiry end with the ages. -/
theorem State.expiryCounts_plain {s m : State} {cell : CellRead} (moves : s.expiryMoves = m) (burn : m.scs.burn = none)
    (jog : m.dsl.jog = .none) : s.expiryCounts cell = m.ageTick := by
  have lease : m.ageTick.jogTick = m.ageTick := by simp only [State.jogTick, show m.ageTick.dsl.jog = .none from jog]
  have ended : m.ageTick.jogTest = m.ageTick := State.jogTest_same fun z e => by
    rw [show m.ageTick.dsl.jog = .none from jog] at e
    cases e
  rw [State.expiryCounts_eq, moves, State.burnTick_none (s := m.ageTick) burn, lease, ended]

section
variable {s v : State} {x : Option Pointing} {y : Option SettleTest}

theorem State.TimersRan.axis (ran : s.TimersRan v) (unjogged : ∀ a, v.dsl.selected.get a ≠ .jog) (a : Axis) :
    (v.arrived x y).axis a = (s.periodAct a).axis := by
  rw [← ran.act (unjogged a)]
  cases a <;> rfl

theorem State.TimersRan.steps (ran : s.TimersRan v) (h : s.Undisturbed) (unjogged : ∀ a, v.dsl.selected.get a ≠ .jog) :
    s.ExpirySteps (v.arrived x y).ageTick.framed := by
  have axis : ∀ a, (v.arrived x y).ageTick.axis a = (s.periodAct a).axis :=
    ran.axis (x := x) (y := y) unjogged
  have age : ∀ a, (v.arrived x y).ageTick.watchedAge a = s.dvc.silenceAge.get a + 1000 := fun a => by
    rw [State.watchedAge, axis, if_neg (h.periodAct_free a)]
    show v.dvc.silenceAge.get a + 1000 = _
    rw [ran.same]
  have slots : ∀ a, (v.arrived x y).ageTick.framed.transmit.slots.get a = some
      { axis := a, mode := .position, position := (s.periodAct a).axis.pos, speed := (s.periodAct a).axis.stepSpeed } :=
    fun a => by rw [State.framed_slot, axis, AxisRec.driveFrame_free (h.periodAct_free a)]
  have frame : v.stc = s.periodEnd ∧ v.base = s.base ∧ v.sdu = s.sdu ∧ v.dvc = s.dvc ∧ v.reports = s.reports
      ∧ v.scu = s.scu ∧ v.squ = s.squ ∧ v.scs = s.scs := by
    rw [ran.same]
    exact ⟨rfl, rfl, rfl, rfl, rfl, rfl, rfl, rfl⟩
  obtain ⟨stc, base, sdu, dvc, reports, scu, squ, scs⟩ := frame
  refine
    { stc := stc, scs := scs, station := congrArg Base.station base, requests := congrArg Base.requests base,
      link := congrArg Base.link base, pending := congrArg Base.pending base, sdu := ?_, dvc := ?_, reports := reports,
      scu := scu, squ := squ, axis := axis, slots := slots }
  · show v.ageTick.sdu = s.ageTick.sdu
    simp only [State.ageTick, sdu]
  · have framed : (v.arrived x y).ageTick.framed.dvc =
        { v.dvc with
          silenceAge := { h := (v.arrived x y).ageTick.watchedAge .h, v := (v.arrived x y).ageTick.watchedAge .v } } := rfl
    rw [framed, age, age, dvc]
    rfl

/-- The counts of an expiry whose timers leave `v` before the axes step. -/
theorem State.TimersRan.counts {cell : CellRead} (ran : s.TimersRan v) (h : s.Undisturbed)
    (timers : s.ticked.rangeTick.pointingTick = v) (moves : (v.stepAxis .h).stepAxis .v = v.arrived x y) :
    s.expiryCounts cell = (v.arrived x y).ageTick := by
  have all : s.expiryMoves = v.arrived x y := by
    rw [State.expiryMoves, State.ticked_eq h.noWrap h.noHold, timers, moves]
  have burn : v.scs.burn = none := by rw [ran.same]; exact h.burn
  have jog : v.dsl.jog = .none := by rw [ran.same]; exact h.noJog
  exact State.expiryCounts_plain all burn jog

/-- An expiry whose timers leave `v` before the axes step, where the choice of sources stands and no stop is complete. -/
theorem State.TimersRan.expiry {cell : CellRead} (ran : s.TimersRan v) (h : s.Undisturbed)
    (timers : s.ticked.rangeTick.pointingTick = v) (moves : (v.stepAxis .h).stepAxis .v = v.arrived x y)
    (source : ∀ a, (v.arrived x y).wantedSource a = v.dsl.selected.get a)
    (idle : s.osc.mode = .stopped ∨ s.dvc.state ≠ .run) (waits : (v.arrived x y).stopComplete = false) :
    exec (.periodExpiry cell) s = .next (v.arrived x y).ageTick.framed := by
  have dvc : v.dvc = s.dvc := by rw [ran.same]
  have jog : v.dsl.jog = .none := by rw [ran.same]; exact h.noJog
  have station : v.station = s.station := by rw [ran.same]
  have counts := ran.counts (cell := cell) h timers moves
  have calm : (v.arrived x y).ageTick.Calm :=
    { settled := fun a => by rw [show (v.arrived x y).ageTick.wantedSource a = _ from source a]; rfl
      jogging := fun z e => by rw [show (v.arrived x y).ageTick.dsl.jog = .none from jog] at e; cases e
      going := waits
      idle := by
        show v.osc.mode = .stopped ∨ v.dvc.state ≠ .run
        rw [ran.mode, dvc]
        exact idle
      heard := fun a => (h.heard a).congr station (congrArg Dvc.silenceAge dvc) }
  have chosen : (v.arrived x y).ageTick.chosen = (v.arrived x y).ageTick := by
    have same : ({ h := (v.arrived x y).ageTick.wantedSource .h, v := (v.arrived x y).ageTick.wantedSource .v } : PerAxis Source)
        = v.dsl.selected := PerAxis.ext_get (source .h) (source .v)
    rw [State.chosen, same]
    rfl
  have after : (v.arrived x y).ageTick.restarting = false := by
    show decide (v.dvc.state = .stopping ∧ v.dvc.cause = .restart) = false
    rw [dvc]
    exact h.going
  refine exec_periodExpiry ?_
  rw [State.periodExpires_goesOn counts calm h.going after, chosen]

end

end Sys2Proof.Machine
end

section
/-! SUPPORT. An expiry at rest, and one with a pointing in flight that goes on or ends (R79, R86 to R89, R96). -/

namespace Sys2Proof.Machine

open Sys2Proof

/-! ### The part at rest, and a pointing in flight -/

theorem State.wanted_aim {s : State} {a : Axis} (free : s.dvc.state.holds = false) (seen : (s.latestRaw a).isSome)
    (noHold : s.dsl.restartHold.get a = false) (busy : s.pen.pointing.isSome) : s.wantedSource a = .aim := by
  have some : (s.latestRaw a).isNone = false := by simpa using seen
  simp [State.wantedSource, free, some, noHold, State.busy, busy]

/-- The clock of an expiry that ends nothing: `ExpirySteps`, with the table as this expiry has counted it and the sources kept. -/
structure State.Clock (s t : State) : Prop where
  steps : s.ExpirySteps t
  dsl : t.dsl = s.dsl
  entries : t.entries = s.tickTable.entries
  osc : t.osc = s.tickTable.osc
  notices : t.notices = s.tickTable.notices

/-- The same for an expiry at which the pointing `p` ends with `o`. -/
structure State.Ends (s : State) (p : Pointing) (o : Verdict) (t : State) : Prop where
  steps : s.ExpirySteps t
  pen : t.pen = { s.pen with pointing := none, shot := none }
  settle : t.apg.settle = none
  dsl : t.dsl = { s.dsl with selected := both .park }
  entries : t.entries = (s.tickTable.afterEnd p o).entries
  osc : t.osc = (s.tickTable.afterEnd p o).osc
  notices : t.notices = (s.tickTable.afterEnd p o).notices

/-- What the clock of an expiry has counted before the axes step: this pen, these waiting SHOT frames, and nothing else but the
table. -/
def State.clocked (s : State) (pen : Pen) (shots : List Nat) : State :=
  { s.ticked with pen := pen, transmit := { s.transmit with shots := shots } }

theorem State.clocked_ran (s : State) (pen : Pen) (shots : List Nat) : s.TimersRan (s.clocked pen shots) :=
  ⟨rfl, s.tickTable_mode⟩

theorem State.clocked_wanted {s : State} (h : s.Undisturbed) {pen : Pen} {shots : List Nat} {x : Option Pointing}
    {y : Option SettleTest} (busy : x.isSome) (a : Axis) : ((s.clocked pen shots).arrived x y).wantedSource a = .aim :=
  State.wanted_aim h.free (h.seen a) (by rw [show ((s.clocked pen shots).arrived x y).dsl = s.dsl from rfl, h.noHold]; simp)
    busy

/-- An axis that is STILL takes no step and reports no arrival. -/
theorem State.periodAct_still {s : State} {a : Axis} (h : (s.axis a).motion = .still) :
    (s.periodAct a).arrives = false ∧ (s.periodAct a).axis.motion = .still := by
  rw [State.periodAct, AxisRec.period_rest (AxisRec.rest_of_still h)]
  exact ⟨rfl, (AxisRec.takeParams_motion _ _ _).trans h⟩

theorem State.Undisturbed.of_rest {s : State} (h : s.AtRest) (noWrap : s.stc.siteTime + 1000 < 2 ^ 48)
    (burn : s.scs.burn = none) (heard : ∀ a, s.HeardAt a) : s.Undisturbed where
  noWrap := noWrap
  burn := burn
  heard := heard
  noJog := h.noJog
  noHold := h.noHold
  unheld := fun a => by rw [h.still a]; simp
  seen := h.seen
  free := by rw [h.run]; rfl
  going := State.restarting_of_state (by simp [h.run])

theorem State.Undisturbed.of_flight {s : State} {p : Pointing} (h : s.InFlight p) (noWrap : s.stc.siteTime + 1000 < 2 ^ 48)
    (burn : s.scs.burn = none) (heard : ∀ a, s.HeardAt a) : s.Undisturbed where
  noWrap := noWrap
  burn := burn
  heard := heard
  noJog := h.noJog
  noHold := h.noHold
  unheld := h.free
  seen := h.seen
  free := by rw [h.run]; rfl
  going := State.restarting_of_state (by simp [h.run])

/-- At rest no timer runs but those of the table. -/
theorem State.AtRest.timers {s : State} (h : s.AtRest) : s.ticked.rangeTick.pointingTick = s.ticked := by
  have range : s.ticked.rangeTick = s.ticked := by
    simp only [State.rangeTick, show s.ticked.pen.shot = none from h.noShot]
  rw [range]
  simp only [State.pointingTick, show s.ticked.pen.pointing = none from h.noPointing]

theorem State.AtRest.moves {s : State} (h : s.AtRest) : (s.ticked.stepAxis .h).stepAxis .v = s.ticked.stepped :=
  State.stepAxes_quiet fun _ _ _ => h.noPointing

/-- R26 to R30, R87, R96: an expiry at rest. -/
theorem State.AtRest.expiry {s : State} (h : s.AtRest) (calm : s.Undisturbed) (cell : CellRead) :
    ∃ t : State, exec (.periodExpiry cell) s = .next t ∧ s.Clock t ∧ t.pen = s.pen := by
  have unjogged : ∀ a, s.dsl.selected.get a ≠ .jog := by simp [h.parked]
  have ran : s.TimersRan s.ticked := s.clocked_ran s.pen s.transmit.shots
  have still : ∀ a, ((s.ticked.arrived s.pen.pointing s.apg.settle).axis a).inMotion = false := fun a => by
    rw [ran.axis unjogged]
    exact AxisRec.rest_of_still (s.periodAct_still (h.still a)).2
  have source : ∀ a, (s.ticked.arrived s.pen.pointing s.apg.settle).wantedSource a = s.dsl.selected.get a := fun a => by
    rw [h.parked, PerAxis.get_both]
    refine State.wanted_park calm.free (h.seen a) ?_ h.noPointing h.noJog (still a)
    rw [show (s.ticked.arrived s.pen.pointing s.apg.settle).dsl = s.dsl from rfl, h.noHold, PerAxis.get_both]
  have run : s.ticked.dvc.state ≠ .stopping := by rw [show s.ticked.dvc = s.dvc from rfl, h.run]; simp
  exact ⟨_, ran.expiry calm h.timers h.moves source (.inl h.stopped) (State.stopComplete_of_state run),
    ⟨ran.steps calm unjogged, rfl, rfl, rfl, rfl⟩, rfl⟩

section
variable {s : State} {p q : Pointing} {cell : CellRead}

/-- A pointing in flight goes on through an expiry. -/
theorem State.InFlight.goesOn {pen : Pen} {shots : List Nat} {y : Option SettleTest} (h : s.InFlight p) (calm : s.Undisturbed)
    (timers : s.ticked.rangeTick.pointingTick = s.clocked pen shots)
    (moves : ((s.clocked pen shots).stepAxis .h).stepAxis .v = (s.clocked pen shots).arrived (some q) y) :
    ∃ t : State, exec (.periodExpiry cell) s = .next t ∧ s.Clock t ∧ t.pen = { pen with pointing := some q }
      ∧ t.transmit.shots = shots := by
  have ran := s.clocked_ran pen shots
  have unjogged : ∀ a, s.dsl.selected.get a ≠ .jog := by simp [h.aimed]
  have source : ∀ a, ((s.clocked pen shots).arrived (some q) y).wantedSource a = s.dsl.selected.get a := fun a => by
    rw [State.clocked_wanted calm rfl, h.aimed, PerAxis.get_both]
  have run : s.dvc.state ≠ .stopping := by rw [h.run]; simp
  exact ⟨_, ran.expiry calm timers moves source (.inl h.stopped) (State.stopComplete_of_state run),
    ⟨ran.steps calm unjogged, rfl, rfl, rfl, rfl⟩, rfl, rfl⟩

/-- Axes that stand STILL report nothing. -/
theorem State.clocked_still (still : ∀ a, (s.axis a).motion = .still) (unjogged : ∀ a, s.dsl.selected.get a ≠ .jog)
    (pen : Pen) (shots : List Nat) :
    ((s.clocked pen shots).stepAxis .h).stepAxis .v = (s.clocked pen shots).arrived pen.pointing s.apg.settle :=
  State.stepAxes_quiet fun a arrives => by
    rw [(s.clocked_ran pen shots).act (unjogged a), (s.periodAct_still (still a)).1] at arrives
    cases arrives

/-- A pointing in flight with both axes STILL goes on through an expiry. -/
theorem State.InFlight.staysOn {pen : Pen} {shots : List Nat} (h : s.InFlight p) (calm : s.Undisturbed)
    (still : ∀ a, (s.axis a).motion = .still) (pointing : pen.pointing = some q)
    (timers : s.ticked.rangeTick.pointingTick = s.clocked pen shots) :
    ∃ t : State, exec (.periodExpiry cell) s = .next t ∧ s.Clock t ∧ t.pen = pen ∧ t.transmit.shots = shots := by
  have moves := State.clocked_still still (by simp [h.aimed]) pen shots
  rw [pointing] at moves
  obtain ⟨t, next, clock, eq, sent⟩ := h.goesOn (cell := cell) calm timers moves
  exact ⟨t, next, clock, by rw [eq, ← pointing], sent⟩

theorem State.afterEnd_ledgerOnly (s : State) (p : Pointing) (o : Verdict) :
    State.LedgerOnly
      { s with
        pen := { s.pen with pointing := none, shot := none }
        apg := { s.apg with settle := none }
        osc := { s.osc with detectorReady := s.osc.detectorReady && decide (o ≠ .nosensor) }
        dsl := { s.dsl with selected := both .park } }
      (s.afterEnd p o) := State.afterOutcome_ledgerOnly _ _ _ _

/-- A pointing ends at an expiry, both axes STILL. -/
theorem State.InFlight.endsAt {o : Verdict} (h : s.InFlight p) (calm : s.Undisturbed)
    (still : ∀ a, (s.axis a).motion = .still) (timers : s.ticked.rangeTick.pointingTick = s.ticked.afterEnd q o)
    (target : q.target = p.target) (kind : q.kind = p.kind) :
    ∃ t : State, exec (.periodExpiry cell) s = .next t ∧ s.Ends p o t := by
  have same : s.ticked.afterEnd q o = s.ticked.afterEnd p o := by rw [State.afterEnd, State.afterEnd, target, kind]
  have ledger := s.ticked_sameLedger.afterEnd (by rw [s.tickTable_frame]; rfl) p o
  rw [same] at timers
  obtain ⟨es, os, ns, form, mode⟩ := s.ticked.afterEnd_ledgerOnly p o
  have ran : s.TimersRan (s.ticked.afterEnd p o) := by
    rw [form]
    exact ⟨rfl, mode.trans s.tickTable_mode⟩
  have pen : (s.ticked.afterEnd p o).pen = { s.pen with pointing := none, shot := none } := by rw [form]; rfl
  have settle : (s.ticked.afterEnd p o).apg.settle = none := by rw [form]
  have dsl : (s.ticked.afterEnd p o).dsl = { s.dsl with selected := both .park } := by rw [form]; rfl
  have dvc : (s.ticked.afterEnd p o).dvc = s.dvc := by rw [form]; rfl
  have scu : (s.ticked.afterEnd p o).scu = s.scu := by rw [form]; rfl
  generalize s.ticked.afterEnd p o = v at *
  have unjogged : ∀ a, v.dsl.selected.get a ≠ .jog := by simp [dsl]
  have moves : (v.stepAxis .h).stepAxis .v = v.arrived v.pen.pointing v.apg.settle :=
    State.stepAxes_quiet fun _ _ _ => by rw [pen]
  have rest : ∀ a, ((v.arrived v.pen.pointing v.apg.settle).axis a).inMotion = false := fun a => by
    rw [ran.axis unjogged]
    exact AxisRec.rest_of_still (s.periodAct_still (still a)).2
  have source : ∀ a, (v.arrived v.pen.pointing v.apg.settle).wantedSource a = v.dsl.selected.get a := fun a => by
    have seen : (v.arrived v.pen.pointing v.apg.settle).latestRaw a = s.latestRaw a := by
      rw [State.latestRaw, show (v.arrived v.pen.pointing v.apg.settle).scu = s.scu from scu]
      rfl
    rw [dsl, PerAxis.get_both]
    refine State.wanted_park ?_ (seen ▸ h.seen a) ?_ ?_ ?_ (rest a)
    · rw [show (v.arrived v.pen.pointing v.apg.settle).dvc = s.dvc from dvc]; exact calm.free
    · rw [show (v.arrived v.pen.pointing v.apg.settle).dsl = _ from dsl, h.noHold, PerAxis.get_both]
    · exact congrArg Pen.pointing pen
    · rw [show (v.arrived v.pen.pointing v.apg.settle).dsl = _ from dsl, h.noJog]
  have run : (v.arrived v.pen.pointing v.apg.settle).dvc.state ≠ .stopping := by
    rw [show (v.arrived v.pen.pointing v.apg.settle).dvc = s.dvc from dvc, h.run]; simp
  have next := ran.expiry (cell := cell) calm timers moves source (.inl h.stopped) (State.stopComplete_of_state run)
  have steps := ran.steps (x := v.pen.pointing) (y := v.apg.settle) calm unjogged
  rw [v.arrived_same] at next steps
  exact ⟨_, next, ⟨steps, pen, settle, dsl, ledger.entries, ledger.osc, ledger.notices⟩⟩

end

end Sys2Proof.Machine
end

section
/-! SUPPORT. An expiry with a pointing in SLEW, and the arrivals that begin SETTLE (R62, R63). -/

namespace Sys2Proof.Machine

open Sys2Proof

/-! ### Arrivals in SLEW (R62, R63) -/

/-- A pointing in SLEW after an arrival of this axis: it enters SETTLE once both have arrived. -/
def Pointing.arrivesAt (p : Pointing) (a : Axis) : Pointing :=
  let q := { p with arrived := p.arrived.set a true }
  if q.arrived.h ∧ q.arrived.v then { q with phase := .settle, settleTimer := 0 } else q

/-- A pointing after one axis has stepped. -/
def Pointing.reached (p : Pointing) (a : Axis) (arrives : Bool) : Pointing :=
  if arrives ∧ (p.phase = .slew ∨ p.phase = .searchMove) then p.arrivesAt a else p

theorem State.pointingArrival_eq {s : State} {p : Pointing} (h : s.pen.pointing = some p) (a : Axis) :
    ∃ y, s.pointingArrival a = (s.setPointing (some (p.reached a true))).setSettle y := by
  simp only [State.pointingArrival, h, Pointing.reached, true_and, Pointing.arrivesAt]
  split
  · split
    · exact ⟨_, rfl⟩
    · exact ⟨s.apg.settle, rfl⟩
  · exact ⟨s.apg.settle, by rw [← h]; rfl⟩

/-- The axis arrives at this expiry at a setpoint that the pointing engine asked for. -/
def State.reaches (s : State) (a : Axis) : Bool :=
  (s.stepAct a).arrives && decide ((s.stepAct a).axis.requester = .pointing)

theorem State.stepAxis_reached {s : State} {p : Pointing} (h : s.pen.pointing = some p) (a : Axis) :
    ∃ y, s.stepAxis a = ((s.setAxis a (s.stepAct a).axis).setPointing (some (p.reached a (s.reaches a)))).setSettle y := by
  have quiet : s.reaches a = false →
      ∃ y, s.setAxis a (s.stepAct a).axis
        = ((s.setAxis a (s.stepAct a).axis).setPointing (some (p.reached a (s.reaches a)))).setSettle y := fun no =>
    ⟨s.apg.settle, by simp only [no, Pointing.reached, Bool.false_eq_true, false_and, if_false]; rw [← h]; rfl⟩
  by_cases arrives : (s.stepAct a).arrives = true
  · by_cases mine : (s.stepAct a).axis.requester = .pointing
    · obtain ⟨y, eq⟩ := State.pointingArrival_eq (s := s.setAxis a (s.stepAct a).axis) h a
      have reaches : s.reaches a = true := by simp [State.reaches, arrives, mine]
      refine ⟨y, ?_⟩
      rw [reaches, ← eq]
      exact (if_pos arrives).trans (if_pos mine)
    · obtain ⟨y, eq⟩ := quiet (by simp [State.reaches, mine])
      exact ⟨y, (if_pos arrives).trans ((if_neg mine).trans eq)⟩
  · obtain ⟨y, eq⟩ := quiet (by simp [State.reaches, arrives])
    exact ⟨y, (if_neg arrives).trans eq⟩

theorem State.stepAct_congr {s t : State} {a : Axis} (axis : t.axis a = s.axis a) (station : t.station = s.station)
    (dsl : t.dsl = s.dsl) (sdu : t.sdu = s.sdu) : t.stepAct a = s.stepAct a := by
  simp only [State.stepAct, State.sourceCap, State.effectiveSpeed, axis, station, dsl, sdu]

/-- Both axes step while a pointing is in flight. -/
theorem State.stepAxes_reached {s : State} {p : Pointing} (h : s.pen.pointing = some p) :
    ∃ y, (s.stepAxis .h).stepAxis .v
      = s.arrived (some ((p.reached .h (s.reaches .h)).reached .v (s.reaches .v))) y := by
  obtain ⟨y, first⟩ := State.stepAxis_reached h .h
  obtain ⟨z, second⟩ := State.stepAxis_reached
    (s := ((s.setAxis .h (s.stepAct .h).axis).setPointing (some (p.reached .h (s.reaches .h)))).setSettle y) rfl .v
  have act := State.stepAct_congr (a := .v)
    (t := ((s.setAxis .h (s.stepAct .h).axis).setPointing (some (p.reached .h (s.reaches .h)))).setSettle y) (s := s)
    rfl rfl rfl rfl
  have reaches : State.reaches _ .v = s.reaches .v := congrArg
    (fun x : AxisAct => x.arrives && decide (x.axis.requester = .pointing)) act
  refine ⟨z, ?_⟩
  rw [first, second, act, reaches, State.arrived, State.stepped]
  generalize s.stepAct .h = x
  generalize s.stepAct .v = x'
  rfl

theorem Pointing.reached_no (p : Pointing) (a : Axis) : p.reached a false = p := by simp [Pointing.reached]

theorem Pointing.reached_silence (p : Pointing) (a : Axis) (r : Bool) : (p.reached a r).silence = p.silence := by
  simp only [Pointing.reached, Pointing.arrivesAt]
  split
  · split <;> rfl
  · rfl

/-- What arrivals leave of a pointing in SLEW: the marks, the phase, and the settle timer where SETTLE has begun. -/
theorem Pointing.arrivesAt_arrived (p : Pointing) (a b : Axis) :
    (p.arrivesAt a).arrived.get b = true ↔ p.arrived.get b = true ∨ b = a := by
  simp only [Pointing.arrivesAt]
  split <;> by_cases same : b = a <;> simp [same, PerAxis.get_set]

theorem Pointing.arrivesAt_phase (p : Pointing) (a : Axis) :
    ((p.arrivesAt a).phase = .settle ∧ (p.arrivesAt a).settleTimer = 0 ∧ ∀ b, (p.arrivesAt a).arrived.get b = true)
      ∨ ((p.arrivesAt a).phase = p.phase ∧ ∃ b, (p.arrivesAt a).arrived.get b = false) := by
  simp only [Pointing.arrivesAt]
  split
  · rename_i all
    exact .inl ⟨rfl, rfl, fun b => by cases b <;> simp only [PerAxis.get, all]⟩
  · rename_i some
    refine .inr ⟨rfl, ?_⟩
    by_contra none
    push Not at none
    exact some ⟨by simpa [PerAxis.get] using none .h, by simpa [PerAxis.get] using none .v⟩

/-- `q` is what arrivals at the axes `reached` leave of a pointing `p` in SLEW: it is in SETTLE, its timer at 0, once they have made
both axes arrive. -/
structure Pointing.Slewed (p q : Pointing) (reached : Axis → Prop) : Prop where
  arrived : ∀ a, q.arrived.get a = true ↔ p.arrived.get a = true ∨ reached a
  phase : (q.phase = .slew ∧ ((∃ a, reached a) → ∃ a, q.arrived.get a = false))
    ∨ (q.phase = .settle ∧ q.settleTimer = 0 ∧ ∀ a, q.arrived.get a = true)

theorem Pointing.Slewed.step {p q : Pointing} {reached : Axis → Prop} (h : p.Slewed q reached) (a : Axis) (r : Bool) :
    p.Slewed (q.reached a r) fun b => reached b ∨ (b = a ∧ r = true) := by
  cases r with
  | false =>
    rw [Pointing.reached_no]
    simpa using h
  | true =>
    obtain ⟨slew, -⟩ | ⟨settle, zero, all⟩ := h.phase
    · have eq : q.reached a true = q.arrivesAt a := if_pos ⟨rfl, .inl slew⟩
      rw [eq]
      refine ⟨fun b => by rw [Pointing.arrivesAt_arrived, h.arrived]; simp [or_assoc], ?_⟩
      obtain done | ⟨same, open_⟩ := q.arrivesAt_phase a
      · exact .inr done
      · exact .inl ⟨same.trans slew, fun _ => open_⟩
    · have eq : q.reached a true = q := if_neg (by simp [settle])
      rw [eq]
      exact ⟨fun b => ⟨fun x => ((h.arrived b).mp x).imp_right .inl, fun _ => all b⟩, .inr ⟨settle, zero, all⟩⟩

theorem Pointing.Slewed.start {p q : Pointing} (slew : q.phase = .slew) (same : q.arrived = p.arrived) :
    p.Slewed q fun _ => False :=
  ⟨fun _ => by simp [same], .inl ⟨slew, fun ⟨_, no⟩ => no.elim⟩⟩

theorem Pointing.Slewed.congr {p q : Pointing} {r r' : Axis → Prop} (h : p.Slewed q r) (same : ∀ a, r a ↔ r' a) :
    p.Slewed q r' := (funext fun a => propext (same a)) ▸ h

/-! ### An expiry in SLEW (R62, R63, R78, R86) -/

/-- The timers of a pointing in SLEW with no shot: the silence count alone. -/
theorem State.ticked_slew {s : State} {p : Pointing} (flight : s.InFlight p) (slew : p.phase = .slew)
    (shot : s.pen.shot = none) :
    s.ticked.rangeTick.pointingTick = s.clocked { s.pen with pointing := some p.counted } s.transmit.shots := by
  have range : s.ticked.rangeTick = s.ticked := by
    simp only [State.rangeTick, show s.ticked.pen.shot = none from shot]
  have unwatched : s.ticked.silent p = false := by simp [State.silent, slew, Phase.watched]
  rw [range, State.pointingTick_live (s := s.ticked) flight.pointing flight.live]
  simp only [slew, unwatched, reduceCtorEq, Bool.false_eq_true, if_false]
  rfl

theorem State.InFlight.slews {s : State} {p : Pointing} {cell : CellRead} (h : s.InFlight p) (calm : s.Undisturbed)
    (slew : p.phase = .slew) (shot : s.pen.shot = none) :
    ∃ (t : State) (q : Pointing), exec (.periodExpiry cell) s = .next t ∧ t.pen.pointing = some q ∧ s.Clock t
      ∧ q.silence = min (p.silence + 1) 2000
      ∧ p.Slewed q fun a => (s.periodAct a).arrives = true ∧ (s.periodAct a).axis.requester = .pointing := by
  have timers := State.ticked_slew h slew shot
  have unjogged : ∀ a, s.dsl.selected.get a ≠ .jog := by simp [h.aimed]
  obtain ⟨y, moves⟩ := State.stepAxes_reached (s := s.clocked { s.pen with pointing := some p.counted } s.transmit.shots) rfl
  obtain ⟨t, next, clock, pen, -⟩ := h.goesOn (cell := cell) calm timers moves
  refine ⟨t, _, next, congrArg Pen.pointing pen, clock, ?_, ?_⟩
  · rw [Pointing.reached_silence, Pointing.reached_silence]
    rfl
  · refine Pointing.Slewed.congr (((Pointing.Slewed.start (p := p) (q := p.counted) slew rfl).step .h _).step .v _) fun a => ?_
    have act := (s.clocked_ran { s.pen with pointing := some p.counted } s.transmit.shots).act (unjogged a)
    cases a <;> simp [State.reaches, act]

end Sys2Proof.Machine
end

section
/-! SUPPORT. The timers of a pointing in flight with both axes STILL (R64, R74 to R78, R119 to R122). -/

namespace Sys2Proof.Machine

open Sys2Proof

/-! ### The entry of a pointing at an expiry -/

theorem Entry.tickCountdown_pendingDef (e : Entry) (engaged : Bool) :
    (e.tickCountdown engaged).entry.pendingDef = e.pendingDef := by
  simp only [Entry.tickCountdown, Entry.countdownExpiry]
  repeat' split
  all_goals rfl

/-- An expiry leaves a pending definition where it is (R26 to R30). -/
theorem Entry.tick_pendingDef (e : Entry) (engaged : Bool) : (e.tick engaged).entry.pendingDef = e.pendingDef := by
  rw [← e.tickCountdown_pendingDef engaged]
  simp only [Entry.tick]
  repeat' split
  all_goals rfl

theorem State.ticked_entry (s : State) (n : Nat) :
    s.ticked.entry n = if n < s.entries.length then (s.tickOf n).entry else s.entry n := by
  have entries : s.ticked.entries = (List.range s.entries.length).map fun n => (s.tickOf n).entry := s.tickTable_entries
  rw [State.entry, entries]
  split
  · simp [List.getD_eq_getElem?_getD, *]
  · simp [State.entry, List.getD_eq_getElem?_getD, Nat.not_lt.mp ‹_›]

theorem State.ticked_pendingDef (s : State) (n : Nat) : (s.ticked.entry n).pendingDef = (s.entry n).pendingDef := by
  rw [State.ticked_entry]
  split
  · exact Entry.tick_pendingDef _ _
  · rfl

/-- A pointing that may end may end with its timers counted. -/
theorem State.MayEnd.ticked {s : State} {p q : Pointing} (h : s.MayEnd p) (live : q.frozen = false)
    (target : q.target = p.target) (x : Option Shot) : ((s.ticked.setShot x).setPointing (some q)).MayEnd q where
  flight := h.flight.congr rfl s.tickTable_mode rfl live h.flight.free rfl h.flight.seen
  still := h.still
  unpended := by
    rw [target]
    exact (s.ticked_pendingDef _).trans h.unpended

/-! ### Shots that PEN may send (R72) -/

theorem State.shoots_iff {s : State} {p : Pointing} (pointing : s.pen.pointing = some p) (live : p.frozen = false) :
    (!s.shotInHand && !p.frozen && p.onAim && s.canReserve p) = true ↔
      s.pen.shot = none ∧ p.onAim = true ∧ (p.reservation = true ∨ s.reports.queue.length < Config.reportSlots) := by
  have reserve : s.canReserve p = true ↔ p.reservation = true ∨ s.reports.queue.length < Config.reportSlots := by
    cases held : p.reservation <;>
      simp [State.canReserve, State.occupancy, State.reserved, pointing, held]
  simp [State.shotInHand, live, reserve, and_assoc]

theorem State.tryShot_fires {s : State} {p : Pointing} (pointing : s.pen.pointing = some p) (live : p.frozen = false)
    (may : s.pen.shot = none ∧ p.onAim = true ∧ (p.reservation = true ∨ s.reports.queue.length < Config.reportSlots)) :
    s.tryShot =
      { s.fire { p with reservation := true } with
        pen := { (s.fire { p with reservation := true }).pen with retriesClosed := false } } := by
  simp only [State.tryShot, pointing]
  exact if_pos ((State.shoots_iff pointing live).mpr may)

theorem State.tryShot_waits {s : State} {p : Pointing} (pointing : s.pen.pointing = some p) (live : p.frozen = false)
    (no : ¬(s.pen.shot = none ∧ p.onAim = true ∧ (p.reservation = true ∨ s.reports.queue.length < Config.reportSlots))) :
    s.tryShot = s := by
  simp only [State.tryShot, pointing]
  exact if_neg fun x => no ((State.shoots_iff pointing live).mp x)

/-! ### The timers of a pointing in flight, both axes STILL (R64, R74 to R76, R78, R119) -/

/-- The shot in hand with its range timer counted once more. -/
def Pen.timed (x : Pen) : Pen := { x with shot := x.shot.map Shot.timed }

section
variable {s : State} {p : Pointing} {cell : CellRead}

theorem Phase.watched_iff (x : Phase) :
    x.watched = true ↔ x = .acquire ∨ x = .look ∨ x = .locking ∨ x = .centre ∨ x = .measure ∨ x = .follow := by
  cases x <;> simp [Phase.watched]

theorem State.silent_iff :
    s.silent p = true ↔
      (p.phase = .acquire ∨ p.phase = .look ∨ p.phase = .locking ∨ p.phase = .centre ∨ p.phase = .measure
          ∨ p.phase = .follow)
        ∧ s.station.n.spotSilence ≤ min (p.silence + 1) 2000 := by
  simp only [State.silent, Bool.and_eq_true, decide_eq_true_eq, Phase.watched_iff]
  rfl

/-- Where no range timer runs out, the pointing's timers count with the shot's. -/
theorem State.ticked_timers (flight : s.InFlight p) (opened : s.RangeOpen) :
    s.ticked.rangeTick.pointingTick =
      if p.phase = .settle then (s.clocked s.pen.timed s.transmit.shots).settleTick p.counted
      else if s.silent p then (s.clocked { s.pen.timed with pointing := some p.counted } s.transmit.shots).failPointing .nosensor
      else if p.phase = .follow then (s.clocked s.pen.timed s.transmit.shots).followTick p.counted
      else s.clocked { s.pen.timed with pointing := some p.counted } s.transmit.shots := by
  rw [State.rangeTick_open (s := s.ticked) opened]
  exact State.pointingTick_live (s := s.ticked.setShot _) flight.pointing flight.live

theorem State.timers_goOn (flight : s.InFlight p) (opened : s.RangeOpen) (unsettled : p.phase ≠ .settle)
    (unfollowed : p.phase ≠ .follow) (heard : ¬s.silent p) :
    s.ticked.rangeTick.pointingTick = s.clocked { s.pen.timed with pointing := some p.counted } s.transmit.shots := by
  rw [State.ticked_timers flight opened, if_neg unsettled, if_neg heard, if_neg unfollowed]

theorem State.timers_settle (flight : s.InFlight p) (opened : s.RangeOpen) (settle : p.phase = .settle)
    (short : p.settleTimer + 1 < s.station.n.settleTimeout) :
    s.ticked.rangeTick.pointingTick =
      s.clocked { s.pen.timed with pointing := some { p.counted with settleTimer := p.settleTimer + 1 } } s.transmit.shots := by
  rw [State.ticked_timers flight opened, if_pos settle]
  exact if_neg (Nat.not_le.mpr short)

theorem State.timers_unsettled (h : s.MayEnd p) (opened : s.RangeOpen) (settle : p.phase = .settle)
    (due : s.station.n.settleTimeout ≤ p.settleTimer + 1) :
    s.ticked.rangeTick.pointingTick = s.ticked.afterEnd p (softened p .unsettled) := by
  rw [State.ticked_timers h.flight opened, if_pos settle]
  refine (if_pos due).trans ?_
  exact (h.ticked (q := { p.counted with settleTimer := p.settleTimer + 1 }) h.flight.live rfl _).failPointing _

theorem State.timers_silent (h : s.MayEnd p) (opened : s.RangeOpen) (silent : s.silent p) :
    s.ticked.rangeTick.pointingTick = s.ticked.afterEnd p (softened p .nosensor) := by
  rw [State.ticked_timers h.flight opened, if_neg (State.settle_of_silent silent), if_pos silent]
  exact (h.ticked (q := p.counted) h.flight.live rfl _).failPointing _

/-- The timers of FOLLOW, the detector heard. -/
theorem State.timers_follow (flight : s.InFlight p) (opened : s.RangeOpen) (follow : p.phase = .follow)
    (heard : ¬s.silent p) :
    s.ticked.rangeTick.pointingTick =
      if p.dwell = some 1 then
        (s.clocked { s.pen.timed with pointing := some p.counted.followed } s.transmit.shots).dwellRunsOut
      else if p.track = some 1 then
        (s.clocked { s.pen.timed with pointing := some p.counted.followed } s.transmit.shots).trackRunsOut
      else s.clocked { s.pen.timed with pointing := some p.counted.followed } s.transmit.shots := by
  rw [State.ticked_timers flight opened, if_neg (by simp [follow]), if_neg heard, if_pos follow]
  rfl

theorem State.dwell_ends (h : s.MayEnd p) (shot : s.pen.shot = none) :
    (s.clocked { s.pen.timed with pointing := some p.counted.followed } s.transmit.shots).dwellRunsOut
      = s.ticked.afterEnd p .done := by
  have out : (s.clocked { s.pen.timed with pointing := some p.counted.followed } s.transmit.shots).shotInHand = false := by
    simp [State.shotInHand, State.clocked, Pen.timed, shot]
  rw [State.dwellRunsOut, out, if_neg Bool.false_ne_true]
  exact (h.ticked (q := p.counted.followed) h.flight.live rfl _).endPointing .done

theorem State.dwell_closes (shot : s.pen.shot ≠ none) :
    (s.clocked { s.pen.timed with pointing := some p.counted.followed } s.transmit.shots).dwellRunsOut
      = s.clocked { s.pen.timed with pointing := some p.counted.followed, retriesClosed := true } s.transmit.shots := by
  have inHand : (s.clocked { s.pen.timed with pointing := some p.counted.followed } s.transmit.shots).shotInHand = true := by
    simp [State.shotInHand, State.clocked, Pen.timed, Option.isSome_iff_ne_none, shot]
  rw [State.dwellRunsOut, inHand, if_pos rfl]
  rfl

theorem State.track_waits (live : p.frozen = false)
    (no : ¬(s.pen.shot = none ∧ p.onAim = true ∧ (p.reservation = true ∨ s.reports.queue.length < 32))) :
    (s.clocked { s.pen.timed with pointing := some p.counted.followed } s.transmit.shots).trackRunsOut
      = s.clocked { s.pen.timed with pointing := some p.counted.followed } s.transmit.shots := by
  rw [State.trackRunsOut]
  split
  · rfl
  · exact State.tryShot_waits (p := p.counted.followed) rfl live fun ⟨shot, aim, slot⟩ =>
      no ⟨by simpa [State.clocked, Pen.timed] using shot, aim, slot⟩

theorem State.track_fires (live : p.frozen = false)
    (may : s.pen.shot = none ∧ p.onAim = true ∧ (p.reservation = true ∨ s.reports.queue.length < 32)) :
    (s.clocked { s.pen.timed with pointing := some p.counted.followed } s.transmit.shots).trackRunsOut
      = s.clocked
          { s.pen with
            nextShotId := (s.pen.nextShotId + 1) % 256
            shot := some { id := s.pen.nextShotId, stage := .awaitingRange 0 }
            retriesClosed := false
            pointing := some { p.counted.followed with reservation := true, attempts := p.attempts + 1 } }
          (s.transmit.shots ++ [s.pen.nextShotId]) := by
  obtain ⟨shot, aim, slot⟩ := may
  have none : (s.clocked { s.pen.timed with pointing := some p.counted.followed } s.transmit.shots).pen.shot = none := by
    simp [State.clocked, Pen.timed, shot]
  have out : (s.clocked { s.pen.timed with pointing := some p.counted.followed } s.transmit.shots).shotInHand = false := by
    rw [State.shotInHand, none]
    rfl
  rw [State.trackRunsOut, out, if_neg Bool.false_ne_true,
    State.tryShot_fires (p := p.counted.followed) rfl live ⟨none, aim, slot⟩]
  rfl

/-! ### A range timer that runs out, both axes STILL (R119, R121, R122) -/

variable {x : Shot} {k : Nat}

/-- With a shot in hand the dwell that runs out closes the retries, and the track timer sends nothing (R75, R76). -/
theorem State.followTick_inHand (shot : s.pen.shot = some x) (p : Pointing) :
    s.followTick p =
      if p.dwell = some 1 then
        { s.setPointing (some p.followed) with
          pen := { (s.setPointing (some p.followed)).pen with retriesClosed := true } }
      else s.setPointing (some p.followed) := by
  have inHand : (s.setPointing (some p.followed)).shotInHand = true := by simp [State.shotInHand, shot]
  simp only [State.followTick_eq, State.dwellRunsOut, State.trackRunsOut, inHand, if_true, ite_self]

/-- A retry within shot_retry, where the pointing's own timers leave it in flight. -/
theorem State.timers_retry (flight : s.InFlight p) (shot : s.pen.shot = some x) (stage : x.stage = .awaitingRange k)
    (due : s.station.n.rangeTimeout ≤ k + 1) (unsettled : p.phase ≠ .settle) (heard : ¬s.silent p)
    (within : p.attempts ≤ s.station.n.shotRetry) (opened : s.pen.retriesClosed = false) :
    s.ticked.rangeTick.pointingTick =
      s.clocked
        { s.pen with
          nextShotId := (s.pen.nextShotId + 1) % 256
          shot := some { id := s.pen.nextShotId, stage := .awaitingRange 0 }
          retriesClosed := decide (p.phase = .follow ∧ p.dwell = some 1)
          pointing :=
            some
              { p with
                silence := min (p.silence + 1) 2000, attempts := p.attempts + 1,
                dwell := if p.phase = .follow then p.dwell.map (· - 1) else p.dwell,
                track := if p.phase = .follow then p.track.map (· - 1) else p.track } }
        (s.transmit.shots ++ [s.pen.nextShotId]) := by
  have fired : s.ticked.rangeTick = s.ticked.fire p := by
    rw [State.rangeTick_due (s := s.ticked) shot stage due]
    exact State.retryOr_fires (s := s.ticked) flight.pointing within opened _
  rw [fired, State.pointingTick_live (s := s.ticked.fire p) (p := { p with attempts := p.attempts + 1 }) rfl flight.live]
  refine (if_neg unsettled).trans ((if_neg heard).trans ?_)
  by_cases follow : p.phase = .follow
  · refine (if_pos follow).trans ((State.followTick_inHand rfl _).trans ?_)
    simp only [follow, if_true, true_and]
    by_cases dwell : p.dwell = some 1
    · rw [decide_eq_true dwell]
      exact if_pos dwell
    · rw [decide_eq_false dwell, ← opened]
      exact if_neg dwell
  · refine (if_neg follow).trans ?_
    simp only [follow, if_false, false_and, decide_false, ← opened]
    rfl

/-- A pointing that has ended has no timers. -/
theorem State.pointingTick_ended (s : State) (p : Pointing) (o : Verdict) :
    (s.afterEnd p o).pointingTick = s.afterEnd p o := by
  obtain ⟨_, _, _, form, -⟩ := s.afterEnd_ledgerOnly p o
  have none : (s.afterEnd p o).pen.pointing = none := by rw [form]
  simp only [State.pointingTick, none]

theorem State.timers_decline (h : s.MayEnd p) (shot : s.pen.shot = some x) (stage : x.stage = .awaitingRange k)
    (due : s.station.n.rangeTimeout ≤ k + 1) (within : p.attempts ≤ s.station.n.shotRetry)
    (closed : s.pen.retriesClosed = true) :
    s.ticked.rangeTick.pointingTick = s.ticked.afterEnd p .done := by
  have ends : (s.ticked.setShot none).endPointing .done = s.ticked.afterEnd p .done := by
    have may := h.ticked h.flight.live rfl none
    rw [← h.flight.pointing] at may
    exact may.endPointing .done
  rw [State.rangeTick_due (s := s.ticked) shot stage due,
    State.retryOr_declines (s := s.ticked) h.flight.pointing within closed, if_neg (by simp [h.flight.live]), ends,
    State.pointingTick_ended]

theorem State.timers_fail (h : s.MayEnd p) (shot : s.pen.shot = some x) (stage : x.stage = .awaitingRange k)
    (due : s.station.n.rangeTimeout ≤ k + 1) (beyond : s.station.n.shotRetry < p.attempts) :
    s.ticked.rangeTick.pointingTick =
      s.ticked.afterEnd p (if p.phase = .follow ∧ p.dwell = some 0 then .done else softened p .norange) := by
  have ends : ∀ o, (s.ticked.setShot none).endPointing o = s.ticked.afterEnd p o := fun o => by
    have may := h.ticked h.flight.live rfl none
    rw [← h.flight.pointing] at may
    exact may.endPointing o
  rw [State.rangeTick_due (s := s.ticked) shot stage due,
    State.retryOr_fails (s := s.ticked) h.flight.pointing beyond h.flight.live, ends, State.pointingTick_ended]

end

end Sys2Proof.Machine
end

section
/-! SUPPORT. An expiry with a frozen pointing in a PAUSE or LEVEL stop (R80, R119, R150). -/

namespace Sys2Proof.Machine

open Sys2Proof

/-! ### A frozen pointing in a stop (R80, R119, R150) -/

theorem State.Frozen.unheld {s : State} {p : Pointing} (h : s.Frozen p) (a : Axis) : (s.axis a).motion ≠ .held := by
  obtain still | ⟨moves, -⟩ := h.stops a
  · simp [still]
  · intro held
    rw [AxisRec.rest_of_held held] at moves
    cases moves

theorem State.Undisturbed.of_frozen {s : State} {p : Pointing} (h : s.Frozen p) (noWrap : s.stc.siteTime + 1000 < 2 ^ 48)
    (burn : s.scs.burn = none) (heard : ∀ a, s.HeardAt a) : s.Undisturbed where
  noWrap := noWrap
  burn := burn
  heard := heard
  noJog := h.noJog
  noHold := h.noHold
  unheld := h.unheld
  seen := h.seen
  free := by rw [h.stopping]; rfl
  going := by obtain cause | cause := h.cause <;> simp [State.restarting, cause]

section
variable {s : State} {p q : Pointing} {pen : Pen} {cell : CellRead}

/-- The axes of a stop report to the diversion controller, and so to no pointing. -/
theorem State.Frozen.moves (h : s.Frozen p) (pen : Pen) (shots : List Nat) :
    ((s.clocked pen shots).stepAxis .h).stepAxis .v = (s.clocked pen shots).arrived pen.pointing s.apg.settle := by
  refine State.stepAxes_quiet fun a arrives mine => ?_
  rw [(s.clocked_ran pen shots).act (a := a) (show s.dsl.selected.get a ≠ _ by simp [h.aimed])] at arrives mine
  obtain still | ⟨-, requester⟩ := h.stops a
  · rw [(s.periodAct_still still).1] at arrives
    cases arrives
  · rw [State.periodAct, (AxisRec.period_keeps _ _ _ _ _).requester, requester] at mine
    cases mine

theorem State.clocked_stopComplete (h : s.Frozen p) (shots : List Nat) (x : Option Pointing) (y : Option SettleTest) :
    ((s.clocked pen shots).arrived x y).stopComplete = true ↔
      (∀ a, (s.periodAct a).axis.inMotion = false) ∧ pen.shot = none := by
  have axis := (s.clocked_ran pen shots).axis (x := x) (y := y) (show ∀ a, s.dsl.selected.get a ≠ _ by simp [h.aimed])
  have stopping : ((s.clocked pen shots).arrived x y).dvc.state = .stopping := h.stopping
  have shot : ((s.clocked pen shots).arrived x y).pen.shot = pen.shot := rfl
  simp only [State.stopComplete, State.axesStill, State.shotInHand, axis, stopping, shot, decide_true, Bool.true_and,
    Bool.and_eq_true, Bool.not_eq_true', Option.isSome_eq_false_iff, Option.isNone_iff_eq_none]
  exact and_congr_left fun _ => ⟨fun both a => match a with
      | .h => both.1
      | .v => both.2,
    fun all => ⟨all .h, all .v⟩⟩

/-- A stop that waits after the timers have counted goes on through an expiry. -/
theorem State.Frozen.waitsOn (h : s.Frozen p) (calm : s.Undisturbed) (pointing : pen.pointing = some q)
    (timers : s.ticked.rangeTick.pointingTick = s.clocked pen s.transmit.shots)
    (waits : (∃ a, (s.periodAct a).axis.inMotion = true) ∨ pen.shot ≠ none) :
    ∃ t : State, exec (.periodExpiry cell) s = .next t ∧ s.Clock t ∧ t.pen = pen ∧ t.transmit.shots = s.transmit.shots := by
  have ran := s.clocked_ran pen s.transmit.shots
  have unjogged : ∀ a, s.dsl.selected.get a ≠ .jog := by simp [h.aimed]
  have moves := h.moves pen s.transmit.shots
  have source : ∀ a, ((s.clocked pen s.transmit.shots).arrived pen.pointing s.apg.settle).wantedSource a
      = s.dsl.selected.get a := fun a => by
    rw [State.clocked_wanted calm (by simp [pointing]), h.aimed, PerAxis.get_both]
  have open_ : ((s.clocked pen s.transmit.shots).arrived pen.pointing s.apg.settle).stopComplete = false := by
    rw [← Bool.not_eq_true, State.clocked_stopComplete h]
    rintro ⟨rest, shot⟩
    obtain ⟨a, moving⟩ | held := waits
    · rw [rest a] at moving
      cases moving
    · exact held shot
  have stopping : s.dvc.state ≠ .run := by simp [h.stopping]
  exact ⟨_, ran.expiry calm timers moves source (.inr stopping) open_,
    ⟨ran.steps calm unjogged, rfl, rfl, rfl, rfl⟩, rfl, rfl⟩

/-- DVC in HELD after a PAUSE stop, with the context of a pointing (R150, R81): `u` is the state whose stop is complete. -/
def State.pausedWith (u : State) (q : Pointing) : State :=
  { u with
    pen := { u.pen with pointing := none }
    apg := { u.apg with settle := none }
    dsl := { u.dsl with selected := both .park }
    dvc :=
      { u.dvc with
        state := .held, cause := .pause, resumeMode := some .command,
        ordinary :=
          some
            { target := some q.target, part := some q.part, cause := .pause, recoverable := true,
              savedAt := u.stc.siteTime } } }

theorem State.pausedWith_axis (u : State) (q : Pointing) (a : Axis) : (u.pausedWith q).axis a = u.axis a := rfl

theorem State.framed_axis (s : State) (a : Axis) : s.framed.axis a = s.axis a := rfl

/-- The completion test of a PAUSE stop whose axes have come to rest with no shot in hand. -/
theorem State.stopTest_pauses {u : State} (complete : u.stopComplete = true) (cause : u.dvc.cause = .pause)
    (pointing : u.pen.pointing = some q) (noHold : u.dsl.restartHold = both false) (jog : u.dsl.jog = .none)
    (seen : ∀ a, (u.latestRaw a).isSome) (unheld : ∀ a, u.dsl.selected.get a ≠ .hold)
    (rest : ∀ a, (u.axis a).inMotion = false) (raised : Notices) : u.stopTest raised = u.pausedWith q := by
  have parks : ∀ w : State, w.dvc.state = .held → w.dvc.resumeMode = some .command → w.scu = u.scu →
      w.dsl = u.dsl → w.pen.pointing = none → (∀ a, w.axis a = u.axis a) →
      w.choose.autoResumeTest = { w with dsl := { w.dsl with selected := both .park } } := by
    intro w held command scu dsl none axis
    have choice := State.choose_park (s := w) (by rw [held]; rfl) (fun a => by rw [State.latestRaw, scu]; exact seen a)
      (by rw [dsl, noHold]) none (by rw [dsl, jog]) (fun a => by rw [axis, rest]) (fun a => by rw [dsl]; exact unheld a)
    rw [choice]
    exact if_neg (by simp [command])
  rw [State.stopTest, if_pos complete, if_neg (by simp [cause]), pointing, cause]
  exact parks _ rfl rfl rfl rfl rfl fun _ => rfl

/-- What a completed PAUSE stop leaves at an expiry. -/
structure State.PauseComplete (s : State) (q : Pointing) (t : State) : Prop where
  entries : t.entries = s.tickTable.entries
  osc : t.osc = s.tickTable.osc
  notices : t.notices = s.tickTable.notices
  reports : t.reports = s.reports
  stc : t.stc = s.periodEnd
  axis : ∀ a, t.axis a = (s.periodAct a).axis
  shots : t.transmit.shots = s.transmit.shots
  pen : t.pen = { s.pen with pointing := none, shot := none }
  dsl : t.dsl = { s.dsl with selected := both .park }
  state : t.dvc.state = .held
  cause : t.dvc.cause = .pause
  resumeMode : t.dvc.resumeMode = some .command
  ordinary : t.dvc.ordinary =
    some { target := some q.target, part := some q.part, cause := .pause, recoverable := true, savedAt := t.stc.siteTime }

/-- What an expiry in a stop has counted: the clock, this pen, the axes' steps and the ages. -/
def State.stopCounted (s : State) (pen : Pen) : State :=
  ((s.clocked pen s.transmit.shots).arrived pen.pointing s.apg.settle).ageTick

theorem State.Frozen.axis (h : s.Frozen p) (a : Axis) : (s.stopCounted pen).axis a = (s.periodAct a).axis :=
  (s.clocked_ran pen s.transmit.shots).axis (x := pen.pointing) (y := s.apg.settle)
    (show ∀ a, s.dsl.selected.get a ≠ _ by simp [h.aimed]) a

/-- Nothing follows the completion of a PAUSE stop. -/
theorem State.Frozen.paused_calm (h : s.Frozen p) (calm : s.Undisturbed)
    (rest : ∀ a, (s.periodAct a).axis.inMotion = false) :
    ((s.stopCounted pen).pausedWith q).Calm
      ∧ ((s.stopCounted pen).pausedWith q).chosen = (s.stopCounted pen).pausedWith q := by
  have still : ∀ a, ((s.stopCounted pen).axis a).inMotion = false := fun a => by rw [h.axis, rest]
  have free : ∀ a, s.dsl.restartHold.get a = false := by simp [calm.noHold]
  have wanted : ∀ a, ((s.stopCounted pen).pausedWith q).wantedSource a = .park := fun a =>
    State.wanted_park rfl (calm.seen a) (free a) rfl calm.noJog (still a)
  refine ⟨?_, by rw [State.chosen, wanted, wanted]; rfl⟩
  exact
    { settled := fun a => by rw [wanted a]; cases a <;> exact Iff.rfl
      jogging := fun z e => absurd (calm.noJog.symm.trans e) (by simp)
      going := rfl
      idle := .inr (show DvcState.held ≠ .run by simp)
      heard := calm.heard }

/-- A PAUSE stop is complete at an expiry that finds the axes at rest and no shot in hand. -/
theorem State.Frozen.completes (h : s.Frozen p) (calm : s.Undisturbed) (pointing : pen.pointing = some q)
    (left : { pen with pointing := none } = { s.pen with pointing := none, shot := none })
    (timers : s.ticked.rangeTick.pointingTick = s.clocked pen s.transmit.shots) (cause : s.dvc.cause = .pause)
    (rest : ∀ a, (s.periodAct a).axis.inMotion = false) :
    ∃ t : State, exec (.periodExpiry cell) s = .next t ∧ s.PauseComplete q t := by
  have counts : s.expiryCounts cell = s.stopCounted pen :=
    (s.clocked_ran pen s.transmit.shots).counts calm timers (h.moves pen s.transmit.shots)
  have complete : (s.stopCounted pen).stopComplete = true :=
    (State.clocked_stopComplete (pen := pen) h s.transmit.shots pen.pointing s.apg.settle).mpr
      ⟨rest, congrArg Pen.shot left⟩
  have held := State.stopTest_pauses complete cause pointing calm.noHold calm.noJog calm.seen
    (show ∀ a, s.dsl.selected.get a ≠ _ by simp [h.aimed]) (fun a => by rw [h.axis, rest]) (s.expiryRaises cell)
  have work : s.expiryWork cell (s.expiryRaises cell) = (s.stopCounted pen).pausedWith q := by
    rw [State.expiryWork, counts, held]
    rfl
  obtain ⟨quiet, chosen⟩ := h.paused_calm (pen := pen) (q := q) calm rest
  refine ⟨_, exec_periodExpiry (State.periodExpires_calm work quiet), ?_⟩
  rw [chosen, calm.going]
  have axis : ∀ a, ((s.stopCounted pen).pausedWith q).framed.axis a = (s.periodAct a).axis := fun a =>
    (State.framed_axis _ a).trans ((State.pausedWith_axis _ q a).trans (h.axis a))
  exact ⟨rfl, rfl, rfl, rfl, rfl, axis, rfl, left, rfl, rfl, rfl, rfl, rfl⟩

/-- No timer of a frozen pointing runs but the range timer of its shot (R80, R119). -/
theorem State.Frozen.timers (h : s.Frozen p) (opened : s.RangeOpen) :
    s.ticked.rangeTick.pointingTick = s.clocked s.pen.timed s.transmit.shots := by
  rw [State.rangeTick_open (s := s.ticked) opened]
  exact State.pointingTick_frozen (s := s.ticked.setShot _) h.pointing h.frozen

/-- A retry due for a frozen pointing is declined, and its reservation released (R80, R122). -/
theorem State.Frozen.timers_decline {x : Shot} {k : Nat} (h : s.Frozen p) (shot : s.pen.shot = some x)
    (stage : x.stage = .awaitingRange k) (due : s.station.n.rangeTimeout ≤ k + 1)
    (within : p.attempts ≤ s.station.n.shotRetry) (closed : s.pen.retriesClosed = true) :
    s.ticked.rangeTick.pointingTick =
      s.clocked { s.pen with shot := none, pointing := some { p with reservation := false } } s.transmit.shots := by
  have declined : s.ticked.rangeTick =
      s.clocked { s.pen with shot := none, pointing := some { p with reservation := false } } s.transmit.shots := by
    rw [State.rangeTick_due (s := s.ticked) shot stage due,
      State.retryOr_declines (s := s.ticked) h.pointing within closed, if_pos h.frozen, State.releaseSlot]
    rw [show (s.ticked.setShot none).pen.pointing = some p from h.pointing]
    rfl
  rw [declined]
  exact State.pointingTick_frozen (s := s.clocked _ _) rfl h.frozen

end

end Sys2Proof.Machine
end

section
/-! SUPPORT. An expiry that finds an axis in HOLD, whatever the other axis does (R93, R134, R135, R153). -/

namespace Sys2Proof.Machine

open Sys2Proof

/-! ### What the other axis' part of an expiry leaves alone -/

/-- `t` has of `s` all that the drive selector's choice reads beside the axes' own records. -/
structure State.DriveOnly (s t : State) : Prop where
  dvc : t.dvc = s.dvc
  scu : t.scu = s.scu
  station : t.station = s.station
  jog : t.dsl.jog = s.dsl.jog
  restartHold : t.dsl.restartHold = s.dsl.restartHold
  busy : t.pen.pointing.isSome = s.pen.pointing.isSome
  mode : t.osc.mode = s.osc.mode

/-- `t` is what work on the axis other than `a` leaves of `s`: `a` itself, its source and its DRIVE frame stay. -/
structure State.Apart (a : Axis) (s t : State) : Prop where
  axis : t.axis a = s.axis a
  source : t.dsl.selected.get a = s.dsl.selected.get a
  slot : t.transmit.slots.get a = s.transmit.slots.get a
  drive : s.DriveOnly t

section
variable {s t u : State} {a b : Axis}

theorem State.DriveOnly.refl : s.DriveOnly s := ⟨rfl, rfl, rfl, rfl, rfl, rfl, rfl⟩

theorem State.DriveOnly.trans (h : s.DriveOnly t) (h' : t.DriveOnly u) : s.DriveOnly u :=
  ⟨h'.dvc.trans h.dvc, h'.scu.trans h.scu, h'.station.trans h.station, h'.jog.trans h.jog,
    h'.restartHold.trans h.restartHold, h'.busy.trans h.busy, h'.mode.trans h.mode⟩

theorem State.DriveOnly.seen (h : s.DriveOnly t) (x : Axis) : t.latestRaw x = s.latestRaw x := by
  rw [State.latestRaw, State.latestRaw, h.scu]

theorem State.Apart.refl : s.Apart a s := ⟨rfl, rfl, rfl, .refl⟩

theorem State.Apart.trans (h : s.Apart a t) (h' : t.Apart a u) : s.Apart a u :=
  ⟨h'.axis.trans h.axis, h'.source.trans h.source, h'.slot.trans h.slot, h.drive.trans h'.drive⟩

theorem State.Apart.wanted (h : s.Apart a t) : t.wantedSource a = s.wantedSource a := by
  obtain ⟨axis, -, -, drive⟩ := h
  unfold State.wantedSource State.busy
  rw [axis, drive.dvc, drive.seen, drive.restartHold, drive.busy, drive.jog]

theorem State.setAxis_apart (other : a ≠ b) (r : AxisRec) : s.Apart a (s.setAxis b r) :=
  ⟨PerAxis.get_set_other _ _ other, rfl, rfl, ⟨rfl, rfl, rfl, rfl, rfl, rfl, rfl⟩⟩

theorem State.setSource_apart (other : a ≠ b) (x : Source) : s.Apart a (s.setSource b x) :=
  ⟨rfl, PerAxis.get_set_other _ _ other, rfl, ⟨rfl, rfl, rfl, rfl, rfl, rfl, rfl⟩⟩

theorem State.setSettle_apart (y : Option SettleTest) : s.Apart a (s.setSettle y) :=
  ⟨rfl, rfl, rfl, ⟨rfl, rfl, rfl, rfl, rfl, rfl, rfl⟩⟩

/-- A pointing in flight stays in flight at an arrival. -/
theorem State.reportArrival_apart (x : Axis) (q : Requester) : s.Apart a (s.reportArrival x q) := by
  simp only [State.reportArrival, State.pointingArrival, State.enterSettle]
  split
  · split
    · exact .refl
    · have busy : s.pen.pointing.isSome = true := by simp [*]
      split
      · split <;> exact ⟨rfl, rfl, rfl, ⟨rfl, rfl, rfl, rfl, rfl, busy.symm, rfl⟩⟩
      · exact .refl
  · exact .refl

theorem State.retarget_apart (other : a ≠ b) (sp : Int) (q : Requester) : s.Apart a (s.retarget b sp q) := by
  have moved : s.Apart a ((s.setAxis b ((s.axis b).retarget b sp q).axis).setSettle none) :=
    (State.setAxis_apart other _).trans (State.setSettle_apart none)
  simp only [State.retarget]
  split
  · exact moved.trans (State.reportArrival_apart b q)
  · exact moved

theorem State.stepAxis_apart (other : a ≠ b) : s.Apart a (s.stepAxis b) := by
  have moved : s.Apart a (s.setAxis b (s.stepAct b).axis) := State.setAxis_apart other _
  unfold State.stepAxis
  change s.Apart a (if (s.stepAct b).arrives then _ else _)
  split
  · exact moved.trans (State.reportArrival_apart b _)
  · exact moved

theorem State.holdAxis_apart (other : a ≠ b) : s.Apart a (s.holdAxis b) := by
  obtain ⟨sent, eq⟩ := s.holdAxis_eq b
  rw [eq]
  exact ⟨PerAxis.get_set_other _ _ other, PerAxis.get_set_other _ _ other, PerAxis.get_set_other _ _ other,
    ⟨rfl, rfl, rfl, rfl, rfl, rfl, rfl⟩⟩

theorem State.releaseAxis_apart (other : a ≠ b) (x : Source) : s.Apart a (s.releaseAxis b x) := by
  have loaded : s.Apart a ((s.setAxis b ((s.axis b).release b ((s.latestRaw b).getD 0))).setSource b x) :=
    (State.setAxis_apart other _).trans (State.setSource_apart other x)
  simp only [State.releaseAxis]
  split
  · exact loaded.trans (State.retarget_apart other _ _)
  · exact loaded

theorem State.chooseAxis_apart (other : a ≠ b) (atExpiry : Bool) : s.Apart a (s.chooseAxis atExpiry b) := by
  simp only [State.chooseAxis]
  repeat' split
  · exact .refl
  · exact State.holdAxis_apart other
  · exact State.releaseAxis_apart other _
  · exact .refl
  · exact State.setSource_apart other _

theorem State.chooseAxis_driveOnly (atExpiry : Bool) (a : Axis) : s.DriveOnly (s.chooseAxis atExpiry a) := by
  cases a with
  | h => exact (State.chooseAxis_apart (a := .v) (by simp) atExpiry).drive
  | v => exact (State.chooseAxis_apart (a := .h) (by simp) atExpiry).drive

theorem State.choose_driveOnly (s : State) : s.DriveOnly s.choose :=
  (State.chooseAxis_driveOnly false .h).trans (State.chooseAxis_driveOnly false .v)

/-- The choice for both axes, seen from one of them. -/
theorem State.chooseAxes_around (s : State) (atExpiry : Bool) (a : Axis) :
    ∃ u, s.Apart a u ∧ (u.chooseAxis atExpiry a).Apart a ((s.chooseAxis atExpiry .h).chooseAxis atExpiry .v) := by
  cases a with
  | h => exact ⟨s, .refl, State.chooseAxis_apart (by simp) atExpiry⟩
  | v => exact ⟨s.chooseAxis atExpiry .h, State.chooseAxis_apart (by simp) atExpiry, .refl⟩

/-- Both axes step, seen from one of them that reports no arrival. -/
theorem State.stepAxes_around (s : State) (a : Axis) :
    ∃ u, s.Apart a u ∧ (u.stepAxis a).Apart a ((s.stepAxis .h).stepAxis .v) := by
  cases a with
  | h => exact ⟨s, .refl, State.stepAxis_apart (by simp)⟩
  | v => exact ⟨s.stepAxis .h, State.stepAxis_apart (by simp), .refl⟩

end

/-! ### The counts of an expiry that finds an axis in HOLD -/

/-- An axis in HOLD, with nothing else that this expiry could end: no burn, shot, jog, stop or dispatch, both encoders heard, and a
pointing in flight only in SLEW. -/
structure State.HeldOn (s : State) (a : Axis) : Prop where
  burn : s.scs.burn = none
  heard : ∀ x, s.HeardAt x
  going : s.dvc.state ≠ .stopping
  stopped : s.osc.mode = .stopped
  shot : s.pen.shot = none
  jog : s.dsl.jog = .none
  slews : ∀ p, s.pen.pointing = some p → p.phase = .slew ∧ p.frozen = false
  source : s.dsl.selected.get a = .hold
  held : (s.axis a).motion = .held

/-- What the counts of an expiry leave of an axis in HOLD and of what its choice reads. -/
structure State.HeldView (s u : State) (a : Axis) : Prop where
  held : (u.axis a).motion = .held
  position : (u.axis a).p = (s.axis a).p
  waiting : (u.axis a).waiting = (s.axis a).waiting
  source : u.dsl.selected.get a = .hold
  seen : u.latestRaw a = s.latestRaw a
  dvc : u.dvc = s.dvc
  station : u.station = s.station
  jog : u.dsl.jog = .none
  restartHold : u.dsl.restartHold = both false
  busy : u.pen.pointing.isSome = s.pen.pointing.isSome
  mode : u.osc.mode = .stopped

theorem State.HeldView.apart {s u w : State} {a : Axis} (h : s.HeldView u a) (k : u.Apart a w) : s.HeldView w a where
  held := by rw [k.axis, h.held]
  position := by rw [k.axis, h.position]
  waiting := by rw [k.axis, h.waiting]
  source := k.source.trans h.source
  seen := (k.drive.seen a).trans h.seen
  dvc := k.drive.dvc.trans h.dvc
  station := k.drive.station.trans h.station
  jog := k.drive.jog.trans h.jog
  restartHold := k.drive.restartHold.trans h.restartHold
  busy := k.drive.busy.trans h.busy
  mode := k.drive.mode.trans h.mode

/-- A HELD axis takes no step. -/
theorem State.HeldView.step {s u : State} {a : Axis} (h : s.HeldView u a) : s.HeldView (u.stepAxis a) a := by
  have rest := AxisRec.period_rest (AxisRec.rest_of_held h.held) a (stationVmax u.station a) (stationAcc u.station a)
    (u.sourceCap a)
  rw [← State.stepAct] at rest
  have kept : (u.stepAct a).axis.motion = .held ∧ (u.stepAct a).axis.p = (u.axis a).p
      ∧ (u.stepAct a).axis.waiting = (u.axis a).waiting := by
    rw [rest]
    refine ⟨(AxisRec.takeParams_motion _ _ _).trans h.held, ?_, (AxisRec.takeParams_keeps _ _ _).waiting⟩
    simp only [AxisRec.takeParams]
    split <;> rfl
  have eq : u.stepAxis a = u.setAxis a (u.stepAct a).axis :=
    State.stepAxis_quiet fun arrives => by rw [rest] at arrives; cases arrives
  have axis : (u.setAxis a (u.stepAct a).axis).axis a = (u.stepAct a).axis := by cases a <;> rfl
  rw [eq]
  obtain ⟨held, position, waiting⟩ := kept
  exact
    { held := by rw [axis, held]
      position := by rw [axis, position, h.position]
      waiting := by rw [axis, waiting, h.waiting]
      source := h.source, seen := h.seen, dvc := h.dvc, station := h.station, jog := h.jog, restartHold := h.restartHold,
      busy := h.busy, mode := h.mode }

/-- The pointing's timers at an expiry with no shot and a pointing in SLEW at most: the silence count alone. -/
theorem State.timers_slewing {s : State} (shot : s.pen.shot = none)
    (slews : ∀ p, s.pen.pointing = some p → p.phase = .slew ∧ p.frozen = false) :
    s.rangeTick.pointingTick = s.setPointing (s.pen.pointing.map Pointing.counted) := by
  have range : s.rangeTick = s := by simp only [State.rangeTick, shot]
  rw [range]
  cases pointing : s.pen.pointing with
  | none =>
    have off : s.pointingTick = s := by simp only [State.pointingTick, pointing]
    exact off.trans (congrArg s.setPointing pointing :)
  | some p =>
    obtain ⟨slew, live⟩ := slews p pointing
    have unwatched : s.silent p = false := by simp [State.silent, slew, Phase.watched]
    rw [State.pointingTick_live pointing live]
    simp only [slew, unwatched, reduceCtorEq, Bool.false_eq_true, if_false]
    rfl

theorem State.HeldOn.expiryCounts {s : State} {a : Axis} (h : s.HeldOn a) (cell : CellRead) :
    s.HeldView (s.expiryCounts cell) a := by
  obtain ⟨c, δ, o, -, mode, eq⟩ := s.ticked_moved
  have pointing : s.endPeriod.tickTable.pen.pointing
      = s.pen.pointing.map fun p => { p with settleTime := p.settleTime.map (· + δ) } := by rw [eq]; rfl
  have timers : s.endPeriod.tickTable.rangeTick.pointingTick
      = s.endPeriod.tickTable.setPointing (s.endPeriod.tickTable.pen.pointing.map Pointing.counted) := by
    refine State.timers_slewing (by rw [eq]; simp [State.moveTimes, h.shot]) fun q some => ?_
    rw [pointing] at some
    obtain ⟨p, flying, rfl⟩ := Option.map_eq_some_iff.mp some
    exact h.slews p flying
  have view : s.HeldView (s.endPeriod.tickTable.setPointing (s.endPeriod.tickTable.pen.pointing.map Pointing.counted)) a := by
    rw [pointing, eq]
    exact
      { held := h.held, position := rfl, waiting := rfl, source := h.source, seen := s.latestRaw_moveTimes δ a, dvc := rfl,
        station := rfl, jog := h.jog, restartHold := rfl, busy := by simp, mode := mode.trans h.stopped }
  obtain ⟨u, before, after⟩ := State.stepAxes_around
    (s.endPeriod.tickTable.setPointing (s.endPeriod.tickTable.pen.pointing.map Pointing.counted)) a
  have stepped : s.HeldView s.expiryMoves a := by
    rw [State.expiryMoves, timers]
    exact (view.apart before).step.apart after
  have burn : s.expiryMoves.base.burn = none := by rw [s.expiryMoves_base]; exact h.burn
  generalize moves : s.expiryMoves = m at stepped burn
  rw [State.expiryCounts_plain moves burn stepped.jog]
  exact ⟨stepped.held, stepped.position, stepped.waiting, stepped.source, stepped.seen, stepped.dvc, stepped.station,
    stepped.jog, stepped.restartHold, stepped.busy, stepped.mode⟩

/-- An expiry that finds an axis in HOLD: the choice, the DRIVE frames, and the choice at the end of the event. -/
theorem State.HeldOn.expiry {s : State} {a : Axis} (h : s.HeldOn a) (cell : CellRead) :
    ∃ u c, s.HeldView u a ∧ (u.chooseAxis true a).Apart a c ∧ u.DriveOnly c
      ∧ exec (.periodExpiry cell) s = .next c.framed.choose := by
  have view := h.expiryCounts cell
  generalize counts : s.expiryCounts cell = w at view
  have stays : w.dvc.state ≠ .stopping := by rw [view.dvc]; exact h.going
  have work : s.expiryWork cell (s.expiryRaises cell) = w := by
    rw [State.expiryWork, counts, State.stopTest, State.stopComplete_of_state stays, if_neg Bool.false_ne_true,
      State.restartTick, State.restarting_of_state stays, if_neg Bool.false_ne_true]
  obtain ⟨u, before, after⟩ := w.chooseAxes_around true a
  have drive : u.DriveOnly w.chooseAtExpiry := (State.chooseAxis_driveOnly true a).trans after.drive
  have kept : w.DriveOnly w.chooseAtExpiry := before.drive.trans drive
  have heard : ∀ x, w.chooseAtExpiry.HeardAt x := fun x =>
    (h.heard x).congr (kept.station.trans view.station) (congrArg Dvc.silenceAge (kept.dvc.trans view.dvc))
  have drives : w.expiryDrives (s.expiryRaises cell) = w.chooseAtExpiry.framed := by
    unfold State.expiryDrives
    exact State.formAndWatch_heard heard _
  refine ⟨u, w.chooseAtExpiry, view.apart before, after, drive, exec_periodExpiry ?_⟩
  rw [State.periodExpires, work, drives, State.restarting_of_state h.going]
  generalize w.chooseAtExpiry = c at kept
  have ended : c.framed.jogTest = c.framed := State.jogTest_same fun z e => by
    rw [show c.framed.dsl.jog = .none from kept.jog.trans view.jog] at e
    cases e
  have last := c.framed.choose_driveOnly
  have going : c.framed.choose.dvc.state ≠ .stopping := by
    rw [last.dvc]
    show c.dvc.state ≠ .stopping
    rw [kept.dvc]
    exact stays
  have dispatch : c.framed.choose.dispatchReady = false :=
    State.dispatchReady_of_stopped (last.mode.trans (kept.mode.trans view.mode))
  rw [State.wrapUpWith, ended, State.stopTest, State.stopComplete_of_state going, if_neg Bool.false_ne_true,
    State.examineDispatch, dispatch]
  rfl

/-! ### HOLD goes on -/

theorem State.wanted_hold {s : State} {a : Axis} (h : s.latestRaw a = none ∨ s.dvc.state.holds = true) :
    s.wantedSource a = .hold := by
  obtain unseen | holds := h
  · simp [State.wantedSource, unseen]
  · simp [State.wantedSource, holds]

theorem State.chooseAxis_held {s : State} {a : Axis} (want : s.wantedSource a = .hold)
    (source : s.dsl.selected.get a = .hold) (atExpiry : Bool) : s.chooseAxis atExpiry a = s := by
  rw [State.chooseAxis_settled (iff_of_true want source), want, ← source, State.setSource, PerAxis.set_get]

/-- The choice at an event, seen from an axis whose HOLD neither begins nor ends. -/
theorem State.choose_at {s : State} {a : Axis} (h : s.wantedSource a = .hold ↔ s.dsl.selected.get a = .hold) :
    s.choose.dsl.selected.get a = s.wantedSource a ∧ s.choose.axis a = s.axis a
      ∧ s.choose.transmit.slots.get a = s.transmit.slots.get a ∧ s.choose.dvc = s.dvc := by
  obtain ⟨f, before, after⟩ := s.chooseAxes_around false a
  rw [State.chooseAxis_settled (by rw [before.wanted, before.source]; exact h)] at after
  have source : (f.setSource a (f.wantedSource a)).dsl.selected.get a = f.wantedSource a := by cases a <;> rfl
  exact ⟨after.source.trans (source.trans before.wanted), after.axis.trans before.axis, after.slot.trans before.slot,
    s.choose_driveOnly.dvc⟩

/-- HOLD stays where DVC holds or no sample has come (R134). -/
theorem State.HeldOn.stays {s : State} {a : Axis} (h : s.HeldOn a) (cell : CellRead)
    (keep : s.latestRaw a = none ∨ s.dvc.state.holds = true) :
    ∃ t : State, exec (.periodExpiry cell) s = .next t
      ∧ t.dsl.selected.get a = .hold ∧ (t.axis a).motion = .held ∧ (t.axis a).p = (s.axis a).p
      ∧ (t.axis a).waiting = (s.axis a).waiting
      ∧ t.transmit.slots.get a = some { axis := a, mode := .hold, position := (s.axis a).p.getD 0, speed := 0 }
      ∧ t.dvc.silenceAge.get a = 0 := by
  obtain ⟨u, c, view, apart, -, next⟩ := h.expiry cell
  have want : u.wantedSource a = .hold := State.wanted_hold (by rw [view.seen, view.dvc]; exact keep)
  rw [State.chooseAxis_held want view.source] at apart
  have held := view.apart apart
  have still : c.framed.wantedSource a = .hold := State.wanted_hold (by
    show c.latestRaw a = none ∨ c.dvc.state.holds = true
    rw [held.seen, held.dvc]
    exact keep)
  obtain ⟨source, axis, slot, dvc⟩ := State.choose_at (iff_of_true still (show c.dsl.selected.get a = _ from held.source))
  have axis : c.framed.choose.axis a = c.axis a := axis
  refine ⟨_, next, source.trans still, ?_, ?_, ?_, ?_, ?_⟩
  · rw [axis, held.held]
  · rw [axis, held.position]
  · rw [axis, held.waiting]
  · exact slot.trans ((c.framed_slot a).trans (by rw [AxisRec.driveFrame_held held.held, AxisRec.pos, held.position]))
  · exact (congrArg (fun d => d.silenceAge.get a) dvc).trans ((c.framed_age a).trans (if_pos held.held))

/-! ### HOLD is released (R93) -/

/-- What the release of an axis leaves of it: `r` is its record before. -/
structure AxisRec.Released (r t : AxisRec) (p : Int) : Prop where
  position : t.p = some p
  slow : t.s = 0
  waiting : t.waiting = none
  free : t.motion ≠ .held
  stepSpeed : t.stepSpeed = 0
  idle : r.waiting = none → t.motion = .still ∧ t.setpoint = some p
  taken : ∀ w, r.waiting = some w → t.setpoint = some w.setpoint ∧ t.requester = w.requester

theorem AxisRec.startToward_released (r : AxisRec) (a : Axis) (raw : Int) {w : Waiting} (waiting : r.waiting = some w) :
    r.Released ((r.release a raw).startToward a w.setpoint w.requester).axis (moved a raw 0) := by
  have mine : ∀ x, r.waiting = some x → x = w := fun x some => Option.some.inj (some.symm.trans waiting)
  simp only [AxisRec.startToward]
  split <;> exact
    { position := rfl, slow := rfl, waiting := rfl, free := by simp, stepSpeed := rfl,
      idle := fun none => by rw [none] at waiting; cases waiting
      taken := fun x some => by rw [mine x some]; exact ⟨rfl, rfl⟩ }

theorem State.releaseAxis_released (s : State) (a : Axis) (want : Source) {raw : Int} (seen : s.latestRaw a = some raw) :
    (s.axis a).Released ((s.releaseAxis a want).axis a) (moved a raw 0) := by
  have set : ∀ (t : State) (r : AxisRec), (t.setAxis a r).axis a = r := fun t r => by cases a <;> rfl
  cases waiting : (s.axis a).waiting with
  | none =>
    have eq : (s.releaseAxis a want).axis a = (s.axis a).release a raw := by
      simp only [State.releaseAxis, waiting, seen, Option.getD_some]
      exact set s _
    rw [eq]
    exact ⟨rfl, rfl, rfl, by simp [AxisRec.release], rfl, fun _ => ⟨rfl, rfl⟩, fun w some => by simp [waiting] at some⟩
  | some w =>
    have eq : (s.releaseAxis a want).axis a
        = (((s.axis a).release a raw).startToward a w.setpoint w.requester).axis := by
      simp only [State.releaseAxis, waiting, seen, Option.getD_some, State.retarget]
      have loaded : ((s.setAxis a ((s.axis a).release a raw)).setSource a want).axis a = (s.axis a).release a raw := set s _
      rw [loaded]
      split
      · rw [State.reportArrival_eq]
        exact set _ _
      · exact set _ _
    rw [eq]
    exact AxisRec.startToward_released _ a raw waiting

theorem State.reportArrival_dsl (s : State) (a : Axis) (q : Requester) : (s.reportArrival a q).dsl = s.dsl := by
  rw [State.reportArrival_eq]

theorem State.releaseAxis_source (s : State) (a : Axis) (want : Source) :
    (s.releaseAxis a want).dsl.selected.get a = want := by
  have set : ∀ r, ((s.setAxis a r).setSource a want).dsl.selected.get a = want := fun r => by cases a <;> rfl
  simp only [State.releaseAxis, State.retarget]
  split
  · split
    · rw [State.reportArrival_dsl]
      exact set _
    · exact set _
  · exact set _

theorem moved_zero (a : Axis) (raw : Int) : moved a raw 0 = if a = .h then raw % 16777216 else raw := by
  cases a <;> simp [moved, mod24]

/-- HOLD is released at the latest raw sample, and a setpoint that waits is taken (R93, R134, R153). -/
theorem State.HeldOn.releases {s : State} {a : Axis} (h : s.HeldOn a) (cell : CellRead) (free : s.dvc.state.holds = false)
    {raw : Int} (seen : s.latestRaw a = some raw) :
    ∃ t : State, exec (.periodExpiry cell) s = .next t ∧ (s.axis a).Released (t.axis a) (moved a raw 0)
      ∧ t.transmit.slots.get a = some { axis := a, mode := .position, position := moved a raw 0, speed := 0 }
      ∧ t.dvc.silenceAge.get a = s.dvc.silenceAge.get a + 1000
      ∧ (s.pen.pointing ≠ none → t.dsl.selected.get a = .aim)
      ∧ (s.pen.pointing = none → (s.axis a).waiting = none → t.dsl.selected.get a = .park) := by
  obtain ⟨u, c, view, apart, drive, next⟩ := h.expiry cell
  have some : (u.latestRaw a).isSome := by rw [view.seen, seen]; rfl
  have noHold : u.dsl.restartHold.get a = false := by rw [view.restartHold, PerAxis.get_both]
  have want := State.wanted_ne_hold (by rw [view.dvc]; exact free) some noHold
  have release : u.chooseAxis true a = u.releaseAxis a (u.wantedSource a) := by
    rw [State.chooseAxis, if_neg want, if_pos view.source, if_pos rfl]
  rw [release] at apart
  have released : (s.axis a).Released (c.axis a) (moved a raw 0) := by
    have at_ := u.releaseAxis_released a (u.wantedSource a) (view.seen.trans seen)
    rw [apart.axis]
    exact ⟨at_.position, at_.slow, at_.waiting, at_.free, at_.stepSpeed, fun none => at_.idle (view.waiting.trans none),
      fun w some => at_.taken w (view.waiting.trans some)⟩
  have holds : c.framed.dvc.state.holds = false := by
    show c.dvc.state.holds = false
    rw [drive.dvc, view.dvc]
    exact free
  have visible : (c.framed.latestRaw a).isSome := by
    show (c.latestRaw a).isSome
    rw [drive.seen]
    exact some
  have noHold' : c.framed.dsl.restartHold.get a = false := by
    show c.dsl.restartHold.get a = false
    rw [drive.restartHold]
    exact noHold
  have busy : c.framed.pen.pointing.isSome = s.pen.pointing.isSome := drive.busy.trans view.busy
  have source : c.framed.dsl.selected.get a ≠ .hold := by
    show c.dsl.selected.get a ≠ .hold
    rw [apart.source, State.releaseAxis_source]
    exact want
  obtain ⟨chosen, axis, slot, dvc⟩ := State.choose_at
    (iff_of_false (State.wanted_ne_hold holds visible noHold') source)
  have axis : c.framed.choose.axis a = c.axis a := axis
  refine ⟨_, next, by rw [axis]; exact released, ?_, ?_, ?_, ?_⟩
  · refine slot.trans ((c.framed_slot a).trans ?_)
    rw [AxisRec.driveFrame_free released.free, AxisRec.pos, released.position, released.stepSpeed]
    rfl
  · refine (congrArg (fun d => d.silenceAge.get a) dvc).trans ((c.framed_age a).trans ?_)
    rw [State.watchedAge, if_neg released.free, drive.dvc, view.dvc]
  · intro flying
    rw [chosen]
    exact State.wanted_aim holds visible noHold' (by rw [busy]; exact Option.isSome_iff_ne_none.mpr flying)
  · intro none idle
    have parked : c.framed.pen.pointing = .none := by
      rw [← Option.not_isSome_iff_eq_none, busy, none]
      simp
    rw [chosen]
    exact State.wanted_park holds visible noHold' parked (drive.jog.trans view.jog)
      (AxisRec.rest_of_still (released.idle idle).1)

end Sys2Proof.Machine
end

section
/-! SUPPORT. An expiry at rest that finds one encoder silent (R153 to R155). -/

namespace Sys2Proof.Machine

open Sys2Proof

/-! ### Notices of an expiry (R177) -/

theorem Notices.record_raise_same (n : Notices) (k : NoticeKind) (x : Option Nat) (whole : n.records.length = 16) :
    (n.raise k x).record k = { pending := true, count := min ((n.record k).count + 1) 255, lastTarget := x } := by
  have place : k.place < n.records.length := by rw [whole]; cases k <;> decide
  simp [Notices.raise, Notices.record, satSucc, List.getD_eq_getElem?_getD, place]

theorem Notices.record_raise_other (n : Notices) {k l : NoticeKind} (x : Option Nat) (other : k.place ≠ l.place) :
    (n.raise l x).record k = n.record k := by
  simp [Notices.raise, Notices.record, List.getD_eq_getElem?_getD, other.symm]

theorem Notices.raise_length (n : Notices) (k : NoticeKind) (x : Option Nat) :
    (n.raise k x).records.length = n.records.length := by simp [Notices.raise]

/-- One notice kind raised for each of several entries leaves the records of the other kinds. -/
theorem Notices.raiseEach_keeps (l : NoticeKind) (ns : List Nat) (n : Notices) :
    (ns.foldl (fun m i => m.raise l (some i)) n).records.length = n.records.length
      ∧ ∀ k : NoticeKind, k.place ≠ l.place → (ns.foldl (fun m i => m.raise l (some i)) n).record k = n.record k := by
  induction ns generalizing n with
  | nil => exact ⟨rfl, fun _ _ => rfl⟩
  | cons i ns ih =>
    obtain ⟨length, record⟩ := ih (n.raise l (some i))
    exact ⟨length.trans (n.raise_length l _), fun k other => (record k other).trans (n.record_raise_other _ other)⟩

/-! ### A fault event that finds the part at rest (R153 to R155) -/

/-- DVC after a first fault event with nothing in flight, at the stamp `at_`: CRITICAL with its record, or LOCKOUT. -/
def Dvc.faulted (d : Dvc) (critical : Bool) (cause : Cause) (at_ : Nat) : Dvc :=
  if critical then
    { d with
      state := .critical, cause := cause, resumeMode := none, fresh := both false,
      critical :=
        some
          { context := { target := none, part := none, cause := cause, recoverable := true, savedAt := at_ },
            priorState := d.state, priorCause := d.cause, priorResume := d.resumeMode, cleared := false } }
  else { d with state := .lockout, cause := cause, resumeMode := none }

theorem Dvc.faulted_aged (d : Dvc) (critical : Bool) (cause : Cause) (at_ : Nat) (ages : PerAxis Nat) :
    ({ d with silenceAge := ages } : Dvc).faulted critical cause at_
      = { d.faulted critical cause at_ with silenceAge := ages } := by
  cases critical <;> rfl

/-- The notice of a first fault event. -/
def faultNotice (critical : Bool) : NoticeKind := if critical then .driveFault else .lockout

/-- Both axes in HOLD with their HOLD frames waiting, DVC as given, and a notice raised. -/
def State.inHold (s : State) (sent : Option DriveFrame) (d : Dvc) (k : NoticeKind) : State :=
  { s with
    apg := { axes := { h := (s.axis .h).enterHold, v := (s.axis .v).enterHold }, settle := none }
    dsl := { s.dsl with selected := both .hold }
    transmit :=
      { s.transmit with
        axis := sent
        slots :=
          { h := some ((s.axis .h).enterHold.driveFrame .h), v := some ((s.axis .v).enterHold.driveFrame .v) } }
    dvc := d
    notices := s.notices.raise k none }

/-- A choice that finds DVC in a state that holds puts both parked axes into HOLD (R134, R92). -/
theorem State.choose_holds {s : State} (holds : s.dvc.state.holds = true) (parked : s.dsl.selected = both .park) :
    ∃ sent, s.choose =
      { s with
        apg := { axes := { h := (s.axis .h).enterHold, v := (s.axis .v).enterHold }, settle := none }
        dsl := { s.dsl with selected := both .hold }
        transmit :=
          { s.transmit with
            axis := sent
            slots :=
              { h := some ((s.axis .h).enterHold.driveFrame .h), v := some ((s.axis .v).enterHold.driveFrame .v) } } } := by
  have one : ∀ (t : State) (a : Axis), t.dvc.state.holds = true → t.dsl.selected.get a = .park →
      t.chooseAxis false a = t.holdAxis a := fun t a yes park => by
    rw [State.chooseAxis, State.wanted_hold (.inr yes), if_pos rfl, if_neg (by simp [park])]
  obtain ⟨_, first⟩ := s.holdAxis_eq .h
  obtain ⟨sent, second⟩ := (s.holdAxis .h).holdAxis_eq .v
  have apart : s.Apart .v (s.holdAxis .h) := State.holdAxis_apart (by simp)
  rw [State.choose, one s .h holds (by rw [parked]; rfl),
    one _ .v (by rw [apart.drive.dvc]; exact holds) (by rw [apart.source, parked]; rfl), second, first]
  exact ⟨sent, rfl⟩

theorem State.AtRest.firstFault {s : State} (h : s.AtRest) (cause : Cause) :
    ∃ sent, s.firstFault cause =
      s.inHold sent (s.dvc.faulted s.station.criticalEnable cause s.stc.siteTime) (faultNotice s.station.criticalEnable) := by
  have jog : s.setJog .none = s := by rw [State.setJog, ← h.noJog]
  have pointing : s.setPointing none = s := by rw [State.setPointing, ← h.noPointing]
  have settle : s.setSettle none = s := by rw [State.setSettle, ← h.noSettle]
  have shot : s.withdrawShot = s := by rw [State.withdrawShot, State.shotInHand, h.noShot]; rfl
  cases enable : s.station.criticalEnable with
  | true =>
    obtain ⟨sent, held⟩ := State.choose_holds (s := s.setDvc (s.dvc.faulted true cause s.stc.siteTime)) rfl h.parked
    have unsaved : (if s.dvc.state = .held then s.dvc.ordinary.bind (·.target) else none) = none := by
      rw [h.run]
      rfl
    refine ⟨sent, ?_⟩
    have enters : s.enterCritical cause
        = (s.setDvc (s.dvc.faulted true cause s.stc.siteTime)).choose.raise .driveFault none := by
      simp only [State.enterCritical, jog, shot, settle, pointing, h.noPointing, unsaved]
      rfl
    rw [State.firstFault, if_pos enable, enters, held]
    rfl
  | false =>
    obtain ⟨sent, held⟩ := State.choose_holds (s := s.setDvc (s.dvc.faulted false cause s.stc.siteTime)) rfl h.parked
    refine ⟨sent, ?_⟩
    have enters : s.enterLockout cause
        = ((s.setDvc (s.dvc.faulted false cause s.stc.siteTime)).choose.endPointing .abandoned).raise .lockout none := by
      simp only [State.enterLockout, jog]
      rfl
    have ends : (s.setDvc (s.dvc.faulted false cause s.stc.siteTime)).choose.endPointing .abandoned
        = (s.setDvc (s.dvc.faulted false cause s.stc.siteTime)).choose := by
      rw [held]
      simp only [State.endPointing, State.setDvc, h.noPointing]
    rw [State.firstFault, if_neg (by simp [enable]), enters, ends, held]
    rfl

/-! ### The watch that finds one encoder silent -/

theorem State.watchEncoder_silent {s : State} {a : Axis} (exp : s.station.n.angleSilenceExp ≤ 17)
    (due : 2 ^ s.station.n.angleSilenceExp ≤ s.dvc.silenceAge.get a + 1000) (raised : Notices) :
    s.watchEncoder a false raised = s.encoderSilent a raised := by
  have top : 2 ^ s.station.n.angleSilenceExp ≤ 2 ^ 17 := Nat.pow_le_pow_right (by omega) exp
  have reached : 2 ^ s.station.n.angleSilenceExp ≤ min (s.dvc.silenceAge.get a + 1000) 131072 := by omega
  rw [State.watchEncoder, if_neg Bool.false_ne_true]
  exact if_pos reached

theorem DriveReport.faulty_iff (r : DriveReport) : r.faulty = true ↔ ∃ f, r = .fault f := by
  cases r <;> simp [DriveReport.faulty]

theorem State.encoderSilent_known {s : State} {a : Axis} (report : (s.dvc.report.get a).faulty = true) (raised : Notices) :
    s.encoderSilent a raised = s.setSilence a 0 := if_pos report

theorem State.encoderSilent_faults {s : State} {a : Axis} (report : (s.dvc.report.get a).faulty = false)
    (run : s.dvc.state = .run) (raised : Notices) :
    s.encoderSilent a raised = (s.setSilence a 0).firstFault (.silence a) := by
  have state : (s.setSilence a 0).dvc.state = .run := run
  have going : (s.setSilence a 0).restarting = false := State.restarting_of_state (by simp [state])
  have taken : (s.setSilence a 0).takeFault a (.silence a) raised = (s.setSilence a 0).firstFault (.silence a) := by
    simp only [State.takeFault, state, going, Bool.false_eq_true, if_false]
  exact (if_neg (by rw [show (s.setSilence a 0).dvc.report = s.dvc.report from rfl, report]; simp)).trans taken

/-- The axis that is not `a`. -/
def otherAxis (a : Axis) : Axis := if a = .h then .v else .h

/-- The silence ages after the encoder of `a` was found silent and the other one heard. -/
def Dvc.silentAges (d : Dvc) (a : Axis) : PerAxis Nat :=
  (d.silenceAge.set a 0).set (otherAxis a) (d.silenceAge.get (otherAxis a) + 1000)

/-- Of two encoders watched, that of `a` is silent and the other one heard. -/
structure State.SilentAt (s : State) (a : Axis) : Prop where
  exp : s.station.n.angleSilenceExp ≤ 17
  due : 2 ^ s.station.n.angleSilenceExp ≤ s.dvc.silenceAge.get a + 1000
  heard : s.dvc.silenceAge.get (otherAxis a) + 1000 < 2 ^ s.station.n.angleSilenceExp

theorem State.SilentAt.watch_known {s : State} {a : Axis} (h : s.SilentAt a)
    (report : (s.dvc.report.get a).faulty = true) (raised : Notices) :
    (s.watchEncoder .h false raised).watchEncoder .v false raised
      = s.setDvc { s.dvc with silenceAge := s.dvc.silentAges a } := by
  cases a with
  | h =>
    rw [State.watchEncoder_silent h.exp h.due, State.encoderSilent_known report,
      State.watchEncoder_heard (s := s.setSilence .h 0) (a := .v) ⟨h.exp, h.heard⟩]
    rfl
  | v =>
    have first := State.watchEncoder_heard (s := s) (a := .h) ⟨h.exp, h.heard⟩ raised false
    have second := State.watchEncoder_silent (s := s.setSilence .h (s.dvc.silenceAge.get .h + 1000)) (a := .v) h.exp h.due
    rw [first]
    exact (second raised).trans (State.encoderSilent_known (s := s.setSilence .h (s.dvc.silenceAge.get .h + 1000))
      (a := .v) report raised)

theorem State.SilentAt.watch_faults {s : State} {a : Axis} (h : s.SilentAt a) (rest : s.AtRest)
    (report : (s.dvc.report.get a).faulty = false) (raised : Notices) :
    ∃ sent, (s.watchEncoder .h false raised).watchEncoder .v false raised
      = s.inHold sent
          { s.dvc.faulted s.station.criticalEnable (.silence a) s.stc.siteTime with silenceAge := s.dvc.silentAges a }
          (faultNotice s.station.criticalEnable) := by
  cases a with
  | h =>
    obtain ⟨sent, fault⟩ := State.AtRest.firstFault (s := s.setSilence .h 0) (rest.congr rfl rfl rfl rfl rfl rfl rfl)
      (.silence .h)
    refine ⟨sent, ?_⟩
    have dvc := s.dvc.faulted_aged s.station.criticalEnable (.silence .h) s.stc.siteTime (s.dvc.silenceAge.set .h 0)
    have fault' : (s.setSilence .h 0).firstFault (.silence .h)
        = s.inHold sent
            { s.dvc.faulted s.station.criticalEnable (.silence .h) s.stc.siteTime with
              silenceAge := s.dvc.silenceAge.set .h 0 }
            (faultNotice s.station.criticalEnable) := by
      rw [← dvc]
      exact fault
    rw [State.watchEncoder_silent h.exp h.due, State.encoderSilent_faults report rest.run, fault']
    refine (State.watchEncoder_heard (s := s.inHold sent _ _) (a := .v) ⟨h.exp, ?_⟩ raised false).trans rfl
    exact h.heard
  | v =>
    obtain ⟨sent, fault⟩ := State.AtRest.firstFault (s := (s.setSilence .h (s.dvc.silenceAge.h + 1000)).setSilence .v 0)
      (rest.congr rfl rfl rfl rfl rfl rfl rfl) (.silence .v)
    refine ⟨sent, ?_⟩
    have dvc := s.dvc.faulted_aged s.station.criticalEnable (.silence .v) s.stc.siteTime (s.dvc.silentAges .v)
    have first := State.watchEncoder_heard (s := s) (a := .h) ⟨h.exp, h.heard⟩ raised false
    have second := State.watchEncoder_silent (s := s.setSilence .h (s.dvc.silenceAge.get .h + 1000)) (a := .v) h.exp h.due
    have third := State.encoderSilent_faults (s := s.setSilence .h (s.dvc.silenceAge.get .h + 1000)) (a := .v) report rest.run
    rw [first, ← dvc]
    exact (second raised).trans ((third raised).trans fault)

/-! ### The expiry that finds one encoder silent -/

/-- What follows an event that raises notices comes to nothing under the conditions of `wrapUp_same`. -/
theorem State.wrapUpWith_same {s : State} (jog : s.dsl.jog = .none) (choice : s.choose = s) (state : s.dvc.state ≠ .stopping)
    (dispatch : s.dispatchReady = false) (raised : Notices) : s.wrapUpWith raised = s := by
  have ended : s.jogTest = s := State.jogTest_same fun z e => by rw [jog] at e; cases e
  rw [State.wrapUpWith, ended, choice, State.stopTest, State.stopComplete_of_state state, if_neg Bool.false_ne_true,
    State.examineDispatch, dispatch, if_neg Bool.false_ne_true]

/-- The part at rest after the counts of an expiry. -/
def State.restCounted (s : State) : State := s.ticked.stepped.ageTick

section
variable {s : State} {a : Axis} {cell : CellRead}

theorem State.AtRest.counts (h : s.AtRest) (noWrap : s.stc.siteTime + 1000 < 2 ^ 48) (burn : s.scs.burn = none) :
    s.expiryCounts cell = s.restCounted := by
  refine State.expiryCounts_plain ?_ burn h.noJog
  rw [State.expiryMoves, State.ticked_eq noWrap h.noHold, h.timers, h.moves]

theorem State.AtRest.restCounted_axis (h : s.AtRest) (a : Axis) :
    (s.restCounted.axis a).motion = .still ∧ (s.restCounted.axis a).pos = (s.axis a).pos := by
  have axis : s.restCounted.axis a = (s.ticked.stepAct a).axis := s.ticked.stepped_axis a
  have step : s.ticked.stepAct a = s.periodAct a :=
    (s.clocked_ran s.pen s.transmit.shots).act (show s.dsl.selected.get a ≠ _ by simp [h.parked])
  rw [axis, step]
  refine ⟨(s.periodAct_still (h.still a)).2, ?_⟩
  rw [State.periodAct, AxisRec.period_rest (AxisRec.rest_of_still (h.still a)), AxisRec.takeParams]
  split <;> rfl

theorem State.AtRest.restCounted (h : s.AtRest) : s.restCounted.AtRest where
  run := h.run
  stopped := s.tickTable_mode.trans h.stopped
  noPointing := h.noPointing
  noShot := h.noShot
  noSettle := h.noSettle
  noJog := h.noJog
  parked := h.parked
  noHold := h.noHold
  still := fun a => (h.restCounted_axis a).1
  seen := h.seen

/-- The drive selector keeps PARK, and the watch of the encoders follows the DRIVE frames. -/
theorem State.AtRest.drives (h : s.AtRest) (raised : Notices) :
    s.expiryDrives raised = (s.formDrives.watchEncoder .h false raised).watchEncoder .v false raised := by
  have wanted : ∀ x, s.wantedSource x = s.dsl.selected.get x := fun x => by rw [h.wanted x, h.parked, PerAxis.get_both]
  have choice : s.chooseAtExpiry = s := by
    have same : ({ h := s.wantedSource .h, v := s.wantedSource .v } : PerAxis Source) = s.dsl.selected :=
      PerAxis.ext_get (wanted .h) (wanted .v)
    refine (State.chooseAxes_settled (fun x => by rw [wanted x]) true).trans ?_
    rw [State.chosen, same]
  have free : ∀ x, decide ((s.formDrives.axis x).motion = .held) = false := fun x => by
    rw [show s.formDrives.axis x = s.axis x from rfl, h.still x]
    rfl
  rw [State.expiryDrives, choice]
  simp only [free]

/-- An expiry at rest: its counts, the watch of the encoders, and the end of the event. -/
theorem State.AtRest.expires (h : s.AtRest) (noWrap : s.stc.siteTime + 1000 < 2 ^ 48) (burn : s.scs.burn = none) {g : State}
    (watch : (s.restCounted.formDrives.watchEncoder .h false (s.expiryRaises cell)).watchEncoder .v false
      (s.expiryRaises cell) = g)
    (ended : g.wrapUpWith (s.expiryRaises cell) = g) : exec (.periodExpiry cell) s = .next g := by
  have rest := h.restCounted
  have run : s.restCounted.dvc.state ≠ .stopping := by rw [rest.run]; simp
  have work : s.expiryWork cell (s.expiryRaises cell) = s.restCounted := by
    rw [State.expiryWork, h.counts noWrap burn, State.stopTest, State.stopComplete_of_state run, if_neg Bool.false_ne_true,
      State.restartTick, State.restarting_of_state run, if_neg Bool.false_ne_true]
  refine exec_periodExpiry ?_
  rw [State.periodExpires, work, rest.drives, watch, ended, State.restarting_of_state (by simp [h.run])]
  exact if_neg Bool.false_ne_true

theorem State.AtRest.wrapUpWith (h : s.AtRest) (raised : Notices) : s.wrapUpWith raised = s :=
  State.wrapUpWith_same h.noJog h.choose (by rw [h.run]; simp) (State.dispatchReady_of_stopped h.stopped) raised

theorem State.inHold_wrapUpWith (jog : s.dsl.jog = .none) (sent : Option DriveFrame) {d : Dvc} (k : NoticeKind)
    (state : d.state ≠ .stopping) (raised : Notices) : (s.inHold sent d k).wrapUpWith raised = s.inHold sent d k :=
  State.wrapUpWith_same (s := s.inHold sent d k) jog (State.choose_hold rfl) state (State.dispatchReady_of_hold rfl) raised

theorem Dvc.faulted_stays (d : Dvc) (critical : Bool) (cause : Cause) (at_ : Nat) :
    (d.faulted critical cause at_).state ≠ .stopping := by cases critical <;> simp [Dvc.faulted]

theorem State.AtRest.expiry_known (h : s.AtRest) (noWrap : s.stc.siteTime + 1000 < 2 ^ 48) (burn : s.scs.burn = none)
    (silent : s.SilentAt a) (report : (s.dvc.report.get a).faulty = true) :
    exec (.periodExpiry cell) s =
      .next (s.restCounted.formDrives.setDvc { s.dvc with silenceAge := s.dvc.silentAges a }) := by
  have rest : (s.restCounted.formDrives.setDvc { s.dvc with silenceAge := s.dvc.silentAges a }).AtRest :=
    h.restCounted.congr rfl rfl rfl rfl rfl rfl rfl
  exact h.expires noWrap burn
    (State.SilentAt.watch_known (s := s.restCounted.formDrives) ⟨silent.exp, silent.due, silent.heard⟩ report _)
    (rest.wrapUpWith _)

theorem State.AtRest.expiry_faults (h : s.AtRest) (noWrap : s.stc.siteTime + 1000 < 2 ^ 48) (burn : s.scs.burn = none)
    (silent : s.SilentAt a) (report : (s.dvc.report.get a).faulty = false) :
    ∃ sent, exec (.periodExpiry cell) s =
      .next
        (s.restCounted.formDrives.inHold sent
          { s.dvc.faulted s.station.criticalEnable (.silence a) s.periodEnd.siteTime with
            silenceAge := s.dvc.silentAges a }
          (faultNotice s.station.criticalEnable)) := by
  obtain ⟨sent, watch⟩ := State.SilentAt.watch_faults (s := s.restCounted.formDrives) (a := a)
    ⟨silent.exp, silent.due, silent.heard⟩ (h.restCounted.congr rfl rfl rfl rfl rfl rfl rfl) report (s.expiryRaises cell)
  rw [show s.restCounted.formDrives.dvc = s.dvc from rfl, show s.restCounted.formDrives.station = s.station from rfl,
    show s.restCounted.formDrives.stc = s.periodEnd from rfl] at watch
  refine ⟨sent, h.expires noWrap burn watch ?_⟩
  refine State.inHold_wrapUpWith (s := s.restCounted.formDrives) h.noJog sent _ ?_ _
  exact s.dvc.faulted_stays s.station.criticalEnable (.silence a) s.periodEnd.siteTime

/-- Both axes of a part put into HOLD at rest stand where they stood, each with its HOLD frame. -/
theorem State.AtRest.inHold_axis (h : s.AtRest) (sent : Option DriveFrame) (d : Dvc) (k : NoticeKind) (x : Axis) :
    ((s.restCounted.formDrives.inHold sent d k).axis x).motion = .held
      ∧ (s.restCounted.formDrives.inHold sent d k).dsl.selected.get x = .hold
      ∧ (s.restCounted.formDrives.inHold sent d k).transmit.slots.get x =
          some { axis := x, mode := .hold, position := (s.axis x).pos, speed := 0 } := by
  rw [← (h.restCounted_axis x).2]
  cases x <;> exact ⟨rfl, rfl, rfl⟩

/-- The notice of the fault, after the OVERRUN notices of the expiry. -/
theorem State.inHold_record (whole : s.notices.records.length = 16) (sent : Option DriveFrame) (d : Dvc) {k : NoticeKind}
    (other : k.place ≠ NoticeKind.overrun.place) :
    (s.restCounted.formDrives.inHold sent d k).notices.record k =
      { pending := true, count := min ((s.notices.record k).count + 1) 255, lastTarget := none } := by
  obtain ⟨length, record⟩ := Notices.raiseEach_keeps .overrun (s.told (·.overrun)) s.notices
  have counted : s.restCounted.notices
      = (s.told (·.overrun)).foldl (fun m n => m.raise .overrun (some n)) s.notices := s.tickTable_notices
  have raised : (s.restCounted.formDrives.inHold sent d k).notices = s.restCounted.notices.raise k none := rfl
  rw [raised, counted, Notices.record_raise_same _ _ _ (length.trans whole), record k other]

end

end Sys2Proof.Machine
end

section
/-! SUPPORT. The statement PeriodExpiryStepsThePart. -/

namespace Sys2Proof.Machine

open Sys2Proof

/-! ### The statement's own words for the counts -/

theorem TempSource.tick_eq (x : TempSource) :
    x.tick = { x with age := min (x.age + 1) 2000, stale := x.stale || decide (2000 ≤ x.age + 1) } := by
  have full : (min (x.age + 1) 2000 = 2000) ↔ 2000 ≤ x.age + 1 := by omega
  simp only [TempSource.tick, satSucc, full]

theorem State.ageTick_sdu (s : State) :
    s.ageTick.sdu =
      { s.sdu with
        instrTemp :=
          { s.sdu.instrTemp with
            age := min (s.sdu.instrTemp.age + 1) 2000,
            stale := s.sdu.instrTemp.stale || decide (2000 ≤ s.sdu.instrTemp.age + 1) }
        driveTemp :=
          { h :=
              { s.sdu.driveTemp.h with
                age := min (s.sdu.driveTemp.h.age + 1) 2000,
                stale := s.sdu.driveTemp.h.stale || decide (2000 ≤ s.sdu.driveTemp.h.age + 1) },
            v :=
              { s.sdu.driveTemp.v with
                age := min (s.sdu.driveTemp.v.age + 1) 2000,
                stale := s.sdu.driveTemp.v.stale || decide (2000 ≤ s.sdu.driveTemp.v.age + 1) } } } := by
  simp only [State.ageTick, TempSource.tick_eq]

/-- An axis at rest with no speed takes the station's speed and acceleration (R87). -/
theorem State.periodAct_rest {s : State} {a : Axis} (still : (s.axis a).motion = .still) (slow : (s.axis a).s = 0) :
    (s.periodAct a).axis =
      { s.axis a with
        vmax := if a = .h then s.station.n.vmaxH else s.station.n.vmaxV
        acc := if a = .h then s.station.n.accH else s.station.n.accV
        stepSpeed := 0 } := by
  rw [State.periodAct, AxisRec.period_rest (AxisRec.rest_of_still still), AxisRec.takeParams, if_pos slow]

/-- Settles O55: an expiry at rest, in SLEW, with a pointing on aim or frozen; the release of HOLD; an encoder found silent. -/
theorem periodExpiryStepsThePart : Obligations.PeriodExpiryStepsThePart := by
  unfold Obligations.PeriodExpiryStepsThePart
  refine ⟨?steps, ?release, ?silence⟩
  case steps =>
    intro s cell us noWrap burn exp ages vmax acc act tick told table aged steps clock soft ends
    have heard : ∀ a, s.HeardAt a := fun a => ⟨exp, ages a⟩
    have tables : s.tickTable = table := s.tickTable_eq
    have stepped : ∀ t, s.ExpirySteps t → steps t := fun t x =>
      ⟨x.stc, x.scs, x.station, x.requests, x.link, x.pending, x.sdu.trans s.ageTick_sdu, x.dvc, x.reports, x.scu, x.squ,
        x.axis, x.slots⟩
    have clocked : ∀ t, s.Clock t → clock t := fun t x =>
      ⟨stepped t x.steps, x.dsl, by rw [x.entries, tables], by rw [x.osc, tables], by rw [x.notices, tables]⟩
    have ended : ∀ p o t, s.Ends p o t → ends p o t := fun p o t x =>
      ⟨stepped t x.steps, x.pen, x.settle, x.dsl, by rw [x.entries, tables], by rw [x.osc, tables], by rw [x.notices, tables]⟩
    have stopsAt : ∀ p, s.InFlight p → (∀ a, (s.axis a).motion = .still) → ∀ o,
        s.ticked.rangeTick.pointingTick = s.ticked.afterEnd p o →
        ∃ t : State, exec (.periodExpiry cell) s = .next t ∧ ends p o t := fun p flight still o timers => by
      obtain ⟨t, next, all⟩ := flight.endsAt (cell := cell) (.of_flight flight noWrap burn heard) still timers rfl rfl
      exact ⟨t, next, ended p o t all⟩
    refine ⟨?rest, ?slew, ?still, ?range, ?frozen⟩
    case rest =>
      intro rest slow
      obtain ⟨t, next, clock, pen⟩ := rest.expiry (.of_rest rest noWrap burn heard) cell
      exact ⟨t, next, clocked t clock, pen, fun a => State.periodAct_rest (rest.still a) (slow a)⟩
    case slew =>
      intro p flight slew shot _
      obtain ⟨t, q, next, pointing, clock, silence, slewed⟩ := flight.slews (cell := cell)
        (.of_flight flight noWrap burn heard) slew shot
      refine ⟨t, q, next, pointing, clocked t clock, silence, slewed.arrived, ?_, ?_⟩
      · intro a open_
        obtain ⟨slew, -⟩ | ⟨-, -, all⟩ := slewed.phase
        · exact slew
        · rw [all a] at open_
          cases open_
      · intro some all
        obtain ⟨-, left⟩ | ⟨settle, zero, -⟩ := slewed.phase
        · obtain ⟨b, open_⟩ := left some
          rw [all b] at open_
          cases open_
        · exact ⟨settle, zero⟩
    case still =>
      intro p flight still opened expiry watched silent counted timed goesOn
      have calm := State.Undisturbed.of_flight flight noWrap burn heard
      have goes : ∀ (pen : Pen) (q : Pointing), pen.pointing = some q →
          s.ticked.rangeTick.pointingTick = s.clocked pen s.transmit.shots → goesOn pen := fun pen q pointing timers => by
        obtain ⟨t, next, clock, eq, -⟩ := flight.staysOn (cell := cell) calm still pointing timers
        exact ⟨t, next, clocked t clock, eq⟩
      have stops := stopsAt p flight still
      have deaf : ¬silent → ¬s.silent p := fun no x => no (State.silent_iff.mp x)
      refine ⟨?goes, ?settles, ?unsettled, ?deafens, ?follows⟩
      case goes =>
        exact fun unsettled unfollowed hears =>
          goes _ _ rfl (State.timers_goOn flight opened unsettled unfollowed (deaf hears))
      case settles => exact fun settle short => goes _ _ rfl (State.timers_settle flight opened settle short)
      case unsettled =>
        intro settle due may
        rw [show soft p .unsettled = softened p .unsettled from (softened_eq (.inl rfl)).symm]
        exact stops _ (State.timers_unsettled may opened settle due)
      case deafens =>
        intro quiet may
        rw [show soft p .nosensor = softened p .nosensor from (softened_eq (.inr (.inl rfl))).symm]
        exact stops _ (State.timers_silent may opened (State.silent_iff.mpr quiet))
      case follows =>
        intro follow hears followed may
        have timers := State.timers_follow flight opened follow (deaf hears)
        refine ⟨?done, ?closes, ?waits, ?fires⟩
        case done =>
          intro dwell shot mayEnd
          rw [if_pos dwell, State.dwell_ends mayEnd shot] at timers
          exact stops _ timers
        case closes =>
          intro dwell shot
          rw [if_pos dwell, State.dwell_closes shot] at timers
          exact goes _ _ rfl timers
        case waits =>
          intro dwell no
          rw [if_neg dwell] at timers
          refine goes _ p.counted.followed rfl (timers.trans ?_)
          split
          · exact State.track_waits flight.live (no.resolve_left (not_not_intro ‹_›))
          · rfl
        case fires =>
          intro dwell track may
          rw [if_neg dwell, if_pos track, State.track_fires flight.live may] at timers
          obtain ⟨t, next, clock, pen, sent⟩ := flight.staysOn (cell := cell) calm still rfl timers
          exact ⟨t, next, clocked t clock, sent, pen⟩
    case range =>
      intro p flight still x shot k stage due follows
      have calm := State.Undisturbed.of_flight flight noWrap burn heard
      have stops := stopsAt p flight still
      refine ⟨?fires, ?declines, ?fails⟩
      case fires =>
        intro phase hears within opened
        have unsettled : p.phase ≠ .settle := by
          obtain follow | measure | centre := phase
          · exact fun x => by cases follow.symm.trans x
          · simp [measure]
          · simp [centre]
        have timers := State.timers_retry flight shot stage due unsettled
          (fun x => Nat.not_le.mpr hears (State.silent_iff.mp x).2) within opened
        obtain ⟨t, next, clock, pen, sent⟩ := flight.staysOn (cell := cell) calm still rfl timers
        exact ⟨t, next, clocked t clock, sent, pen⟩
      case declines =>
        exact fun within closed may => stops _ (State.timers_decline may shot stage due within closed)
      case fails =>
        intro beyond may
        have timers := State.timers_fail may shot stage due beyond
        rw [softened_eq (.inr (.inr rfl))] at timers
        exact stops _ timers
    case frozen =>
      intro p frozen wait moves range timed counted waits completes kept
      have calm := State.Undisturbed.of_frozen frozen noWrap burn heard
      have waiting : ∀ pen t, s.Clock t → t.pen = pen → t.transmit.shots = s.transmit.shots → waits pen t :=
        fun pen t c eq sent =>
          ⟨⟨by rw [c.entries, tables], by rw [c.osc, tables], by rw [c.notices, tables], c.steps.reports, c.steps.stc,
              c.steps.axis, sent⟩,
            eq, c.dsl, by rw [c.steps.dvc]; exact frozen.stopping, by rw [c.steps.dvc], by rw [c.steps.dvc]⟩
      have complete : ∀ q t, s.PauseComplete q t → completes q t := fun q t c =>
        ⟨⟨by rw [c.entries, tables], by rw [c.osc, tables], by rw [c.notices, tables], c.reports, c.stc, c.axis, c.shots⟩,
          c.pen, c.dsl, c.state, c.cause, c.resumeMode, c.ordinary⟩
      have atRest : ¬moves → ∀ a, (s.periodAct a).axis.inMotion = false := fun no a =>
        Bool.eq_false_iff.mpr fun x => no ⟨a, x⟩
      refine ⟨?waits, ?completes, ?declines⟩
      case waits =>
        intro short stay
        have opened : s.RangeOpen := fun x shot k stage => short k (by simp [range, shot, stage])
        obtain ⟨t, next, clock, pen, sent⟩ := frozen.waitsOn (cell := cell) (pen := s.pen.timed) calm frozen.pointing
          (frozen.timers opened) (stay.imp_right fun held => by simpa [Pen.timed] using held)
        exact ⟨t, next, waiting _ t clock pen sent⟩
      case completes =>
        intro cause shot no
        have opened : s.RangeOpen := fun x some => by rw [shot] at some; cases some
        obtain ⟨t, next, all⟩ := frozen.completes (cell := cell) (pen := s.pen.timed) calm frozen.pointing
          (by simp [Pen.timed, shot]) (frozen.timers opened) cause (atRest no)
        exact ⟨t, next, complete p t all⟩
      case declines =>
        intro cause k inHand due closed within
        obtain ⟨x, shot, stage⟩ := Option.map_eq_some_iff.mp inHand
        have timers := frozen.timers_decline shot stage due within closed
        by_cases moving : moves
        · obtain ⟨t, next, clock, pen, sent⟩ := frozen.waitsOn (cell := cell) calm rfl timers (.inl moving)
          exact ⟨t, next, fun _ => waiting _ t clock pen sent, fun no => absurd moving no⟩
        · obtain ⟨t, next, all⟩ := frozen.completes (cell := cell) calm rfl rfl timers cause (atRest moving)
          exact ⟨t, next, fun yes => absurd yes moving, fun _ => complete kept t all⟩
  case release =>
    intro s cell burn exp ages state stopped shot jog slews a source held
    have going : s.dvc.state ≠ .stopping := by
      obtain run | held | holds := state
      · simp [run]
      · simp [held]
      · intro stopping
        rw [stopping] at holds
        cases holds
    have on : s.HeldOn a := ⟨burn, fun x => ⟨exp, ages x⟩, going, stopped, shot, jog, slews, source, held⟩
    by_cases keep : s.latestRaw a = none ∨ s.dvc.state.holds = true
    · obtain ⟨t, next, all⟩ := on.stays cell keep
      refine ⟨t, next, fun _ => all, fun free raw seen => ?_⟩
      obtain unseen | holds := keep
      · rw [unseen] at seen
        cases seen
      · rw [free] at holds
        cases holds
    · obtain ⟨unseen, free⟩ := not_or.mp keep
      have free : s.dvc.state.holds = false := Bool.eq_false_iff.mpr free
      obtain ⟨raw, seen⟩ := Option.ne_none_iff_exists'.mp unseen
      obtain ⟨t, next, released, slot, age, aim, park⟩ := on.releases cell free seen
      rw [moved_zero] at released slot
      refine ⟨t, next, fun yes => absurd yes keep, ?_⟩
      intro _ raw' seen' p
      obtain rfl : raw = raw' := Option.some.inj (seen.symm.trans seen')
      exact ⟨released.position, released.slow, released.waiting, released.free, slot, age, released.idle, released.taken, aim,
        fun none idle _ => park none idle⟩
  case silence =>
    intro s cell rest whole burn exp noWrap us a due b heard ages
    have silent : s.SilentAt a := ⟨exp, due, heard⟩
    cases report : (s.dvc.report.get a).faulty with
    | true =>
      obtain ⟨f, fault⟩ := (DriveReport.faulty_iff _).mp report
      exact ⟨_, rest.expiry_known noWrap burn silent report, rfl, rfl, fun _ => ⟨rfl, rfl⟩, fun sound => absurd fault (sound f)⟩
    | false =>
      have sound : ¬∃ f, s.dvc.report.get a = .fault f := fun fault => by
        rw [(DriveReport.faulty_iff _).mpr fault] at report
        cases report
      obtain ⟨sent, next⟩ := rest.expiry_faults (cell := cell) noWrap burn silent report
      have place : ∀ critical, (faultNotice critical).place ≠ NoticeKind.overrun.place := by decide
      refine ⟨_, next, rfl, rfl, fun fault => absurd fault sound, fun _ => ⟨rest.inHold_axis _ _ _, ?_, ?_⟩⟩
      · intro enable
        rw [enable]
        refine ⟨?_, State.inHold_record whole.2.1 _ _ (place true)⟩
        rw [← rest.run]
        rfl
      · intro enable
        rw [enable]
        exact ⟨rfl, State.inHold_record whole.2.1 _ _ (place false)⟩

end Sys2Proof.Machine
end

section
/-! SUPPORT. The cold values and what a cold reset leaves: the statements ResetIsColdAndLawful and
ColdResetRestoresTheColdValues. -/

namespace Sys2Proof.Machine

open Sys2Proof

/-! ### The cold state -/

theorem coldState_coldAxis (slots : PerAxis (List Slot)) (line : Bool) (pending : List Instr) (a : Axis) :
    (coldState slots line pending).ColdAxis a := by
  cases a <;>
    exact
      { position := rfl, speed := rfl, direction := rfl, setpoint := rfl, motion := rfl, limits := ⟨rfl, rfl⟩,
        requester := rfl, waiting := rfl, selected := rfl, history := rfl, report := rfl, silence := rfl, slot := rfl,
        temperature := rfl, soft := rfl }

/-- The cold values hold over any fixed slots, HALT line and queue. -/
theorem coldState_cold (slots : PerAxis (List Slot)) (line : Bool) (pending : List Instr) :
    (coldState slots line pending).Cold where
  axes := coldState_coldAxis slots line pending
  time := rfl
  receivers := rfl
  requests := rfl
  notices := ⟨rfl, rfl⟩
  reports := rfl
  transmitters := ⟨rfl, rfl, rfl, rfl⟩
  entries := rfl
  scheduler := rfl
  pointing := ⟨rfl, rfl, rfl, rfl, rfl⟩
  counters := rfl
  station := rfl
  zenith := rfl
  tilt := ⟨rfl, rfl, rfl, rfl, rfl⟩
  settle := rfl
  jog := rfl
  instrument := rfl
  groups := rfl
  diversion := ⟨rfl, rfl, rfl, rfl⟩
  level := ⟨rfl, rfl, rfl⟩
  faults := rfl
  guardStart := rfl
  burn := rfl

/-- DVC's state and cause are no part of the cold values. -/
theorem State.Cold.withState {s : State} (h : s.Cold) (x : DvcState) (c : Cause) :
    State.Cold { s with dvc := { s.dvc with state := x, cause := c } } :=
  { h with axes := fun a => { h.axes a with } }

/-! ### The laws at reset -/

theorem reset_entry (n : Nat) : State.reset.entry n = emptyEntry := by
  exact List.getD_eq_getElem?_getD.trans (List.getElem?_getD_replicate_default_eq _ 64 n)

theorem reset_lawEight : State.reset.scs.lawEight := by
  intro a n x fixed
  have blank : (State.reset.scs.slots.get a).getD n .blank = .blank := by
    cases a <;> exact List.getD_eq_getElem?_getD.trans (List.getElem?_getD_replicate_default_eq _ 32 n)
  rw [blank] at fixed
  cases fixed

theorem reset_axisHeldLaw (a : Axis) : State.reset.axisHeldLaw a := by
  have selected : State.reset.dsl.selected.get a = .hold := PerAxis.get_both _ a
  have motion : (State.reset.axis a).motion = .held := by cases a <;> rfl
  have slot : State.reset.transmit.slots.get a = none := by cases a <;> rfl
  refine ⟨iff_of_true selected motion, ?_, fun _ => ⟨?_, ?_⟩⟩
  · intro f waits
    rw [slot] at waits
    cases waits
  · intro f waits
    rw [slot] at waits
    cases waits
  · intro f sent
    cases sent

theorem reset_holdsAt (n : Nat) (k : PointingKind) : ¬State.reset.holdsAt n k := by
  rintro (⟨p, flying, -⟩ | ⟨c, x, saved, -⟩ | ⟨r, x, saved, -⟩)
  · cases flying
  · cases saved
  · cases saved

theorem reset_oneVisit : State.reset.OneVisit where
  flying := fun flying => nomatch flying
  free := fun _ => ⟨rfl, rfl⟩
  held := fun _ => rfl
  ordinary := fun _ saved => nomatch saved
  fromHeld := fun _ saved => nomatch saved
  alone := fun _ saved => nomatch saved
  fromHalted := fun _ saved => nomatch saved

theorem reset_queueLaw : State.reset.QueueLaw where
  once := List.nodup_nil
  apart := fun _ queued => nomatch queued
  queued := fun n => by
    rw [reset_entry]
    exact iff_of_false (fun ⟨_, queued, _⟩ => nomatch queued) (fun due => nomatch due.1)
  active := fun n held => absurd held (reset_holdsAt n _)
  engaged := fun n held => absurd held (reset_holdsAt n _)
  deferred := fun n deferred => by
    rw [reset_entry] at deferred
    cases deferred
  visit := reset_oneVisit

theorem reset_windowLaw : State.reset.WindowLaw where
  window := by decide
  waiting := fun _ waiting => nomatch waiting
  onTheWay := fun _ moves => nomatch moves

theorem reset_speedLaw : State.reset.speedLaw := by
  intro a
  cases a <;> exact ⟨Nat.zero_le _, fun _ => rfl⟩

theorem reset_portsBounded : State.reset.portsBounded := ⟨Nat.zero_le _, Nat.zero_le _⟩

theorem reset_tablesWhole : State.reset.tablesWhole := ⟨rfl, rfl, rfl, rfl, rfl, rfl, rfl, rfl⟩

theorem reset_shotLaw : State.reset.shotLaw := by
  refine ⟨by decide, fun inHand => ?_, fun p flying => ?_⟩
  · cases inHand
  · cases flying

theorem reset_holdLaw : State.reset.holdLaw := ⟨reset_axisHeldLaw, nofun⟩

/-- Settles O2: the cold values hold of the reset state by the cold state's construction, and each law by its own lemma. -/
theorem resetIsColdAndLawful : Obligations.ResetIsColdAndLawful :=
  ⟨⟨coldState_cold _ _ _, rfl, rfl, rfl, fun a => PerAxis.get_both _ a, rfl⟩,
    reset_portsBounded, reset_lawEight, reset_shotLaw, reset_holdLaw, ⟨nofun, nofun⟩, nofun, reset_tablesWhole,
    Nat.zero_le _, List.Pairwise.nil, reset_speedLaw, reset_queueLaw, reset_windowLaw⟩

/-! ### A cold reset -/

/-- A HALT taken right after a cold reset leaves nothing but DVC's state and cause (R156). -/
theorem coldState_takeHalt (slots : PerAxis (List Slot)) (line : Bool) (pending : List Instr) :
    (coldState slots line pending).takeHalt =
      { coldState slots line pending with
        dvc := { (coldState slots line pending).dvc with state := .halted, cause := .halt } } := rfl

/-- What a cold reset leaves: the cold state over the slots of R166, in HALTED where the HALT line is asserted. -/
theorem State.coldReset_eq (s : State) :
    s.coldReset =
      { coldState s.scs.slotsAfterReset s.dvc.haltLine s.pending with
        dvc :=
          { (coldState s.scs.slotsAfterReset s.dvc.haltLine s.pending).dvc with
            state := if s.dvc.haltLine then .halted else .run, cause := if s.dvc.haltLine then .halt else .none } } := by
  unfold State.coldReset
  cases line : s.dvc.haltLine
  · rfl
  · exact coldState_takeHalt _ _ _

/-- A cold reset spoils the slot of a burn in progress and keeps every other (R166). -/
theorem Scs.slotsAfterReset_at (c : Scs) (a : Axis) (n : Nat) :
    (c.slotsAfterReset.get a)[n]? =
      if ∃ b, c.burn = some b ∧ b.axis = a ∧ b.sector = n then (c.slots.get a)[n]?.map fun _ => .spoiled
      else (c.slots.get a)[n]? := by
  unfold Scs.slotsAfterReset
  split
  case h_1 idle => simp [idle]
  case h_2 b burning =>
    rw [PerAxis.get_set]
    by_cases same : b.axis = a
    · subst same
      simp [burning, List.getElem?_set']
      rfl
    · simp [burning, same, Ne.symm same]

/-- Settles O3: a cold reset is the cold state over the slots of R166, with the HALT of an asserted line. -/
theorem coldResetRestoresTheColdValues : Obligations.ColdResetRestoresTheColdValues := by
  intro s
  refine ⟨s.coldReset, rfl, ?_⟩
  rw [State.coldReset_eq]
  exact ⟨(coldState_cold _ _ _).withState _ _, rfl, rfl, rfl, rfl, s.scs.slotsAfterReset_at⟩

end Sys2Proof.Machine
end

section
/-! SUPPORT. The angle reduction unit (R4, R10, R14 to R17): the factor lookup, the two reductions term by term, and that the
forward reduction gives the target of the inverse one back. The statement ReductionsInvertEachOther. -/

namespace Sys2Proof.Machine

open Sys2Proof

/-! ### The clamp and the rounded interpolation -/

theorem clampTo_eq {lo hi : Int} (h : lo ≤ hi) (x : Int) : clampTo lo hi x = max lo (min x hi) := by
  unfold clampTo
  split
  · omega
  · split <;> omega

/-- The clamp acts exactly outside the window. -/
theorem clampTo_ne_iff {lo hi : Int} (h : lo ≤ hi) (x : Int) : clampTo lo hi x ≠ x ↔ x < lo ∨ hi < x := by
  rw [clampTo_eq h]
  omega

theorem factorBetween_eq (f g r : Int) : factorBetween f g r = f + (2 * ((g - f) * r) + 262144) / 524288 := rfl

theorem factorBetween_zero (f g : Int) : factorBetween f g 0 = f := by
  rw [factorBetween_eq]
  omega

/-- The rounded interpolation between two factors stays between them (R10). -/
theorem factorBetween_mem {f g r : Int} (low : 0 ≤ r) (high : r < 262144) (le : f ≤ g) :
    f ≤ factorBetween f g r ∧ factorBetween f g r ≤ g := by
  have below : 0 ≤ (g - f) * r := mul_nonneg (by omega) low
  have above : (g - f) * r ≤ (g - f) * 262144 := mul_le_mul_of_nonneg_left high.le (by omega)
  rw [factorBetween_eq]
  omega

/-! ### The factor lookup (R10) -/

/-- The lookup at `r` of 262,144 above row `k`, inside the table. -/
theorem factorAt_row (rows : List ZRow) {k : Nat} {r : Int} (inside : k ≤ 31) (low : 0 ≤ r) (high : r < 262144) :
    factorAt rows (262144 * (k : Int) + r) =
      { s := factorBetween (zenithRow rows k).s (zenithRow rows (k + 1)).s r,
        k := factorBetween (zenithRow rows k).k (zenithRow rows (k + 1)).k r } := by
  have clamped : clampTo 0 8388607 (262144 * (k : Int) + r) = 262144 * (k : Int) + r := by
    rw [clampTo_eq (by decide)]
    omega
  have row : ((262144 * (k : Int) + r) / 262144).toNat = k := by omega
  have rest : (262144 * (k : Int) + r) % 262144 = r := by omega
  simp only [factorAt, clamped, row, rest]

theorem zenithRow_eq {rows : List ZRow} {k : Nat} {x : ZRow} (h : rows[k]? = some x) : zenithRow rows k = x := by
  simp [zenithRow, List.getD_eq_getElem?_getD, h]

theorem factorAt_inside (rows : List ZRow) {z : Int} (low : 0 ≤ z) (high : z ≤ 8388607) :
    factorAt rows z =
      { s := factorBetween (zenithRow rows (z / 262144).toNat).s (zenithRow rows ((z / 262144).toNat + 1)).s (z % 262144),
        k := factorBetween (zenithRow rows (z / 262144).toNat).k (zenithRow rows ((z / 262144).toNat + 1)).k (z % 262144) } := by
  have clamped : clampTo 0 8388607 z = z := by
    rw [clampTo_eq (by decide)]
    omega
  simp only [factorAt, clamped]

/-- The lookup reads no more of its zenith than the clamped value. -/
theorem factorAt_clamped (rows : List ZRow) {z y : Int} (h : clampTo 0 8388607 z = clampTo 0 8388607 y) :
    factorAt rows z = factorAt rows y := by
  simp only [factorAt, h]

theorem factorAt_below (rows : List ZRow) {z : Int} (h : z < 0) : factorAt rows z = factorAt rows 0 :=
  factorAt_clamped rows (by rw [clampTo, if_pos h]; rfl)

theorem factorAt_above (rows : List ZRow) {z : Int} (h : 8388607 < z) : factorAt rows z = factorAt rows 8388607 :=
  factorAt_clamped rows (by rw [clampTo_eq (by decide), clampTo_eq (by decide)]; omega)

/-! ### The two reductions (R14 to R17) -/

theorem tiltPair_eq (s : State) :
    tiltPair s =
      (if s.station.compEnable = true then (s.aru.tilt.map (·.tl)).getD 0 else 0,
        if s.station.compEnable = true then (s.aru.tilt.map (·.tc)).getD 0 else 0) := by
  unfold tiltPair
  cases s.station.compEnable
  · rfl
  · cases s.aru.tilt <;> rfl

/-- The V setpoint of a target before the clamp into the window (R17). -/
def State.freeV (s : State) (vt oy : Int) : Int :=
  let gV := vt - oy - s.station.n.index - (tiltPair s).1
  gV - sigma s .v gV

theorem inverseReduction_v {s : State} (window : s.station.n.vMin ≤ s.station.n.vMax) (ht vt ox oy : Int) :
    (inverseReduction s ht vt ox oy).v = max s.station.n.vMin (min (s.freeV vt oy) s.station.n.vMax) :=
  clampTo_eq window _

theorem inverseReduction_limited {s : State} (window : s.station.n.vMin ≤ s.station.n.vMax) (ht vt ox oy : Int) :
    (inverseReduction s ht vt ox oy).limited = true ↔ s.freeV vt oy < s.station.n.vMin ∨ s.station.n.vMax < s.freeV vt oy :=
  decide_eq_true_iff.trans (clampTo_ne_iff window _)

theorem inverseReduction_v_of_free {s : State} {ht vt ox oy : Int} (free : (inverseReduction s ht vt ox oy).limited = false) :
    (inverseReduction s ht vt ox oy).v = s.freeV vt oy :=
  not_not.mp (of_decide_eq_false free)

/-- Each reduction undoes the other's terms, where the correction is the same on both ways and no clamp acts (R16, R17). -/
theorem forwardReduction_inverseReduction {s : State} {ht vt ox oy : Int} (hz : 0 ≤ ht ∧ ht < 16777216)
    (v : 0 ≤ vt ∧ vt < 16777216) (noCorrection : ∀ a n, effectiveCorrection s.scs a n = 0)
    (free : (inverseReduction s ht vt ox oy).limited = false) :
    forwardReduction s (inverseReduction s ht vt ox oy).h (inverseReduction s ht vt ox oy).v { dx := ox, dy := oy } =
      { hz := ht, v := vt } := by
  have plain : ∀ a x, sigma s a x = 0 := fun a x => noCorrection a _
  have raw : (inverseReduction s ht vt ox oy).v = vt - oy - s.station.n.index - (tiltPair s).1 := by
    rw [inverseReduction_v_of_free free, State.freeV, plain, sub_zero]
  have vBack : mod24 (mod24 (inverseReduction s ht vt ox oy).v + s.station.n.index + (tiltPair s).1 + oy) = vt := by
    unfold mod24
    rw [raw]
    omega
  have hBack : ∀ c : Int,
      mod24 (mod24 (mod24 (mod24 (ht - s.station.n.orient - c))) + c + s.station.n.orient) = ht := by
    intro c
    unfold mod24
    omega
  simp only [forwardReduction, plain, add_zero, vBack]
  simp only [inverseReduction, plain, sub_zero, hBack]

/-- Settles O44: the two reductions by their terms, and each of them undone by the other. -/
theorem reductionsInvertEachOther : Obligations.ReductionsInvertEachOther := by
  refine ⟨?back, ?window, ?atRow, ?between, ?forward, ?inverse, ?lookup⟩
  case back =>
    intro s ht vt ox oy htLow htHigh vtLow vtHigh plain free _ _ _
    exact forwardReduction_inverseReduction ⟨htLow, htHigh⟩ ⟨vtLow, vtHigh⟩ plain free
  case window =>
    intro s ht vt ox oy window
    have mod : ∀ x : Int, 0 ≤ mod24 x ∧ mod24 x < 16777216 := fun x => by
      unfold mod24
      omega
    rw [inverseReduction_v window]
    exact ⟨le_max_left _ _, max_le window (min_le_right _ _), mod _⟩
  case atRow =>
    intro rows k x inside row
    have found := factorAt_row rows inside le_rfl (by decide : (0 : Int) < 262144)
    rw [add_zero, factorBetween_zero, factorBetween_zero, zenithRow_eq row] at found
    exact found
  case between =>
    intro rows k x y r inside rowX rowY low high le
    rw [factorAt_row rows inside low high, zenithRow_eq rowX, zenithRow_eq rowY]
    exact factorBetween_mem low high le
  case forward =>
    intro s rH rV dx dy
    simp only [forwardReduction, tiltPair_eq]
    rfl
  case inverse =>
    intro s ht vt ox oy σ tl tc gV pV f corr gH sp window
    have pair : tiltPair s = (tl, tc) := tiltPair_eq s
    have free : s.freeV vt oy = pV := by
      unfold State.freeV
      rw [pair]
      rfl
    rw [inverseReduction_limited window, inverseReduction_v window, free]
    refine ⟨?_, rfl, Iff.rfl⟩
    simp only [sp, inverseReduction, pair]
    rfl
  case lookup =>
    intro rows z row k r mid
    exact ⟨factorAt_inside rows, factorAt_below rows, factorAt_above rows⟩

end Sys2Proof.Machine
end

section
/-! SUPPORT. LOAD ZENITH and LOAD STATION taken at their arrival: the range check, the window, the lowering of miss_limit and the
SQU limits (R6, R7, R9, R38, R97, R111, R132). The statements LoadZenithWritesTheNamedRows, LoadStationRefusals and
LoadStationReplacesTheBlock. -/

namespace Sys2Proof.Machine

open Sys2Proof

/-! ### A load that is taken at its arrival -/

theorem State.frameAt_locked (s : State) (us : Nat) : (s.frameAt us).locked = decide (s.dvc.state = .lockout) := by
  simp [State.locked]

/-- LOAD ZENITH taken at its arrival, by what the rule makes of it (R174, R176). -/
theorem exec_loadZenith {s : State} {h : Hdr} {first last : Nat} {rows : List ZRow} {x : Answered} (takes : s.takesRequests)
    (answer : (s.frameAt h.us).takeLoadZenith first last rows = x) :
    exec (.loadZenith h first last rows) s = .next (x.state.replied h.tag x.code x.body) := by
  subst answer
  exact congrArg _ (s.submit_takes h.us _ takes)

/-- LOAD STATION taken at its arrival, by what the rule makes of it (R174, R176). -/
theorem exec_loadStation {s : State} {h : Hdr} {l : StationLoad} {x : Answered} (takes : s.takesRequests)
    (answer : (s.frameAt h.us).takeLoadStation l = x) :
    exec (.loadStation h l) s = .next (x.state.replied h.tag x.code x.body) := by
  subst answer
  exact congrArg _ (s.submit_takes h.us _ takes)

/-! ### LOAD ZENITH (R9) -/

theorem writeRows_at (k : Nat) (rows table : List ZRow) (j : Nat) :
    (writeRows k rows table)[j]? =
      if k ≤ j ∧ j < k + rows.length ∧ j < table.length then rows[j - k]? else table[j]? := by
  induction rows generalizing k table with
  | nil =>
    rw [if_neg]
    · rfl
    · simp only [List.length_nil]
      omega
  | cons r rows ih =>
    simp only [writeRows, ih, List.length_set, List.length_cons, List.getElem?_set]
    rcases Nat.lt_trichotomy j k with below | rfl | above
    · rw [if_neg (by omega), if_neg (by omega), if_neg (by omega)]
    · rw [if_neg (by omega), if_pos rfl]
      by_cases inside : j < table.length
      · rw [if_pos inside, if_pos (by omega), Nat.sub_self, List.getElem?_cons_zero]
      · rw [if_neg inside, if_neg (by omega), List.getElem?_eq_none (by omega)]
    · have next : j - k = j - (k + 1) + 1 := by omega
      rw [if_neg (by omega : k ≠ j), next, List.getElem?_cons_succ]
      exact if_congr (by omega) rfl rfl

/-- LOAD ZENITH outside LOCKOUT: the test of R9, and the rows written. -/
theorem State.takeLoadZenith_unlocked {s : State} (unlocked : s.locked = false) (first last : Nat) (rows : List ZRow) :
    s.takeLoadZenith first last rows =
      if last < first ∨ 32 < last ∨ rows.length + first ≠ last + 1 then s.refuse .range
      else State.answerDone { s with aru := { s.aru with zenith := writeRows first rows s.aru.zenith } } := by
  have test : (last < first ∨ 32 < last ∨ rows.length ≠ last - first + 1)
      ↔ (last < first ∨ 32 < last ∨ rows.length + first ≠ last + 1) := by omega
  simp only [State.takeLoadZenith, unlocked, Bool.false_eq_true, if_false, test]

/-- Settles O18: the three outcomes of the test of R9, and the rows by induction on those carried. -/
theorem loadZenithWritesTheNamedRows : Obligations.LoadZenithWritesTheNamedRows := by
  intro s h first last rows takes
  refine ⟨fun lockout => ?_, fun free outside => ?_, fun free ordered top count => ?_⟩
  · refine exec_loadZenith takes (x := (s.frameAt h.us).refuse .lockout) ?_
    rw [State.takeLoadZenith, State.frameAt_locked, decide_eq_true lockout, if_pos rfl]
  · have unlocked := (s.frameAt_locked h.us).trans (decide_eq_false free)
    exact exec_loadZenith takes ((State.takeLoadZenith_unlocked unlocked ..).trans (if_pos outside))
  · have unlocked := (s.frameAt_locked h.us).trans (decide_eq_false free)
    refine ⟨writeRows first rows s.aru.zenith, fun k => ?_, ?_⟩
    · rw [writeRows_at]
      exact if_congr (by omega) rfl rfl
    · have done := exec_loadZenith takes ((State.takeLoadZenith_unlocked unlocked first last rows).trans (if_neg (by omega)))
      rw [State.frameAt_aru] at done
      exact done

/-! ### The block that a LOAD STATION carries (R6, R7) -/

theorem boolOfCode_eq (c : Nat) : boolOfCode c = if 1 < c then none else some (decide (c = 1)) := by
  match c with
  | 0 => rfl
  | 1 => rfl
  | c + 2 => exact (if_pos (by omega)).symm

/-- An on/off byte, a number or a cross-condition of the load is out of its range (R6, R7). -/
def OutsideStation (l : StationLoad) : Prop :=
  1 < l.compEnable ∨ 1 < l.criticalEnable ∨ l.n.vMax ≤ l.n.vMin ∨ l.n.backoffCap < l.n.backoffBase
    ∨ l.n.vmaxH < 1 ∨ 16383 < l.n.vmaxH ∨ l.n.vmaxV < 1 ∨ 16383 < l.n.vmaxV ∨ l.n.accH < 1 ∨ 1023 < l.n.accH
    ∨ l.n.accV < 1 ∨ 1023 < l.n.accV ∨ l.n.vMin < 262144 ∨ 8126464 < l.n.vMax ∨ l.n.settleWin < 0
    ∨ 65535 < l.n.settleWin ∨ l.n.settleN < 1 ∨ 255 < l.n.settleN ∨ l.n.settleTimeout < 1
    ∨ 5000 < l.n.settleTimeout ∨ l.n.acqFrames < 1 ∨ 8 < l.n.acqFrames ∨ l.n.lockN < 1 ∨ 8 < l.n.lockN
    ∨ l.n.lockTol < 0 ∨ 65535 < l.n.lockTol ∨ l.n.lossN < 1 ∨ 16 < l.n.lossN ∨ l.n.aimTol < 0
    ∨ 65535 < l.n.aimTol ∨ l.n.centreLimit < 1 ∨ 64 < l.n.centreLimit ∨ l.n.ambig < 0 ∨ 65535 < l.n.ambig
    ∨ l.n.ambigLimit < 1 ∨ 32 < l.n.ambigLimit ∨ l.n.searchLegs < 1 ∨ 24 < l.n.searchLegs
    ∨ l.n.spotSilence < 1 ∨ 2000 < l.n.spotSilence ∨ l.n.rangeTimeout < 1 ∨ 5000 < l.n.rangeTimeout
    ∨ 3 < l.n.shotRetry ∨ l.n.angleSilenceExp < 10 ∨ 17 < l.n.angleSilenceExp ∨ l.n.tiltLimit < 0
    ∨ 8191 < l.n.tiltLimit ∨ l.n.tiltStale < 20 ∨ 1000 < l.n.tiltStale ∨ l.n.levelN < 1 ∨ 255 < l.n.levelN
    ∨ l.n.levelOkN < 1 ∨ 255 < l.n.levelOkN ∨ l.n.coll < -32767 ∨ 32767 < l.n.coll ∨ l.n.trun < -32767
    ∨ 32767 < l.n.trun ∨ l.n.index < -65535 ∨ 65535 < l.n.index ∨ l.n.orient < 0 ∨ 16777215 < l.n.orient
    ∨ l.n.missLimit < 1 ∨ 15 < l.n.missLimit ∨ l.n.backoffBase < 1 ∨ 65535 < l.n.backoffBase
    ∨ 3600000 < l.n.backoffCap ∨ l.n.controlTol < 0 ∨ 65535 < l.n.controlTol ∨ 999 < l.n.feedDiv
    ∨ l.n.trackInterval < 1 ∨ 5000 < l.n.trackInterval ∨ l.n.jogLease < 1 ∨ 2000 < l.n.jogLease

theorem not_outsideStation_iff (l : StationLoad) :
    ¬OutsideStation l ↔ ¬1 < l.compEnable ∧ ¬1 < l.criticalEnable ∧ stationInRange l.n = true := by
  simp only [OutsideStation, stationInRange, natIn, intIn, Bool.and_eq_true, decide_eq_true_eq]
  omega

/-- A load in range carries the numbers it names and its two bytes, 1 for on. -/
theorem stationOfLoad_inside {l : StationLoad} (inside : ¬OutsideStation l) :
    stationOfLoad l =
      some { n := l.n, compEnable := decide (l.compEnable = 1), criticalEnable := decide (l.criticalEnable = 1) } := by
  obtain ⟨comp, critical, numbers⟩ := (not_outsideStation_iff l).mp inside
  simp only [stationOfLoad, boolOfCode_eq, if_neg comp, if_neg critical, if_pos numbers]

/-- A load out of range carries no block. -/
theorem stationOfLoad_outside {l : StationLoad} (outside : OutsideStation l) : stationOfLoad l = none := by
  simp only [stationOfLoad, boolOfCode_eq]
  by_cases comp : 1 < l.compEnable
  · rw [if_pos comp]
  · by_cases critical : 1 < l.criticalEnable
    · rw [if_neg comp, if_pos critical]
    · rw [if_neg comp, if_neg critical]
      exact if_neg fun numbers => (not_outsideStation_iff l).mpr ⟨comp, critical, numbers⟩ outside

/-! ### The V positions in use (R97) -/

theorem leavesWindow_iff (old new : StationNumbers) (x : Int) :
    leavesWindow old new x = true ↔ old.vMin ≤ x ∧ x ≤ old.vMax ∧ (x < new.vMin ∨ new.vMax < x) := by
  simp only [leavesWindow, intIn, Bool.and_eq_true, Bool.not_eq_true', decide_eq_true_eq, decide_eq_false_iff_not]
  omega

/-- What R97 guards: the position, the setpoint of a move, the stop point and the setpoint of a stop, a setpoint that waits. -/
theorem AxisRec.mem_guarded (r : AxisRec) (x : Int) :
    x ∈ r.guarded ↔
      r.p = some x ∨ (r.motion = .moving ∧ r.setpoint = some x) ∨ (r.motion = .braking ∧ x = r.stopPoint .v)
        ∨ (r.motion = .braking ∧ r.setpoint = some x) ∨ ∃ w, r.motion = .held ∧ r.waiting = some w ∧ x = w.setpoint := by
  cases motion : r.motion <;> simp [AxisRec.guarded, motion, eq_comm]

/-- Some V position in use leaves the window, or tilt_limit is lowered while the level is LOST (R97, R151). -/
def State.bars (s : State) (st : Station) : Prop :=
  let leaves := fun (x : Int) =>
    s.station.n.vMin ≤ x ∧ x ≤ s.station.n.vMax ∧ (x < st.n.vMin ∨ st.n.vMax < x)
  let v := s.axis .v
  (∃ x, v.p = some x ∧ leaves x) ∨ (∃ x, v.motion = .moving ∧ v.setpoint = some x ∧ leaves x)
    ∨ (v.motion = .braking ∧ leaves (v.stopPoint .v)) ∨ (∃ x, v.motion = .braking ∧ v.setpoint = some x ∧ leaves x)
    ∨ (∃ w, v.motion = .held ∧ v.waiting = some w ∧ leaves w.setpoint)
    ∨ (s.dvc.level = .lost ∧ st.n.tiltLimit < s.station.n.tiltLimit)

theorem State.bars_iff (s : State) (st : Station) :
    s.bars st ↔
      (s.axis .v).guarded.any (leavesWindow s.station.n st.n) = true
        ∨ (s.dvc.level = .lost ∧ st.n.tiltLimit < s.station.n.tiltLimit) := by
  simp only [State.bars, List.any_eq_true, AxisRec.mem_guarded, leavesWindow_iff]
  constructor
  · rintro (⟨x, at_, leaves⟩ | ⟨x, moves, at_, leaves⟩ | ⟨stops, leaves⟩ | ⟨x, stops, at_, leaves⟩ |
      ⟨w, held, at_, leaves⟩ | lowered)
    · exact .inl ⟨x, .inl at_, leaves⟩
    · exact .inl ⟨x, .inr (.inl ⟨moves, at_⟩), leaves⟩
    · exact .inl ⟨_, .inr (.inr (.inl ⟨stops, rfl⟩)), leaves⟩
    · exact .inl ⟨x, .inr (.inr (.inr (.inl ⟨stops, at_⟩))), leaves⟩
    · exact .inl ⟨_, .inr (.inr (.inr (.inr ⟨w, held, at_, rfl⟩))), leaves⟩
    · exact .inr lowered
  · rintro (⟨x, at_ | ⟨moves, at_⟩ | ⟨stops, rfl⟩ | ⟨stops, at_⟩ | ⟨w, held, at_, rfl⟩, leaves⟩ | lowered)
    · exact .inl ⟨x, at_, leaves⟩
    · exact .inr (.inl ⟨x, moves, at_, leaves⟩)
    · exact .inr (.inr (.inl ⟨stops, leaves⟩))
    · exact .inr (.inr (.inr (.inl ⟨x, stops, at_, leaves⟩)))
    · exact .inr (.inr (.inr (.inr (.inl ⟨w, held, at_, leaves⟩))))
    · exact .inr (.inr (.inr (.inr (.inr lowered))))

theorem State.frameAt_bars (s : State) (us : Nat) (st : Station) : (s.frameAt us).bars st ↔ s.bars st := by
  simp only [State.bars, State.axis, State.frameAt_apg, State.frameAt_station, State.frameAt_dvc]

theorem State.takeLoadStation_barred {s : State} (unlocked : s.locked = false) {l : StationLoad} {st : Station}
    (carried : stationOfLoad l = some st) (barred : s.bars st) : s.takeLoadStation l = s.refuse .state := by
  simp only [State.takeLoadStation, unlocked, carried, Bool.false_eq_true, if_false]
  obtain leaves | lowered := (s.bars_iff st).mp barred
  · exact if_pos leaves
  · rw [if_pos lowered, ite_self]

/-- Settles O23: the refusals of LOAD STATION in the order of its rule. -/
theorem loadStationRefusals : Obligations.LoadStationRefusals := by
  refine ⟨fun s h l takes => ⟨fun lockout => ?_, fun free outside => ?_⟩, fun s h l st takes free carried barred => ?_⟩
  · refine exec_loadStation takes (x := (s.frameAt h.us).refuse .lockout) ?_
    rw [State.takeLoadStation, State.frameAt_locked, decide_eq_true lockout, if_pos rfl]
  · refine exec_loadStation takes (x := (s.frameAt h.us).refuse .range) ?_
    rw [State.takeLoadStation, State.frameAt_locked, decide_eq_false free, stationOfLoad_outside outside]
    rfl
  · have unlocked := (s.frameAt_locked h.us).trans (decide_eq_false free)
    exact exec_loadStation takes (State.takeLoadStation_barred unlocked carried ((s.frameAt_bars h.us st).mpr barred))

/-! ### The lowering of miss_limit (R38) -/

/-- A new miss_limit speaks of entry `n`: its misses stand at or above it, and it is neither ACTIVE nor engaged. -/
def State.judged (s : State) (limit n : Nat) (e : Entry) : Bool :=
  decide (limit ≤ e.misses) && decide (e.state ≠ .active) && !s.engaged n

/-- An entry that waits for its turn: ARMED, DUE or BACKOFF. -/
def Entry.waits (e : Entry) : Bool := decide (e.state = .armed ∨ e.state = .due ∨ e.state = .backoff)

/-- What a new miss_limit makes of entry `n`. -/
def State.lowered (s : State) (limit n : Nat) (e : Entry) : Entry :=
  if s.judged limit n e = true ∧ e.waits = true then { e with state := .suspended, misses := limit, retry := none }
  else if s.judged limit n e = true ∧ e.state = .suspended then { e with misses := limit }
  else e

/-- The numbers that a new miss_limit suspends, in ascending order. -/
def State.setAside (s : State) (limit : Nat) : List Nat :=
  (List.range s.entries.length).filter fun n => s.judged limit n (s.entry n) && (s.entry n).waits

theorem Entry.lowerLimit_eq (s : State) (limit n : Nat) (e : Entry) :
    e.lowerLimit limit (decide (e.state = .active) || s.engaged n) =
      { entry := s.lowered limit n e, handed := false, suspended := s.judged limit n e && e.waits } := by
  have test : (decide (e.state = .active) || s.engaged n || decide (e.misses < limit)) = !s.judged limit n e := by
    simp only [State.judged, ← Nat.not_lt, decide_not, ne_eq]
    cases decide (e.state = .active) <;> cases s.engaged n <;> cases decide (e.misses < limit) <;> rfl
  simp only [Entry.lowerLimit, test, State.lowered]
  cases s.judged limit n e
  · simp
  · cases state : e.state <;> simp [Entry.waits, Entry.suspendAt, state]

theorem lowerEntries_eq (limit : Nat) (engaged : Nat → Bool) (n : Nat) (es : List Entry) :
    let move := fun i =>
      (es.getD i emptyEntry).lowerLimit limit (decide ((es.getD i emptyEntry).state = .active) || engaged (n + i))
    lowerEntries limit engaged n es =
      ((List.range es.length).map fun i => (move i).entry,
        ((List.range es.length).filter fun i => (move i).suspended).map (n + ·)) := by
  induction es generalizing n with
  | nil => rfl
  | cons e es ih =>
    have next : ∀ i, n + 1 + i = n + (i + 1) := by omega
    simp only [lowerEntries, ih, next, List.length_cons, List.range_succ_eq_map, List.map_cons, List.map_map,
      List.filter_cons, List.filter_map, Function.comp_def, List.getD_cons_zero, List.getD_cons_succ, Nat.add_zero,
      Nat.succ_eq_add_one]
    split <;> simp [Function.comp_def]

/-- Every entry is judged by itself; the numbers set aside leave the due queue, with a notice each (R38). -/
theorem State.lowerMissLimit_eq (s : State) (limit : Nat) :
    s.lowerMissLimit limit =
      { s with
        entries := (List.range s.entries.length).map fun n => s.lowered limit n (s.entry n)
        osc := { s.osc with queue := s.osc.queue.filter fun x => !decide (x.target ∈ s.setAside limit) }
        notices := (s.setAside limit).foldl (fun m n => m.raise .suspended (some n)) s.notices } := by
  have move : ∀ i, (s.entries.getD i emptyEntry).lowerLimit limit
      (decide ((s.entries.getD i emptyEntry).state = .active) || s.engaged i)
        = { entry := s.lowered limit i (s.entry i), handed := false,
            suspended := s.judged limit i (s.entry i) && (s.entry i).waits } :=
    fun i => Entry.lowerLimit_eq s limit i (s.entry i)
  simp only [State.lowerMissLimit, lowerEntries_eq, State.raiseEach_eq, Nat.zero_add, List.map_id', move, State.setAside]
  rfl

theorem State.entry_of_getElem? {s : State} {n : Nat} {e : Entry} (h : s.entries[n]? = some e) : s.entry n = e := by
  simp [State.entry, List.getD_eq_getElem?_getD, h]

theorem State.mem_setAside (s : State) (limit n : Nat) :
    n ∈ s.setAside limit ↔ ∃ e, s.entries[n]? = some e ∧ s.judged limit n e = true ∧ e.waits = true := by
  simp only [State.setAside, List.mem_filter, List.mem_range, Bool.and_eq_true]
  constructor
  · rintro ⟨inside, judged, waits⟩
    have at_ := List.getElem?_eq_getElem inside
    rw [State.entry_of_getElem? at_] at judged waits
    exact ⟨_, at_, judged, waits⟩
  · rintro ⟨e, at_, judged, waits⟩
    rw [State.entry_of_getElem? at_]
    exact ⟨(List.getElem?_eq_some_iff.mp at_).1, judged, waits⟩

/-! ### What an accepted load replaces (R6, R111, R132) -/

/-- The block, SQU's counters and the feed count after an accepted load, before its miss_limit is applied. -/
def State.stationed (s : State) (st : Station) : State :=
  { s with
    station := st
    squ := if s.busy then s.squ.underLimits st.n else s.squ
    reports :=
      { s.reports with feedCount := if st.n.feedDiv = s.station.n.feedDiv then s.reports.feedCount else 0 } }

theorem State.takeLoadStation_accepted {s : State} (unlocked : s.locked = false) {l : StationLoad} {st : Station}
    (carried : stationOfLoad l = some st) (clear : ¬s.bars st) :
    s.takeLoadStation l = State.answerDone ((s.stationed st).lowerMissLimit st.n.missLimit) := by
  rw [State.bars_iff, not_or] at clear
  obtain ⟨stays, notLowered⟩ := clear
  simp only [State.takeLoadStation, unlocked, carried, Bool.false_eq_true, if_false]
  rw [if_neg stays, if_neg notLowered]
  rfl

theorem underLimit_eq {limit : Nat} (h : 0 < limit) (count : Nat) : underLimit count limit = min count (limit - 1) := by
  unfold underLimit
  split <;> omega

/-- The passing of time moves the last chosen candidate of SQU and nothing else of it (R175). -/
theorem State.frameAt_squ (s : State) (us : Nat) : (s.frameAt us).squ = { s.squ with last := (s.frameAt us).squ.last } := by
  have moved : ∀ d, (s.advanceBy d).squ = { s.squ with last := (s.advanceBy d).squ.last } := by
    intro d
    unfold State.advanceBy
    dsimp only
    split <;> rfl
  unfold State.frameAt State.huntController State.advanceTo
  split
  · rfl
  · exact moved _

theorem State.stcUpdate_engaged (s : State) (c : Prop) [Decidable c] (x y : Stc) (δ : Int) (n : Nat) :
    (if c then { s with stc := x } else State.moveTimes { s with stc := y } δ).engaged n = s.engaged n := by
  split
  · rfl
  · exact State.engaged_moveTimes _ _ n

theorem State.frameAt_engaged (s : State) (us n : Nat) : (s.frameAt us).engaged n = s.engaged n := by
  unfold State.frameAt State.advanceTo
  split
  · rfl
  · exact s.stcUpdate_engaged _ _ _ _ n

theorem State.judged_congr {s t : State} (engaged : ∀ n, t.engaged n = s.engaged n) : t.judged = s.judged := by
  funext limit n e
  rw [State.judged, State.judged, engaged]

theorem State.lowered_congr {s t : State} (engaged : ∀ n, t.engaged n = s.engaged n) : t.lowered = s.lowered := by
  unfold State.lowered
  rw [State.judged_congr engaged]

theorem State.setAside_congr {s t : State} (entries : t.entries = s.entries) (engaged : ∀ n, t.engaged n = s.engaged n) :
    t.setAside = s.setAside := by
  unfold State.setAside State.entry
  rw [State.judged_congr engaged, entries]

/-- All that an accepted load changes, at the arrival of its frame. -/
theorem State.stationed_lowered (s : State) (us : Nat) (st : Station) (limit : Nat) :
    ((s.frameAt us).stationed st).lowerMissLimit limit =
      { s.frameAt us with
        station := st
        entries := (List.range s.entries.length).map fun n => s.lowered limit n (s.entry n)
        osc := { s.osc with queue := s.osc.queue.filter fun x => !decide (x.target ∈ s.setAside limit) }
        notices := (s.setAside limit).foldl (fun m n => m.raise .suspended (some n)) s.notices
        squ := if s.busy then (s.frameAt us).squ.underLimits st.n else (s.frameAt us).squ
        reports :=
          { s.reports with feedCount := if st.n.feedDiv = s.station.n.feedDiv then s.reports.feedCount else 0 } } := by
  have entries : ((s.frameAt us).stationed st).entries = s.entries := s.frameAt_entries us
  have engaged : ∀ n, ((s.frameAt us).stationed st).engaged n = s.engaged n := s.frameAt_engaged us
  have entry : ∀ n, ((s.frameAt us).stationed st).entry n = s.entry n := fun n => by rw [State.entry, State.entry, entries]
  rw [State.lowerMissLimit_eq, State.lowered_congr engaged, State.setAside_congr entries engaged, entries]
  simp only [entry]
  simp only [State.stationed, State.frameAt_osc, State.frameAt_notices, State.frameAt_busy, State.frameAt_station,
    State.frameAt_reports]

/-- Settles O24: the block carried, and the effects of its acceptance field by field. -/
theorem loadStationReplacesTheBlock : Obligations.LoadStationReplacesTheBlock := by
  refine ⟨fun l => ⟨stationOfLoad_inside, stationOfLoad_outside⟩, fun s h l st takes free carried => ?_⟩
  intro leaves v clear limit judged waits
  have unlocked := (s.frameAt_locked h.us).trans (decide_eq_false free)
  have done := exec_loadStation takes
    (State.takeLoadStation_accepted unlocked carried (mt (s.frameAt_bars h.us st).mp clear))
  rw [State.stationed_lowered] at done
  refine ⟨_, _, _, _, done, ?length, ?entries, ?queue, ?idle, ?busy, rfl⟩
  case length => rw [List.length_map, List.length_range]
  case entries =>
    intro n e at_
    have inside := (List.getElem?_eq_some_iff.mp at_).1
    rw [List.getElem?_map, List.getElem?_range inside, Option.map_some, State.entry_of_getElem? at_]
    rfl
  case queue =>
    intro x
    rw [List.mem_filter, Bool.not_eq_true', decide_eq_false_iff_not, State.mem_setAside]
    rfl
  case idle =>
    intro idle
    rw [idle]
    rfl
  case busy =>
    intro busy acquire lock loss ambiguity centre
    rw [busy, if_pos rfl, s.frameAt_squ h.us]
    exact ⟨underLimit_eq acquire _, underLimit_eq lock _, underLimit_eq loss _, underLimit_eq ambiguity _,
      underLimit_eq centre _, rfl, rfl⟩

end Sys2Proof.Machine
end

section
/-! SUPPORT. A report at SDU and the end of the event that brings it may change places: nothing that follows an event reads SDU's
state, and DERATE is a notice of its own (R143 to R145, R177). -/

namespace Sys2Proof.Machine

open Sys2Proof

/-! ### Two notices of different kinds -/

theorem any_pending_set {l : List NoticeRecord} (h : l.any (·.pending) = true) {r : NoticeRecord} (pending : r.pending = true)
    (i : Nat) : (l.set i r).any (·.pending) = true := by
  induction l generalizing i with
  | nil => exact h
  | cons y ys ih =>
    cases i with
    | zero => simp [pending]
    | succ i =>
      simp only [List.any_cons, Bool.or_eq_true] at h
      simp only [List.set_cons_succ, List.any_cons, Bool.or_eq_true]
      exact h.imp id (ih · i)

/-- A second notice of an event leaves the alert slot as the first has left it (R177). -/
theorem Notices.raise_alert (n : Notices) (k l : NoticeKind) (x y : Option Nat) :
    ((n.raise k x).raise l y).alertWaits = (n.raise k x).alertWaits := by
  cases any : n.records.any (·.pending) with
  | true => simp [Notices.raise, any, any_pending_set any]
  | false => simp [Notices.raise, any]

theorem Notices.raise_comm (n : Notices) {k l : NoticeKind} (other : k.place ≠ l.place) (x y : Option Nat) :
    (n.raise k x).raise l y = (n.raise l y).raise k x := by
  have records : ((n.raise k x).raise l y).records = ((n.raise l y).raise k x).records := by
    simp only [Notices.raise, Notices.record, List.getD_eq_getElem?_getD, List.getElem?_set_ne other,
      List.getElem?_set_ne other.symm]
    exact List.set_comm _ _ other
  have alert : ((n.raise k x).raise l y).alertWaits = ((n.raise l y).raise k x).alertWaits := by
    rw [Notices.raise_alert, Notices.raise_alert]
    rfl
  cases h : (n.raise k x).raise l y
  cases h' : (n.raise l y).raise k x
  simp_all

/-! ### A report at SDU -/

/-- SDU's state replaced, with a DERATE notice where the selected fraction has changed. -/
def State.sensed (s : State) (x : Sdu) (changed : Bool) : State :=
  { s with sdu := x, notices := if changed then s.notices.raise .derate none else s.notices }

section
variable (s : State) (x : Sdu) (c : Bool)

theorem State.sensed_same : s.sensed s.sdu false = s := rfl

@[simp] theorem State.sensed_setPointing (p : Option Pointing) :
    (s.sensed x c).setPointing p = (s.setPointing p).sensed x c := rfl

@[simp] theorem State.sensed_setAxis (a : Axis) (r : AxisRec) : (s.sensed x c).setAxis a r = (s.setAxis a r).sensed x c := rfl

@[simp] theorem State.sensed_setSettle (y : Option SettleTest) :
    (s.sensed x c).setSettle y = (s.setSettle y).sensed x c := rfl

@[simp] theorem State.sensed_setEntry (n : Nat) (e : Entry) : (s.sensed x c).setEntry n e = (s.setEntry n e).sensed x c := rfl

@[simp] theorem State.sensed_setOsc (o : Osc) : (s.sensed x c).setOsc o = (s.setOsc o).sensed x c := rfl

@[simp] theorem State.sensed_setDvc (d : Dvc) : (s.sensed x c).setDvc d = (s.setDvc d).sensed x c := rfl

@[simp] theorem State.sensed_setJog (j : Jog) : (s.sensed x c).setJog j = (s.setJog j).sensed x c := rfl

@[simp] theorem State.sensed_setSource (a : Axis) (y : Source) :
    (s.sensed x c).setSource a y = (s.setSource a y).sensed x c := rfl

@[simp] theorem State.sensed_stopAxis (a : Axis) (q : Requester) :
    (s.sensed x c).stopAxis a q = (s.stopAxis a q).sensed x c := rfl

@[simp] theorem State.sensed_releaseSlot : (s.sensed x c).releaseSlot = s.releaseSlot.sensed x c := rfl

@[simp] theorem State.sensed_enterRun : (s.sensed x c).enterRun = s.enterRun.sensed x c := rfl

theorem State.sensed_raise {k : NoticeKind} (other : k ≠ .derate) (n : Option Nat) :
    (s.sensed x c).raise k n = (s.raise k n).sensed x c := by
  have place : k.place ≠ NoticeKind.derate.place := by
    cases k
    case derate => exact absurd rfl other
    all_goals decide
  cases c
  · rfl
  · simp only [State.sensed, State.raise, if_true, Notices.raise_comm _ place]

/-! ### What follows an event -/

@[simp] theorem State.sensed_pointingArrival (a : Axis) :
    (s.sensed x c).pointingArrival a = (s.pointingArrival a).sensed x c := by
  simp only [State.pointingArrival, show (s.sensed x c).pen = s.pen from rfl]
  repeat' split
  all_goals rfl

@[simp] theorem State.sensed_reportArrival (a : Axis) (q : Requester) :
    (s.sensed x c).reportArrival a q = (s.reportArrival a q).sensed x c := by
  unfold State.reportArrival
  split <;> simp

@[simp] theorem State.sensed_retarget (a : Axis) (sp : Int) (q : Requester) :
    (s.sensed x c).retarget a sp q = (s.retarget a sp q).sensed x c := by
  simp only [State.retarget, show (s.sensed x c).axis = s.axis from rfl, State.sensed_setAxis, State.sensed_setSettle]
  split <;> simp

@[simp] theorem State.sensed_holdAxis (a : Axis) : (s.sensed x c).holdAxis a = (s.holdAxis a).sensed x c := by
  simp only [State.holdAxis, show (s.sensed x c).axis = s.axis from rfl,
    show (s.sensed x c).transmit = s.transmit from rfl]
  repeat' split
  all_goals rfl

theorem State.sensed_chooseAxis (a : Axis) :
    (s.sensed x c).chooseAxis false a = (s.chooseAxis false a).sensed x c := by
  simp only [State.chooseAxis, show (s.sensed x c).wantedSource = s.wantedSource from rfl,
    show (s.sensed x c).dsl = s.dsl from rfl]
  repeat' split
  all_goals simp at *

@[simp] theorem State.sensed_choose : (s.sensed x c).choose = s.choose.sensed x c := by
  rw [State.choose, State.choose, State.sensed_chooseAxis, State.sensed_chooseAxis]

@[simp] theorem State.sensed_jogTest : (s.sensed x c).jogTest = s.jogTest.sensed x c := by
  simp only [State.jogTest, show (s.sensed x c).dsl = s.dsl from rfl, show (s.sensed x c).axis = s.axis from rfl]
  repeat' split
  all_goals simp

@[simp] theorem State.sensed_enqueue (ns : List Nat) : (s.sensed x c).enqueue ns = (s.enqueue ns).sensed x c := by
  simp only [State.enqueue, show (s.sensed x c).osc = s.osc from rfl, show (s.sensed x c).entry = s.entry from rfl]
  repeat' split
  all_goals rfl

theorem State.sensed_raiseMaybe (o : Verdict) (n : Option Nat) :
    (s.sensed x c).raiseMaybe o.notice n = (s.raiseMaybe o.notice n).sensed x c := by
  have other : ∀ k, o.notice = some k → k ≠ .derate := by cases o <;> simp [Verdict.notice]
  cases notice : o.notice with
  | none => rfl
  | some k => exact s.sensed_raise x c (other k notice) n

@[simp] theorem State.sensed_deliverOutcome (n : Nat) (kind : PointingKind) (o : Verdict) :
    (s.sensed x c).deliverOutcome n kind o = (s.deliverOutcome n kind o).sensed x c := by
  simp only [State.deliverOutcome, State.sensed_raiseMaybe, show (s.sensed x c).entry = s.entry from rfl,
    State.sensed_setEntry]
  have suspends : ∀ t : State, (t.sensed x c).raise .suspended (some n) = (t.raise .suspended (some n)).sensed x c :=
    fun t => t.sensed_raise x c (by decide) _
  simp only [show ∀ t : State, (t.sensed x c).station = t.station from fun _ => rfl, suspends]
  repeat' split
  all_goals simp

@[simp] theorem State.sensed_abandonTarget (y : Option (Nat × PointingKind)) :
    (s.sensed x c).abandonTarget y = (s.abandonTarget y).sensed x c := by
  rcases y with _ | ⟨n, k⟩
  · rfl
  · exact s.sensed_deliverOutcome x c n k _

@[simp] theorem State.sensed_pointAxes (p : Pointing) : (s.sensed x c).pointAxes p = (s.pointAxes p).sensed x c := by
  simp only [State.pointAxes, show ∀ ht vt ox oy, inverseReduction (s.sensed x c) ht vt ox oy = inverseReduction s ht vt ox oy
    from fun _ _ _ _ => rfl, State.sensed_setPointing, State.sensed_retarget]

@[simp] theorem State.sensed_launch (p : Pointing) : (s.sensed x c).launch p = (s.launch p).sensed x c :=
  State.sensed_pointAxes { s with squ := zeroSqu, pen := { s.pen with retriesClosed := false } } x c p

@[simp] theorem State.sensed_restartPointing (y : Context) :
    (s.sensed x c).restartPointing y = (s.restartPointing y).sensed x c := by
  unfold State.restartPointing
  split <;> simp

@[simp] theorem State.sensed_resumeHeld : (s.sensed x c).resumeHeld = s.resumeHeld.sensed x c := by
  simp only [State.resumeHeld, show (s.sensed x c).dvc = s.dvc from rfl, State.sensed_setDvc, State.sensed_enterRun]
  repeat' split
  all_goals simp

@[simp] theorem State.sensed_autoResumeTest : (s.sensed x c).autoResumeTest = s.autoResumeTest.sensed x c := by
  simp only [State.autoResumeTest, show (s.sensed x c).dvc = s.dvc from rfl, show (s.sensed x c).scs = s.scs from rfl]
  split <;> simp

@[simp] theorem State.sensed_enterHeld (n : Option Nat) (part : Option PointingPart) (cause : Cause) :
    (s.sensed x c).enterHeld n part cause = (s.enterHeld n part cause).sensed x c := by
  simp only [State.enterHeld, show (s.sensed x c).dvc = s.dvc from rfl, show (s.sensed x c).stc = s.stc from rfl,
    State.sensed_setDvc, State.sensed_choose, State.sensed_autoResumeTest]

/-- The completion test of a stop that brings no warm values. -/
theorem State.sensed_stopTest {s : State} (h : s.stopComplete = true → s.dvc.cause ≠ .restart) (raised : Notices) :
    (s.sensed x c).stopTest raised = (s.stopTest raised).sensed x c := by
  simp only [State.stopTest, show (s.sensed x c).stopComplete = s.stopComplete from rfl,
    show (s.sensed x c).dvc = s.dvc from rfl, show (s.sensed x c).pen = s.pen from rfl]
  split
  · rename_i complete
    simp only [if_neg (h complete)]
    split <;> simp
  · rfl

@[simp] theorem State.sensed_dispatchHead : (s.sensed x c).dispatchHead = s.dispatchHead.sensed x c := by
  simp only [State.dispatchHead, show (s.sensed x c).osc = s.osc from rfl]
  split
  · rfl
  · simp only [State.beginPointing, State.sensed_setOsc, State.sensed_setEntry,
      show ∀ t : State, (t.sensed x c).entry = t.entry from fun _ => rfl, State.sensed_launch, State.sensed_choose]

@[simp] theorem State.sensed_examineDispatch : (s.sensed x c).examineDispatch = s.examineDispatch.sensed x c := by
  simp only [State.examineDispatch, show (s.sensed x c).dispatchReady = s.dispatchReady from rfl]
  split <;> simp

/-! ### A loss or a return of the level -/

@[simp] theorem State.sensed_withdrawShot : (s.sensed x c).withdrawShot = s.withdrawShot.sensed x c := by
  simp only [State.withdrawShot, show (s.sensed x c).shotInHand = s.shotInHand from rfl]
  split <;> rfl

@[simp] theorem State.sensed_freeze : (s.sensed x c).freeze = s.freeze.sensed x c := by
  simp only [State.freeze, show (s.sensed x c).pen = s.pen from rfl]
  split <;> rfl

@[simp] theorem State.sensed_enterStopping (cause : Cause) :
    (s.sensed x c).enterStopping cause = (s.enterStopping cause).sensed x c := by
  simp only [State.enterStopping, State.sensed_setJog, State.sensed_freeze, State.sensed_stopAxis,
    show ∀ t : State, (t.sensed x c).dvc = t.dvc from fun _ => rfl, State.sensed_setDvc]

@[simp] theorem State.sensed_divertLevelLoss : (s.sensed x c).divertLevelLoss = s.divertLevelLoss.sensed x c := by
  simp only [State.divertLevelLoss, show (s.sensed x c).dvc = s.dvc from rfl]
  repeat' split
  all_goals simp

theorem State.sensed_loseLevel : (s.sensed x c).loseLevel = s.loseLevel.sensed x c := by
  simp only [State.loseLevel, show (s.sensed x c).dvc = s.dvc from rfl, State.sensed_setDvc]
  rw [State.sensed_raise _ _ _ (by decide), State.sensed_divertLevelLoss]

theorem State.sensed_regainLevel : (s.sensed x c).regainLevel = s.regainLevel.sensed x c := by
  simp only [State.regainLevel, show (s.sensed x c).dvc = s.dvc from rfl, State.sensed_setDvc]
  rw [State.sensed_raise _ _ _ (by decide), State.sensed_autoResumeTest]

/-- An operation that changes places with a report at SDU leaves SDU's state as it is. -/
theorem State.sdu_of_sensed {f : State → State} (h : ∀ (t : State) y b, f (t.sensed y b) = (f t).sensed y b) :
    (f s).sdu = s.sdu := by
  have same := congrArg State.sdu (h s s.sdu false)
  rw [State.sensed_same] at same
  exact same

theorem State.loseLevel_sdu : s.loseLevel.sdu = s.sdu := s.sdu_of_sensed State.sensed_loseLevel

theorem State.regainLevel_sdu : s.regainLevel.sdu = s.sdu := s.sdu_of_sensed State.sensed_regainLevel

end

/-! ### The end of an event -/

section
variable {s : State} (x : Sdu) (c : Bool)

theorem State.jogTest_frame (s : State) : s.jogTest = { s with dsl := s.jogTest.dsl } := by
  unfold State.jogTest
  repeat' split
  all_goals rfl

theorem State.chooseAxis_frame (s : State) (a : Axis) :
    s.chooseAxis false a =
      { s with
        dsl := (s.chooseAxis false a).dsl, apg := (s.chooseAxis false a).apg, transmit := (s.chooseAxis false a).transmit } := by
  simp only [State.chooseAxis]
  repeat' split
  · rfl
  · obtain ⟨sent, held⟩ := s.holdAxis_eq a
    rw [held]
  · contradiction
  · rfl
  · rfl

theorem State.choose_frame (s : State) :
    s.choose = { s with dsl := s.choose.dsl, apg := s.choose.apg, transmit := s.choose.transmit } := by
  unfold State.choose
  rw [(s.chooseAxis false .h).chooseAxis_frame .v]
  generalize (s.chooseAxis false .h).chooseAxis false .v = t
  rw [s.chooseAxis_frame .h]

/-- Where nothing but the tests and the choice follows an event of the restart stop, it goes on (R161). -/
theorem State.wrapUp_restarting (going : s.restarting = true) (stop : s.jogTest.choose.stopComplete = false) :
    s.wrapUp = s.jogTest.choose.beginObs := by
  have state : s.jogTest.choose.dvc.state = .stopping := by
    rw [State.choose_frame, State.jogTest_frame]
    exact (of_decide_eq_true going).1
  have undispatched : s.jogTest.choose.dispatchReady = false := by simp [State.dispatchReady, state]
  simp [State.wrapUp, State.wrapUpWith, State.stopTest, stop, State.examineDispatch, undispatched, State.recordMayGo, going]

theorem State.sensed_beginObs (alert : (s.sensed x c).notices.alertWaits = s.notices.alertWaits) :
    (s.sensed x c).beginObs = s.beginObs.sensed x c := by
  have may : (s.sensed x c).mayBegin .obs = s.mayBegin .obs := by
    simp only [State.mayBegin, State.firstSource, alert]
    rfl
  simp only [State.beginObs, may, show (s.sensed x c).reports = s.reports from rfl]
  repeat' split
  all_goals rfl

/-- A report at SDU and the end of an event change places, where no restart stop completes (R143 to R145, R150). -/
theorem State.sensed_wrapUp (stop : s.restarting = true → s.jogTest.choose.stopComplete = false)
    (alert : s.restarting = true → (s.sensed x c).notices.alertWaits = s.notices.alertWaits) :
    (s.sensed x c).wrapUp = s.wrapUp.sensed x c := by
  cases going : s.restarting with
  | true =>
    have stays := stop going
    rw [State.wrapUp_restarting going stays, State.wrapUp_restarting (s := s.sensed x c) going
      (by rw [State.sensed_jogTest, State.sensed_choose]; exact stays), State.sensed_jogTest, State.sensed_choose]
    refine State.sensed_beginObs x c ?_
    rw [State.choose_frame, State.jogTest_frame]
    exact alert going
  | false =>
    have cause : s.jogTest.choose.stopComplete = true → s.jogTest.choose.dvc.cause ≠ .restart := by
      rw [State.choose_frame, State.jogTest_frame]
      intro complete restart
      simp only [State.stopComplete, Bool.and_eq_true, decide_eq_true_eq] at complete
      simp only [State.restarting, decide_eq_false_iff_not] at going
      exact going ⟨complete.1.1, restart⟩
    have same : (s.sensed x c).restarting = s.restarting := rfl
    simp only [State.wrapUp, State.wrapUpWith, State.recordMayGo, same, going, Bool.false_eq_true, if_false,
      State.sensed_jogTest, State.sensed_choose, State.sensed_stopTest x c cause, State.sensed_examineDispatch]

end

end Sys2Proof.Machine
end

section
/-! SUPPORT. A TILT frame: the sample at ARU, the level counts and what brings one to its limit, and the sources it feeds (R11 to R13,
R143 to R145, R151, R152). The statement TiltFramesAndStaleSources. -/

namespace Sys2Proof.Machine

open Sys2Proof

/-! ### The sources that a TILT frame feeds (R143 to R145) -/

/-- SDU after a TILT frame with this temperature, over the jitter that ARU holds. -/
def State.tiltSdu (s : State) (temp : Int) : Sdu :=
  { s.sdu with
    instrTemp := reported temp
    groups :=
      (s.sdu.groups.map fun g : DerateGroup => g.offer .instrTemp temp).map fun g : DerateGroup =>
        g.offer .tiltJitter s.aru.jitter }

/-- A TILT frame changes the selected fraction. -/
def State.tiltTells (s : State) (temp : Int) : Bool :=
  !sameFraction (selectedFraction s.sdu.groups) (selectedFraction (s.tiltSdu temp).groups)

theorem State.tiltSources_eq (s : State) (temp : Int) : s.tiltSources temp = s.sensed (s.tiltSdu temp) (s.tiltTells temp) := by
  simp only [State.tiltSources, State.noticeFraction, State.tiltTells]
  change (if sameFraction (selectedFraction s.sdu.groups) (selectedFraction (s.tiltSdu temp).groups) = true then _ else _) = _
  split
  · rename_i same
    rw [same]
    rfl
  · rename_i differs
    rw [Bool.eq_false_of_not_eq_true differs]
    rfl

/-! ### The level monitor (R151, R152) -/

section
variable {s : State}

/-- A sample beyond the limit while the state is LEVEL. -/
theorem State.levelSample_beyond (level : s.dvc.level = .level) :
    s.levelSample true =
      if s.station.n.levelN ≤ min (s.dvc.beyond + 1) 255 then s.loseLevel
      else s.setDvc { s.dvc with beyond := min (s.dvc.beyond + 1) 255 } := by
  simp only [State.levelSample, level]
  rfl

/-- A sample within the limit while the state is LOST. -/
theorem State.levelSample_within (level : s.dvc.level = .lost) :
    s.levelSample false =
      if s.station.n.levelOkN ≤ min (s.dvc.within + 1) 255 then s.regainLevel
      else s.setDvc { s.dvc with within := min (s.dvc.within + 1) 255 } := by
  simp only [State.levelSample, level]
  rfl

theorem State.levelSample_stays (level : s.dvc.level = .level) :
    s.levelSample false = s.setDvc { s.dvc with beyond := 0 } := by
  simp only [State.levelSample, level]

theorem State.levelSample_away (level : s.dvc.level = .lost) :
    s.levelSample true = s.setDvc { s.dvc with within := 0 } := by
  simp only [State.levelSample, level]

end

theorem State.levelSample_sdu (s : State) (beyond : Bool) : (s.levelSample beyond).sdu = s.sdu := by
  cases level : s.dvc.level <;> cases beyond
  · rw [State.levelSample_stays level]
    rfl
  · rw [State.levelSample_beyond level]
    split
    · exact s.loseLevel_sdu
    · rfl
  · rw [State.levelSample_within level]
    split
    · exact s.regainLevel_sdu
    · rfl
  · rw [State.levelSample_away level]
    rfl

/-- A TILT frame: the sample, the level monitor, and the sources on what it leaves. -/
theorem State.tiltArrives_eq {s v : State} {tl tc temp : Int} {overrange beyond : Bool}
    (sample : { s with aru := s.aru.tiltArrives tl tc overrange } = v)
    (tested : beyondLevel v.station.n.tiltLimit tl tc overrange = beyond) :
    s.tiltArrives tl tc overrange temp = ((v.levelSample beyond).sensed (v.tiltSdu temp) (v.tiltTells temp)).wrapUp := by
  subst sample tested
  have aru := congrArg Base.aru (State.levelSample_base { s with aru := s.aru.tiltArrives tl tc overrange }
    (beyondLevel s.station.n.tiltLimit tl tc overrange))
  have sdu := State.levelSample_sdu { s with aru := s.aru.tiltArrives tl tc overrange }
    (beyondLevel s.station.n.tiltLimit tl tc overrange)
  simp only [State.tiltArrives, State.tiltSources_eq, State.tiltTells, State.tiltSdu]
  rw [sdu, show State.aru _ = _ from aru]
  rfl

/-- The test of a sample against the level limit (R151). -/
theorem beyondLevel_iff (limit tl tc : Int) (overrange : Bool) :
    beyondLevel limit tl tc overrange = true ↔
      overrange = true ∨ tl < -limit ∨ limit < tl ∨ tc < -limit ∨ limit < tc := by
  simp only [beyondLevel, withinTol, Bool.or_eq_true, Bool.not_eq_true', decide_eq_false_iff_not, or_assoc]
  have outside : ∀ x : Int, ¬(-limit ≤ x ∧ x ≤ limit) ↔ x < -limit ∨ limit < x := fun x => by omega
  rw [outside, outside, or_assoc]

/-! ### A level limit in the restart stop (R151, R161) -/

theorem State.withdrawShot_frame (s : State) : ∃ pen, s.withdrawShot = { s with pen := pen } := by
  unfold State.withdrawShot
  split
  · exact ⟨_, rfl⟩
  · exact ⟨_, rfl⟩

theorem State.freeze_frame (s : State) : ∃ pen, s.freeze = { s with pen := pen } := by
  unfold State.freeze
  split
  · exact ⟨_, rfl⟩
  · exact ⟨_, rfl⟩

theorem State.enterStopping_frame (s : State) (cause : Cause) :
    ∃ pen apg, s.enterStopping cause =
      { s with
        pen := pen, apg := apg, dsl := { s.dsl with jog := .none },
        dvc := { s.dvc with state := .stopping, cause := cause, resumeMode := none } } := by
  have stops : ∀ t : State, ∃ pen apg,
      (t.freeze.stopAxis .h .diversion).stopAxis .v .diversion = { t with pen := pen, apg := apg } := by
    intro t
    obtain ⟨pen, frozen⟩ := t.freeze_frame
    rw [frozen]
    exact ⟨_, _, rfl⟩
  obtain ⟨pen, apg, stopped⟩ := stops
    ((s.setJog .none).setDvc { s.dvc with state := .stopping, cause := cause, resumeMode := none })
  exact ⟨pen, apg, stopped⟩

/-- A loss of the level at DVC: a stop of cause LEVEL begins, one of cause PAUSE loses its shot, and elsewhere nothing changes. -/
theorem State.divertLevelLoss_cases (s : State) :
    s.divertLevelLoss = s
      ∨ (∃ pen apg dsl, s.divertLevelLoss =
          { s with
            pen := pen, apg := apg, dsl := dsl,
            dvc := { s.dvc with state := .stopping, cause := .level, resumeMode := none } })
      ∨ (s.dvc.cause = .pause ∧ ∃ pen, s.divertLevelLoss = { s with pen := pen }) := by
  unfold State.divertLevelLoss
  split
  · obtain ⟨_, apg, stopping⟩ := s.enterStopping_frame .level
    obtain ⟨pen, withdrawn⟩ := (s.enterStopping .level).withdrawShot_frame
    rw [withdrawn, stopping]
    exact .inr (.inl ⟨_, _, _, rfl⟩)
  · split
    · rename_i pause
      obtain ⟨pen, withdrawn⟩ := s.withdrawShot_frame
      rw [withdrawn]
      exact .inr (.inr ⟨pause, _, rfl⟩)
    · exact .inl rfl
  · exact .inl rfl

/-- In the restart stop a loss of the level is no more than its notice. -/
theorem State.loseLevel_restarting {s : State} (going : s.loseLevel.restarting = true) :
    s.restarting = true
      ∧ s.loseLevel =
        (s.setDvc { s.dvc with level := .lost, beyond := 0, within := 0 }).raise .levelLoss none := by
  unfold State.loseLevel at going ⊢
  obtain h | ⟨_, _, _, h⟩ | ⟨pause, _, h⟩ := State.divertLevelLoss_cases
    ((s.setDvc { s.dvc with level := .lost, beyond := 0, within := 0 }).raise .levelLoss none)
  · dsimp only at going ⊢
    rw [h] at going ⊢
    exact ⟨going, rfl⟩
  · dsimp only at going
    rw [h] at going
    cases going
  · have cause : s.dvc.cause = .pause := pause
    dsimp only at going
    rw [h] at going
    simp [State.restarting, cause] at going

theorem State.choose_dvc (s : State) : s.choose.dvc = s.dvc := s.choose_driveOnly.dvc

theorem State.retarget_dvc (s : State) (a : Axis) (sp : Int) (q : Requester) : (s.retarget a sp q).dvc = s.dvc := by
  cases a with
  | h => exact (State.retarget_apart (a := .v) (by simp) sp q).drive.dvc
  | v => exact (State.retarget_apart (a := .h) (by simp) sp q).drive.dvc

theorem State.launch_dvc (s : State) (p : Pointing) : (s.launch p).dvc = s.dvc := by
  simp only [State.launch, State.pointAxes, State.retarget_dvc]
  rfl

theorem State.deliverOutcome_dvc (s : State) (n : Nat) (kind : PointingKind) (o : Verdict) :
    (s.deliverOutcome n kind o).dvc = s.dvc := by
  have raised : (s.raiseMaybe o.notice (some n)).dvc = s.dvc := by cases o <;> rfl
  have queued : ∀ (t : State) (ns : List Nat), (t.enqueue ns).dvc = t.dvc := fun t ns => by rw [State.enqueue_eq]
  simp only [State.deliverOutcome]
  repeat' split
  all_goals simp [raised, queued]

/-- A resume from HELD leads to RUN (R152, R158). -/
theorem State.resumeHeld_run (s : State) : s.resumeHeld.dvc.state = .run := by
  have restarted : ∀ (t : State) (c : Context), (t.restartPointing c).dvc = t.dvc := by
    intro t c
    unfold State.restartPointing
    split
    · exact State.launch_dvc _ _
    · rfl
  have abandoned : ∀ (t : State) (y : Option (Nat × PointingKind)), (t.abandonTarget y).dvc = t.dvc := by
    intro t y
    rcases y with _ | ⟨n, k⟩
    · rfl
    · exact State.deliverOutcome_dvc _ _ _ _
  simp only [State.resumeHeld]
  repeat' split
  all_goals simp [State.choose_dvc, restarted, abandoned, State.enterRun]

/-- In the restart stop a return of the level is no more than its notice. -/
theorem State.regainLevel_restarting {s : State} (going : s.regainLevel.restarting = true) :
    s.restarting = true
      ∧ s.regainLevel =
        (s.setDvc { s.dvc with level := .level, beyond := 0, within := 0 }).raise .levelRegained none := by
  simp only [State.regainLevel, State.autoResumeTest] at going ⊢
  split at going
  · rw [State.restarting_of_state (by rw [State.resumeHeld_run]; simp)] at going
    cases going
  · rename_i stays
    exact ⟨going, if_neg stays⟩

theorem State.jogTest_restartHold (s : State) : s.jogTest.dsl.restartHold = s.dsl.restartHold := by
  unfold State.jogTest
  repeat' split
  all_goals rfl

/-- A stop goes on while an axis is in motion that has no HOLD to take. -/
theorem State.stopGoesOn {s : State} (state : s.dvc.state = .stopping) {a : Axis} (moves : (s.axis a).inMotion = true)
    (seen : (s.latestRaw a).isSome = true) (noHold : s.dsl.restartHold.get a = false) :
    s.jogTest.choose.stopComplete = false := by
  obtain ⟨u, before, after⟩ := s.jogTest.chooseAxes_around false a
  have want : u.wantedSource a ≠ .hold := by
    have free : s.jogTest.dvc.state.holds = false := by rw [State.jogTest_frame, state]; rfl
    rw [before.wanted]
    refine State.wanted_ne_hold free ?_ ?_
    · rw [State.jogTest_frame]
      exact seen
    · rw [State.jogTest_restartHold]
      exact noHold
  have same : (u.chooseAxis false a).axis a = u.axis a := by
    rw [State.chooseAxis, if_neg want]
    split <;> rfl
  have still : s.jogTest.choose.axis a = s.axis a := by
    rw [State.choose, after.axis, same, before.axis, State.jogTest_frame]
    rfl
  have motion : s.jogTest.choose.axesStill = false := State.axesStill_false.mpr ⟨a, by rw [still]; exact moves⟩
  simp [State.stopComplete, motion]

end Sys2Proof.Machine
end

section
namespace Sys2Proof.Machine

open Sys2Proof

/-! ### A level limit and the sources of the same frame (R143 to R145, R151, R152) -/

/-- A level event in the restart stop leaves its notice and DVC's counts alone, and the stop goes on: the sources may be fed after
the end of the event as well as before it. -/
theorem State.sensed_wrapUp_noticed {v w : State} {d : Dvc} {k : NoticeKind} (x : Sdu) (c : Bool)
    (noticed : w.restarting = true → v.restarting = true ∧ w = (v.setDvc d).raise k none)
    (goes : v.restarting = true →
      ∃ a, (v.axis a).inMotion = true ∧ (v.latestRaw a).isSome = true ∧ v.dsl.restartHold.get a = false) :
    (w.sensed x c).wrapUp = w.wrapUp.sensed x c := by
  refine State.sensed_wrapUp x c (fun going => ?_) (fun going => ?_)
  · obtain ⟨was, same⟩ := noticed going
    obtain ⟨a, moves, seen, noHold⟩ := goes was
    have state : w.dvc.state = .stopping := (of_decide_eq_true going).1
    subst same
    exact State.stopGoesOn state moves seen noHold
  · obtain ⟨-, same⟩ := noticed going
    subst same
    cases c
    · rfl
    · exact Notices.raise_alert _ _ _ _ _

/-! ### A level limit at rest -/

/-- A stop of both axes at rest, ordered by the diversion controller (R90). -/
def State.stoppedAtRest (s : State) : Apg :=
  { axes :=
      { h := { s.axis .h with setpoint := (s.axis .h).p, requester := .diversion },
        v := { s.axis .v with setpoint := (s.axis .v).p, requester := .diversion } },
    settle := none }

/-- DVC in HELD with cause LEVEL after a stop that found nothing in flight (R150, R152). -/
def Dvc.heldForLevel (d : Dvc) (at_ : Nat) : Dvc :=
  { d with
    state := .held, cause := .level, resumeMode := some .auto,
    ordinary := some { target := none, part := none, cause := .level, recoverable := true, savedAt := at_ } }

theorem State.AtRest.divertLevelLoss {s : State} (h : s.AtRest) :
    s.divertLevelLoss =
      { s with
        apg := s.stoppedAtRest, dvc := { s.dvc with state := .stopping, cause := .level, resumeMode := none } } := by
  have jog : s.setJog .none = s := by rw [State.setJog, ← h.noJog]
  have stops : ∀ t : State, t.pen = s.pen → t.apg = s.apg →
      ((t.freeze.stopAxis .h .diversion).stopAxis .v .diversion).withdrawShot.releaseSlot = { t with apg := s.stoppedAtRest } := by
    intro t pen apg
    have stillH : (t.axis .h).motion = .still := by rw [State.axis, apg]; exact h.still .h
    have stillV : (t.axis .v).motion = .still := by rw [State.axis, apg]; exact h.still .v
    have frozen : t.freeze = t := by simp only [State.freeze, pen, h.noPointing]
    have stopped : (t.stopAxis .h .diversion).stopAxis .v .diversion = { t with apg := s.stoppedAtRest } := by
      simp only [State.stoppedAtRest, State.axis, ← apg]
      simp_all [State.stopAxis, State.setAxis, State.setSettle, AxisRec.controlledStop, State.axis, PerAxis.set]
    have withdrawn : State.withdrawShot { t with apg := s.stoppedAtRest } = { t with apg := s.stoppedAtRest } := by
      simp [State.withdrawShot, State.shotInHand, pen, h.noShot]
    rw [frozen, stopped, withdrawn, State.releaseSlot, pen, h.noPointing, Option.map_none, State.setPointing, ← h.noPointing,
      ← pen]
  simp only [State.divertLevelLoss, h.run, State.enterStopping, jog]
  exact stops _ rfl rfl

/-- A stop that finds nothing in flight and the level lost completes at once (R150 to R152). -/
theorem State.AtRest.stopsForLevel {s : State} (h : s.AtRest) {t : State} (state : t.dvc.state = .stopping)
    (cause : t.dvc.cause = .level) (lost : t.dvc.level = .lost) (pen : t.pen = s.pen) (scu : t.scu = s.scu)
    (dsl : t.dsl = s.dsl) (osc : t.osc = s.osc) (apg : t.apg = s.stoppedAtRest) :
    t.wrapUp = t.setDvc (t.dvc.heldForLevel t.stc.siteTime) := by
  have free : t.dvc.state.holds = false := by rw [state]; rfl
  have seen : ∀ a, (t.latestRaw a).isSome := fun a => by rw [State.latestRaw, scu]; exact h.seen a
  have rest : ∀ a, (t.axis a).inMotion = false := by
    intro a
    have still := h.still a
    rw [State.axis, apg]
    cases a <;> simp [State.stoppedAtRest, AxisRec.inMotion, PerAxis.get, still]
  have parked : t.dsl = { t.dsl with selected := both .park } := by rw [dsl, ← h.parked]
  have chosen : ∀ d : Dvc, d.state.holds = false → (t.setDvc d).choose = t.setDvc d := by
    intro d free
    rw [State.choose_park (s := t.setDvc d) free seen (dsl ▸ h.noHold) (pen ▸ h.noPointing) (dsl ▸ h.noJog) rest
      (by simp [State.setDvc, dsl, h.parked])]
    change { t with dvc := d, dsl := { t.dsl with selected := both .park } } = _
    rw [← parked]
    rfl
  have complete : t.stopComplete = true := by
    simp [State.stopComplete, state, State.axesStill, rest, State.shotInHand, pen, h.noShot]
  have jog : t.jogTest = t := State.jogTest_same fun x going => by simp [dsl, h.noJog] at going
  have here : t.choose = t := chosen t.dvc free
  have ends : t.stopTest clearNotices = t.setDvc (t.dvc.heldForLevel t.stc.siteTime) := by
    have held : t.enterHeld none none .level = t.setDvc (t.dvc.heldForLevel t.stc.siteTime) := by
      refine (congrArg State.autoResumeTest (chosen (t.dvc.heldForLevel t.stc.siteTime) rfl)).trans ?_
      exact if_neg (by simp [State.setDvc, Dvc.heldForLevel, lost])
    simp [State.stopTest, complete, cause, pen, h.noPointing, held]
  rw [State.wrapUp, State.wrapUpWith, jog, here, ends, State.examineDispatch,
    State.dispatchReady_of_stopped (osc ▸ h.stopped)]
  simp [State.recordMayGo, State.restarting, cause]

/-- A loss of the level at rest leads to HELD at once (R150 to R152). -/
theorem State.AtRest.loseLevel {s : State} (h : s.AtRest) :
    s.loseLevel.wrapUp =
      { s with
        apg := s.stoppedAtRest
        dvc := { s.dvc with level := .lost, beyond := 0, within := 0 }.heldForLevel s.stc.siteTime
        notices := s.notices.raise .levelLoss none } := by
  have lost : State.AtRest ((s.setDvc { s.dvc with level := .lost, beyond := 0, within := 0 }).raise .levelLoss none) :=
    h.congr rfl rfl rfl rfl rfl rfl rfl
  rw [State.loseLevel]
  dsimp only
  rw [lost.divertLevelLoss]
  exact h.stopsForLevel rfl rfl rfl rfl rfl rfl rfl rfl

/-! ### The statement -/

/-- SDU's state replaced, and a DERATE notice unless two fractions are equal. -/
theorem State.sensed_unless_same (w : State) (x : Sdu) (f g : Nat × Nat) :
    w.sensed x (!sameFraction f g) =
      if f.1 * g.2 = g.1 * f.2 then { w with sdu := x } else State.raise { w with sdu := x } .derate none := by
  by_cases same : f.1 * g.2 = g.1 * f.2 <;> simp [sameFraction, same, State.sensed, State.raise]

section
variable {v : State} (x : Sdu) (c : Bool)

/-- At rest a report at SDU with new counts at DVC is all that an event brings. -/
theorem State.AtRest.sensed_wrapUp (h : v.AtRest) {d : Dvc} (run : d.state = v.dvc.state) :
    ((v.setDvc d).sensed x c).wrapUp = (v.setDvc d).sensed x c :=
  (h.congr (t := (v.setDvc d).sensed x c) run rfl rfl rfl rfl rfl rfl).wrapUp

/-- At rest a return of the level is no more than its notice. -/
theorem State.AtRest.regainLevel (h : v.AtRest) :
    v.regainLevel.wrapUp =
      { v with
        notices := v.notices.raise .levelRegained none, dvc := { v.dvc with level := .level, beyond := 0, within := 0 } } := by
  have regained : v.regainLevel = (v.setDvc { v.dvc with level := .level, beyond := 0, within := 0 }).raise .levelRegained none :=
    if_neg fun held => by
      have run : DvcState.run = DvcState.held := h.run.symm.trans held.1
      cases run
  rw [regained]
  exact State.AtRest.wrapUp (h.congr rfl rfl rfl rfl rfl rfl rfl)

theorem State.AtRest.not_restarting (h : v.AtRest) : v.restarting = false :=
  State.restarting_of_state (by rw [h.run]; simp)

variable (goes : v.restarting = true →
  ∃ a, (v.axis a).inMotion = true ∧ (v.latestRaw a).isSome = true ∧ v.dsl.restartHold.get a = false)
include goes

theorem State.loseLevel_sensed_wrapUp : (v.loseLevel.sensed x c).wrapUp = v.loseLevel.wrapUp.sensed x c :=
  State.sensed_wrapUp_noticed x c State.loseLevel_restarting goes

theorem State.regainLevel_sensed_wrapUp : (v.regainLevel.sensed x c).wrapUp = v.regainLevel.wrapUp.sensed x c :=
  State.sensed_wrapUp_noticed x c State.regainLevel_restarting goes

end

/-- Settles O53: the sample and the sources change places with the level event that the frame brings. -/
theorem tiltFramesAndStaleSources : Obligations.TiltFramesAndStaleSources := by
  refine ⟨fun s us tl tc overrange temp => ?_, fun s => ⟨rfl, rfl, fun a => by cases a <;> rfl, rfl⟩⟩
  intro u limit beyond steps jitter offer groups f g sample fed shown
  have accepted : { u with aru := u.aru.tiltArrives tl tc overrange } = sample := by
    simp only [sample, jitter, steps, Aru.tiltArrives]
    cases u.aru.tilt <;> rfl
  have feeds : ∀ w, w.sensed (sample.tiltSdu temp) (sample.tiltTells temp) = fed w := fun w => w.sensed_unless_same _ f g
  have tested : ∀ b, (b = true ↔ beyond) → beyondLevel sample.station.n.tiltLimit tl tc overrange = b := fun b test =>
    Bool.eq_iff_iff.mpr ((beyondLevel_iff _ _ _ _).trans test.symm)
  have event : exec (.tiltFrame us tl tc overrange temp) s = .next (u.tiltArrives tl tc overrange temp) := rfl
  have frame : ∀ b, (b = true ↔ beyond) →
      exec (.tiltFrame us tl tc overrange temp) s =
        .next ((sample.levelSample b).sensed (sample.tiltSdu temp) (sample.tiltTells temp)).wrapUp := by
    intro b test
    rw [event, State.tiltArrives_eq accepted (tested b test)]
  have out : beyond → (true = true ↔ beyond) := fun h => iff_of_true rfl h
  have short : ¬beyond → (false = true ↔ beyond) := fun h => iff_of_false (by simp) h
  have rest : u.AtRest → sample.AtRest := fun h => h.congr rfl rfl rfl rfl rfl rfl rfl
  have shows : u.AtRest → ∀ d : Dvc, d.state = sample.dvc.state →
      ((sample.setDvc d).sensed (sample.tiltSdu temp) (sample.tiltTells temp)).wrapUp = shown d := by
    intro atRest d run
    rw [(rest atRest).sensed_wrapUp _ _ run, feeds]
    rfl
  refine ⟨fun atRest => ⟨?_, ?_, ?_, ?_⟩, fun goes => ⟨?_, ?_⟩, ?_, ?_⟩
  · intro level test
    rw [frame false (short test), State.levelSample_stays (s := sample) level]
    exact congrArg _ (shows atRest _ (by rfl))
  · intro level test few
    rw [frame true (out test), State.levelSample_beyond (s := sample) level, if_neg (Nat.not_le.mpr few)]
    exact congrArg _ (shows atRest _ (by rfl))
  · intro level test
    rw [frame true (out test), State.levelSample_away (s := sample) level]
    exact congrArg _ (shows atRest _ (by rfl))
  · intro level test few
    rw [frame false (short test), State.levelSample_within (s := sample) level, if_neg (Nat.not_le.mpr few)]
    exact congrArg _ (shows atRest _ (by rfl))
  · intro level test enough
    refine ⟨sample.loseLevel.wrapUp, congrArg Host.Outcome.next (if_pos level), ?_⟩
    rw [frame true (out test), State.levelSample_beyond (s := sample) level, if_pos enough,
      State.loseLevel_sensed_wrapUp (v := sample) _ _ goes, feeds]
  · intro level test enough
    refine ⟨sample.regainLevel.wrapUp, congrArg Host.Outcome.next (if_pos level), ?_⟩
    rw [frame false (short test), State.levelSample_within (s := sample) level, if_pos enough,
      State.regainLevel_sensed_wrapUp (v := sample) _ _ goes, feeds]
  · intro atRest level test enough
    refine ⟨_, frame true (out test), ?_⟩
    rw [State.levelSample_beyond (s := sample) level, if_pos enough,
      State.loseLevel_sensed_wrapUp _ _ fun going => absurd going (by simp [(rest atRest).not_restarting]),
      (rest atRest).loseLevel]
    refine ⟨rfl, ?_, ?_, rfl, rfl, rfl, rfl⟩
    · rw [← feeds]
      rfl
    · rw [← feeds]
      rfl
  · intro atRest level test enough
    rw [frame false (short test), State.levelSample_within (s := sample) level, if_pos enough,
      State.regainLevel_sensed_wrapUp _ _ fun going => absurd going (by simp [(rest atRest).not_restarting]),
      (rest atRest).regainLevel, feeds]

end Sys2Proof.Machine
end

section
/-! SUPPORT. The sizes of the tables and the guard progress, and what leaves them as they are: all but a reset, a request and the
warm values. For the statement TablesAndBoundsStayWhole. -/

namespace Sys2Proof.Machine

open Sys2Proof

/-! ### What leaves every size and the guard progress as they are -/

/-- The size of every table and the guard progress: what TablesAndBoundsStayWhole bounds besides the ports. -/
structure Sizes where
  entries : Nat
  records : Nat
  zenith : Nat
  groups : Nat
  soft : Nat × Nat
  slots : Nat × Nat
  guard : Nat

/-- The sizes of a state. -/
def State.sizes (s : State) : Sizes :=
  { entries := s.entries.length, records := s.notices.records.length, zenith := s.aru.zenith.length,
    groups := s.sdu.groups.length, soft := (s.scs.soft.h.length, s.scs.soft.v.length),
    slots := (s.scs.slots.h.length, s.scs.slots.v.length), guard := s.scs.guard }

@[simp] theorem State.sizes_mk (stc : Stc) (link : Link) (requests : Requests) (notices : Notices) (reports : Reports)
    (transmit : Transmit) (entries : List Entry) (osc : Osc) (pen : Pen) (squ : Squ) (station : Station) (aru : Aru)
    (scu : Scu) (apg : Apg) (dsl : Dsl) (sdu : Sdu) (dvc : Dvc) (scs : Scs) (pending : List Instr) :
    (State.mk stc link requests notices reports transmit entries osc pen squ station aru scu apg dsl sdu dvc scs
        pending).sizes =
      Sizes.mk entries.length notices.records.length aru.zenith.length sdu.groups.length (scs.soft.h.length, scs.soft.v.length)
        (scs.slots.h.length, scs.slots.v.length) scs.guard := rfl

@[simp] theorem State.sizes_eta (s : State) :
    Sizes.mk s.entries.length s.notices.records.length s.aru.zenith.length s.sdu.groups.length
        (s.scs.soft.h.length, s.scs.soft.v.length) (s.scs.slots.h.length, s.scs.slots.v.length) s.scs.guard =
      s.sizes := rfl

@[simp] theorem State.setPointing_sizes (s : State) (p : Option Pointing) :
    (s.setPointing p).sizes = s.sizes := by simp [State.setPointing]

@[simp] theorem State.setShot_sizes (s : State) (x : Option Shot) : (s.setShot x).sizes = s.sizes := by simp [State.setShot]

@[simp] theorem State.setAxis_sizes (s : State) (a : Axis) (r : AxisRec) :
    (s.setAxis a r).sizes = s.sizes := by simp [State.setAxis]

@[simp] theorem State.setSettle_sizes (s : State) (t : Option SettleTest) :
    (s.setSettle t).sizes = s.sizes := by simp [State.setSettle]

@[simp] theorem State.setEntry_sizes (s : State) (n : Nat) (e : Entry) :
    (s.setEntry n e).sizes = s.sizes := by simp [State.setEntry]

@[simp] theorem State.setSqu_sizes (s : State) (q : Squ) : (s.setSqu q).sizes = s.sizes := by simp [State.setSqu]

@[simp] theorem State.setOsc_sizes (s : State) (o : Osc) : (s.setOsc o).sizes = s.sizes := by simp [State.setOsc]

@[simp] theorem State.setDvc_sizes (s : State) (d : Dvc) : (s.setDvc d).sizes = s.sizes := by simp [State.setDvc]

@[simp] theorem State.setJog_sizes (s : State) (j : Jog) : (s.setJog j).sizes = s.sizes := by simp [State.setJog]

@[simp] theorem State.setSource_sizes (s : State) (a : Axis) (x : Source) :
    (s.setSource a x).sizes = s.sizes := by simp [State.setSource]

@[simp] theorem State.setSlot_sizes (s : State) (a : Axis) (f : Option DriveFrame) :
    (s.setSlot a f).sizes = s.sizes := by simp [State.setSlot]

@[simp] theorem State.moveTimes_sizes (s : State) (δ : Int) : (s.moveTimes δ).sizes = s.sizes := by simp [State.moveTimes]

theorem State.stcUpdate_sizes (s : State) (c : Prop) [Decidable c] (x y : Stc) (δ : Int) :
    (if c then { s with stc := x } else State.moveTimes { s with stc := y } δ).sizes = s.sizes := by
  split <;> simp

@[simp] theorem State.advanceBy_sizes (s : State) (d : Nat) :
    (s.advanceBy d).sizes = s.sizes := by
  unfold State.advanceBy
  exact s.stcUpdate_sizes _ _ _ _

@[simp] theorem State.advanceTo_sizes (s : State) (us : Nat) :
    (s.advanceTo us).sizes = s.sizes := by
  unfold State.advanceTo
  split <;> simp

@[simp] theorem State.raise_sizes (s : State) (k : NoticeKind) (target : Option Nat) :
    (s.raise k target).sizes = s.sizes := by simp [State.raise, Notices.raise_length]

@[simp] theorem State.beginObs_sizes (s : State) : s.beginObs.sizes = s.sizes := by
  obtain h | ⟨_, _, _, _, _, h⟩ := s.beginObs_cases <;> rw [h]
  rfl

@[simp] theorem State.raiseEach_sizes (s : State) (k : NoticeKind) (targets : List Nat) :
    (s.raiseEach k targets).sizes = s.sizes := by
  induction targets generalizing s with
  | nil => rfl
  | cons n ns ih => exact (ih (s.raise k (some n))).trans (by simp)

@[simp] theorem State.enterSettle_sizes (s : State) (p : Pointing) :
    (s.enterSettle p).sizes = s.sizes := by simp [State.enterSettle]

@[simp] theorem State.pointingArrival_sizes (s : State) (a : Axis) :
    (s.pointingArrival a).sizes = s.sizes := by
  simp only [State.pointingArrival]
  repeat' split
  all_goals simp

@[simp] theorem State.reportArrival_sizes (s : State) (a : Axis) (req : Requester) :
    (s.reportArrival a req).sizes = s.sizes := by
  unfold State.reportArrival
  split <;> simp

@[simp] theorem State.retarget_sizes (s : State) (a : Axis) (sp : Int) (req : Requester) :
    (s.retarget a sp req).sizes = s.sizes := by
  simp only [State.retarget]
  repeat' split
  all_goals simp

@[simp] theorem State.stopAxis_sizes (s : State) (a : Axis) (req : Requester) :
    (s.stopAxis a req).sizes = s.sizes := by simp [State.stopAxis]

@[simp] theorem State.stopIfMoving_sizes (s : State) (a : Axis) (req : Requester) :
    (s.stopIfMoving a req).sizes = s.sizes := by
  unfold State.stopIfMoving
  split <;> simp

@[simp] theorem State.holdAxis_sizes (s : State) (a : Axis) :
    (s.holdAxis a).sizes = s.sizes := by
  unfold State.holdAxis
  repeat' split
  all_goals simp

@[simp] theorem State.releaseAxis_sizes (s : State) (a : Axis) (want : Source) :
    (s.releaseAxis a want).sizes = s.sizes := by
  simp only [State.releaseAxis]
  repeat' split
  all_goals simp

@[simp] theorem State.chooseAxis_sizes (s : State) (atExpiry : Bool) (a : Axis) :
    (s.chooseAxis atExpiry a).sizes = s.sizes := by
  simp only [State.chooseAxis]
  repeat' split
  all_goals simp

@[simp] theorem State.choose_sizes (s : State) : s.choose.sizes = s.sizes := by simp [State.choose]

@[simp] theorem State.chooseAtExpiry_sizes (s : State) : s.chooseAtExpiry.sizes = s.sizes := by simp [State.chooseAtExpiry]

@[simp] theorem State.jogTest_sizes (s : State) :
    s.jogTest.sizes = s.sizes := by
  unfold State.jogTest
  repeat' split
  all_goals simp

@[simp] theorem State.enqueue_sizes (s : State) (nums : List Nat) :
    (s.enqueue nums).sizes = s.sizes := by
  simp only [State.enqueue]
  repeat' split
  all_goals simp

@[simp] theorem State.unqueue_sizes (s : State) (n : Nat) : (s.unqueue n).sizes = s.sizes := by simp [State.unqueue]

@[simp] theorem State.tickTable_sizes (s : State) : s.tickTable.sizes = s.sizes := by
  simp [State.tickTable, tickEntries_eq]

@[simp] theorem State.raiseMaybe_sizes (s : State) (k : Option NoticeKind) (target : Option Nat) :
    (s.raiseMaybe k target).sizes = s.sizes := by
  unfold State.raiseMaybe
  split <;> simp

@[simp] theorem State.deliverOutcome_sizes (s : State) (n : Nat) (kind : PointingKind) (o : Verdict) :
    (s.deliverOutcome n kind o).sizes = s.sizes := by
  simp only [State.deliverOutcome]
  repeat' split
  all_goals simp

@[simp] theorem State.lowerMissLimit_sizes (s : State) (limit : Nat) :
    (s.lowerMissLimit limit).sizes = s.sizes := by
  simp [State.lowerMissLimit, lowerEntries_eq]

@[simp] theorem State.pointAxes_sizes (s : State) (p : Pointing) : (s.pointAxes p).sizes = s.sizes := by simp [State.pointAxes]

@[simp] theorem State.launch_sizes (s : State) (p : Pointing) : (s.launch p).sizes = s.sizes := by simp [State.launch]

@[simp] theorem State.beginPointing_sizes (s : State) (n : Nat) (kind : PointingKind) :
    (s.beginPointing n kind).sizes = s.sizes := by simp [State.beginPointing]

@[simp] theorem State.startLeg_sizes (s : State) (p : Pointing) (n : Nat) :
    (s.startLeg p n).sizes = s.sizes := by simp [State.startLeg]

@[simp] theorem State.dispatchHead_sizes (s : State) :
    s.dispatchHead.sizes = s.sizes := by
  unfold State.dispatchHead
  split <;> simp

@[simp] theorem State.examineDispatch_sizes (s : State) :
    s.examineDispatch.sizes = s.sizes := by
  unfold State.examineDispatch
  split <;> simp

@[simp] theorem State.releaseSlot_sizes (s : State) : s.releaseSlot.sizes = s.sizes := by simp [State.releaseSlot]

@[simp] theorem State.withdrawShot_sizes (s : State) :
    s.withdrawShot.sizes = s.sizes := by
  unfold State.withdrawShot
  split <;> simp

@[simp] theorem State.stopAfterPointing_sizes (s : State) :
    s.stopAfterPointing.sizes = s.sizes := by
  unfold State.stopAfterPointing
  split <;> simp

@[simp] theorem State.endPointing_sizes (s : State) (o : Verdict) :
    (s.endPointing o).sizes = s.sizes := by
  unfold State.endPointing
  repeat' split
  all_goals simp

@[simp] theorem State.failPointing_sizes (s : State) (o : Verdict) :
    (s.failPointing o).sizes = s.sizes := by
  unfold State.failPointing
  split <;> simp

@[simp] theorem State.abandonTarget_sizes (s : State) (x : Option (Nat × PointingKind)) :
    (s.abandonTarget x).sizes = s.sizes := by
  rcases x with _ | ⟨n, k⟩ <;> simp [State.abandonTarget]

@[simp] theorem State.discardContexts_sizes (s : State) :
    s.discardContexts.sizes = s.sizes := by
  simp only [State.discardContexts]
  repeat' split
  all_goals simp

@[simp] theorem State.enterRun_sizes (s : State) : s.enterRun.sizes = s.sizes := by simp [State.enterRun]

@[simp] theorem State.restartPointing_sizes (s : State) (c : Context) :
    (s.restartPointing c).sizes = s.sizes := by
  unfold State.restartPointing
  split <;> simp

@[simp] theorem State.resumeHeld_sizes (s : State) :
    s.resumeHeld.sizes = s.sizes := by
  simp only [State.resumeHeld]
  repeat' split
  all_goals simp

@[simp] theorem State.autoResumeTest_sizes (s : State) :
    s.autoResumeTest.sizes = s.sizes := by
  unfold State.autoResumeTest
  split <;> simp

@[simp] theorem State.enterHeld_sizes (s : State) (target : Option Nat) (part : Option PointingPart) (cause : Cause) :
    (s.enterHeld target part cause).sizes = s.sizes := by simp [State.enterHeld]

@[simp] theorem State.recordMayGo_sizes (s : State) (b : Bool) : (s.recordMayGo b).sizes = s.sizes := by
  unfold State.recordMayGo
  split <;> simp

@[simp] theorem State.freeze_sizes (s : State) :
    s.freeze.sizes = s.sizes := by
  unfold State.freeze
  split <;> simp

@[simp] theorem State.enterStopping_sizes (s : State) (cause : Cause) :
    (s.enterStopping cause).sizes = s.sizes := by simp [State.enterStopping]

@[simp] theorem State.divertLevelLoss_sizes (s : State) :
    s.divertLevelLoss.sizes = s.sizes := by
  unfold State.divertLevelLoss
  repeat' split
  all_goals simp

@[simp] theorem State.loseLevel_sizes (s : State) : s.loseLevel.sizes = s.sizes := by simp [State.loseLevel]

@[simp] theorem State.regainLevel_sizes (s : State) : s.regainLevel.sizes = s.sizes := by simp [State.regainLevel]

@[simp] theorem State.holdBoth_sizes (s : State) :
    s.holdBoth.sizes = s.sizes := by
  simp only [State.holdBoth]
  repeat' split
  all_goals simp

@[simp] theorem State.enterLockout_sizes (s : State) (cause : Cause) :
    (s.enterLockout cause).sizes = s.sizes := by simp [State.enterLockout]

@[simp] theorem State.enterCritical_sizes (s : State) (cause : Cause) :
    (s.enterCritical cause).sizes = s.sizes := by simp [State.enterCritical]

@[simp] theorem State.firstFault_sizes (s : State) (cause : Cause) :
    (s.firstFault cause).sizes = s.sizes := by
  unfold State.firstFault
  split <;> simp

@[simp] theorem State.restartBegins_sizes (s : State) :
    s.restartBegins.sizes = s.sizes := by
  simp [State.restartBegins]

@[simp] theorem State.fire_sizes (s : State) (p : Pointing) : (s.fire p).sizes = s.sizes := by simp [State.fire]

@[simp] theorem State.tryShot_sizes (s : State) :
    s.tryShot.sizes = s.sizes := by
  unfold State.tryShot
  repeat' split
  all_goals simp

@[simp] theorem State.shotFails_sizes (s : State) (o : Verdict) :
    (s.shotFails o).sizes = s.sizes := by
  unfold State.shotFails
  repeat' split
  all_goals simp

@[simp] theorem State.retryDeclined_sizes (s : State) :
    s.retryDeclined.sizes = s.sizes := by
  unfold State.retryDeclined
  repeat' split
  all_goals simp

@[simp] theorem State.retryOr_sizes (s : State) (o : Verdict) :
    (s.retryOr o).sizes = s.sizes := by
  unfold State.retryOr
  repeat' split
  all_goals simp

@[simp] theorem State.suspectTest_sizes (s : State) (target : Nat) (x : Deviations) :
    (s.suspectTest target x).sizes = s.sizes := by
  unfold State.suspectTest
  split <;> simp

@[simp] theorem State.recordMade_sizes (s : State) (p : Pointing) :
    (s.recordMade p).sizes = s.sizes := by
  simp only [State.recordMade]
  repeat' split
  all_goals simp

@[simp] theorem State.makeRecord_sizes (s : State) (p : Pointing) (c : Capture) (hd : Heading) :
    (s.makeRecord p c hd).sizes = s.sizes := by
  simp only [State.makeRecord]
  repeat' split
  all_goals simp

@[simp] theorem State.completeCapture_sizes (s : State) (c : Capture) (rH rV : Int) :
    (s.completeCapture c rH rV).sizes = s.sizes := by
  simp only [State.completeCapture]
  repeat' split
  all_goals simp

@[simp] theorem State.settleCapture_sizes (s : State) (id : Nat) (c : Capture) :
    (s.settleCapture id c).sizes = s.sizes := by
  unfold State.settleCapture
  split <;> simp

@[simp] theorem State.capture_sizes (s : State) (id : Nat) (time distance : Int) (strength : Nat) :
    (s.capture id time distance strength).sizes = s.sizes := by
  simp only [State.capture]
  repeat' split
  all_goals simp

@[simp] theorem State.captureSample_sizes (s : State) (a : Axis) :
    (s.captureSample a).sizes = s.sizes := by
  unfold State.captureSample
  repeat' split
  all_goals simp

@[simp] theorem State.answer_sizes (s : State) (id : Nat) (time distance : Int) (strength : Nat) (y : RangeStatus) :
    (s.answer id time distance strength y).sizes = s.sizes := by
  unfold State.answer
  split <;> simp

@[simp] theorem State.rangeArrives_sizes (s : State) (id age : Nat) (distance : Int) (strength : Nat) (status : RangeStatus) :
    (s.rangeArrives id age distance strength status).sizes = s.sizes := by
  unfold State.rangeArrives
  repeat' split
  all_goals simp

@[simp] theorem State.settled_sizes (s : State) (time : Int) :
    (s.settled time).sizes = s.sizes := by
  simp only [State.settled]
  repeat' split
  all_goals simp

@[simp] theorem State.settleSample_sizes (s : State) (a : Axis) (x : Sample) :
    (s.settleSample a x).sizes = s.sizes := by
  simp only [State.settleSample]
  repeat' split
  all_goals simp

@[simp] theorem State.feedSample_sizes (s : State) (x : Sample) :
    (s.feedSample x).sizes = s.sizes := by
  simp only [State.feedSample]
  repeat' split
  all_goals simp

@[simp] theorem State.acceptSample_sizes (s : State) (a : Axis) (x : Sample) :
    (s.acceptSample a x).sizes = s.sizes := by
  unfold State.acceptSample
  split <;> simp

@[simp] theorem State.legEmpty_sizes (s : State) (p : Pointing) (leg : Nat) :
    (s.legEmpty p leg).sizes = s.sizes := by
  simp only [State.legEmpty]
  repeat' split
  all_goals simp

@[simp] theorem State.acquireEmpty_sizes (s : State) (p : Pointing) (count : Nat) :
    (s.acquireEmpty p count).sizes = s.sizes := by
  simp only [State.acquireEmpty]
  repeat' split
  all_goals simp

@[simp] theorem State.lockAt_sizes (s : State) (p : Pointing) (count : Nat) (o : Offset) :
    (s.lockAt p count o).sizes = s.sizes := by
  unfold State.lockAt
  split <;> simp

@[simp] theorem State.fineRetarget_sizes (s : State) (p : Pointing) (o : Offset) :
    (s.fineRetarget p o).sizes = s.sizes := by simp [State.fineRetarget]

theorem State.countAmbiguous_sizes (s : State) (rest : State → State) (h : ∀ t : State, (rest t).sizes = t.sizes) :
    (s.countAmbiguous rest).sizes = s.sizes := by
  unfold State.countAmbiguous
  dsimp only
  split <;> simp [h]

theorem State.countLoss_sizes (s : State) (lost : Verdict) (rest : State → State)
    (h : ∀ t : State, (rest t).sizes = t.sizes) : (s.countLoss lost rest).sizes = s.sizes := by
  unfold State.countLoss
  dsimp only
  split <;> simp [h]

@[simp] theorem State.frameAcquire_sizes (s : State) (p : Pointing) (r : SpotResult) :
    (s.frameAcquire p r).sizes = s.sizes := by
  rcases r with o | _ | _
  · simp [State.frameAcquire]
  · simp [State.frameAcquire]
  · exact s.countAmbiguous_sizes _ fun _ => rfl

@[simp] theorem State.frameLook_sizes (s : State) (p : Pointing) (r : SpotResult) :
    (s.frameLook p r).sizes = s.sizes := by
  rcases r with o | _ | _
  · simp [State.frameLook]
  · simp [State.frameLook]
  · exact s.countAmbiguous_sizes _ fun _ => rfl

@[simp] theorem State.frameLocking_sizes (s : State) (p : Pointing) (r : SpotResult) :
    (s.frameLocking p r).sizes = s.sizes := by
  rcases r with o | _ | _
  · simp [State.frameLocking]
  · cases h : p.source <;> simp [State.frameLocking, h]
  · exact s.countAmbiguous_sizes _ fun t => t.setSqu_sizes _

@[simp] theorem State.frameCentre_sizes (s : State) (p : Pointing) (r : SpotResult) :
    (s.frameCentre p r).sizes = s.sizes := by
  have limit : ∀ t : State, (if s.squ.centre + 1 = t.station.n.centreLimit then t.failPointing .unsettled else t).sizes
      = t.sizes := fun t => by split <;> simp
  rcases r with o | _ | _
  · simp only [State.frameCentre, apply_ite State.sizes]
    simp
  · exact (State.countLoss_sizes _ _ _ limit).trans (State.setSqu_sizes _ _)
  · exact (State.countAmbiguous_sizes _ _ fun t => t.countLoss_sizes _ _ limit).trans (State.setSqu_sizes _ _)

@[simp] theorem State.frameMeasure_sizes (s : State) (p : Pointing) (r : SpotResult) :
    (s.frameMeasure p r).sizes = s.sizes := by
  rcases r with o | _ | _
  · simp [State.frameMeasure]
  · exact s.countLoss_sizes _ _ fun _ => rfl
  · exact s.countAmbiguous_sizes _ fun t => t.countLoss_sizes _ _ fun _ => rfl

@[simp] theorem State.frameFollow_sizes (s : State) (p : Pointing) (r : SpotResult) :
    (s.frameFollow p r).sizes = s.sizes := by
  rcases r with o | _ | _
  · simp [State.frameFollow, apply_ite State.sizes]
  · exact s.countLoss_sizes _ _ fun _ => rfl
  · exact s.countAmbiguous_sizes _ fun t => t.countLoss_sizes _ _ fun _ => rfl

@[simp] theorem State.frameTaken_sizes (s : State) (p : Pointing) (r : SpotResult) :
    (s.frameTaken p r).sizes = s.sizes := by
  unfold State.frameTaken
  split <;> simp

@[simp] theorem State.spotArrives_sizes (s : State) (time : Int) (spots : List Spot) :
    (s.spotArrives time spots).sizes = s.sizes := by
  simp only [State.spotArrives]
  repeat' split
  all_goals simp

@[simp] theorem State.noticeFraction_sizes (before after : State) :
    (State.noticeFraction before after).sizes = after.sizes := by
  unfold State.noticeFraction
  split <;> simp

@[simp] theorem State.resumeCritical_sizes (s : State) (c : CriticalRecord) :
    (s.resumeCritical c).sizes = s.sizes := by
  unfold State.resumeCritical
  split <;> simp

@[simp] theorem State.jogAxis_sizes (s : State) (a : Axis) (j : Int) :
    (s.jogAxis a j).sizes = s.sizes := by
  unfold State.jogAxis
  split <;> simp

@[simp] theorem State.stopJog_sizes (s : State) (speed : PerAxis Int) : (s.stopJog speed).sizes = s.sizes := by simp [State.stopJog]

@[simp] theorem State.offer_sizes (s : State) (source : DerateSource) (x : Int) :
    (s.offer source x).sizes = s.sizes := by simp [State.offer]

@[simp] theorem State.setSilence_sizes (s : State) (a : Axis) (n : Nat) :
    (s.setSilence a n).sizes = s.sizes := by simp [State.setSilence]

@[simp] theorem State.setReport_sizes (s : State) (a : Axis) (r : DriveReport) :
    (s.setReport a r).sizes = s.sizes := by simp [State.setReport]

@[simp] theorem State.driveTempArrives_sizes (s : State) (a : Axis) (temp : Int) :
    (s.driveTempArrives a temp).sizes = s.sizes := by simp [State.driveTempArrives]

@[simp] theorem State.levelSample_sizes (s : State) (beyond : Bool) :
    (s.levelSample beyond).sizes = s.sizes := by
  simp only [State.levelSample]
  repeat' split
  all_goals simp

@[simp] theorem State.tiltSources_sizes (s : State) (temp : Int) :
    (s.tiltSources temp).sizes = s.sizes := by simp [State.tiltSources]

theorem State.advanceBy_aru (s : State) (d : Nat) : (s.advanceBy d).aru = s.aru := congrArg Base.aru (s.advanceBy_base d)

@[simp] theorem State.endPeriod_sizes (s : State) : s.endPeriod.sizes = s.sizes := by simp [State.endPeriod, State.advanceBy_aru]

@[simp] theorem State.rangeTick_sizes (s : State) :
    s.rangeTick.sizes = s.sizes := by
  unfold State.rangeTick
  repeat' split
  all_goals simp

@[simp] theorem State.dwellRunsOut_sizes (s : State) :
    s.dwellRunsOut.sizes = s.sizes := by
  unfold State.dwellRunsOut
  split <;> simp

@[simp] theorem State.trackRunsOut_sizes (s : State) :
    s.trackRunsOut.sizes = s.sizes := by
  unfold State.trackRunsOut
  split <;> simp

@[simp] theorem State.followTick_sizes (s : State) (p : Pointing) :
    (s.followTick p).sizes = s.sizes := by
  unfold State.followTick
  repeat' split
  all_goals simp

@[simp] theorem State.pointingTick_sizes (s : State) :
    s.pointingTick.sizes = s.sizes := by
  simp only [State.pointingTick]
  repeat' split
  all_goals simp

@[simp] theorem State.stepAxis_sizes (s : State) (a : Axis) :
    (s.stepAxis a).sizes = s.sizes := by
  simp only [State.stepAxis]
  repeat' split
  all_goals simp

@[simp] theorem State.extendJog_sizes (s : State) (j : Int) :
    (s.extendJog j).sizes = s.sizes := by
  unfold State.extendJog
  split <;> simp

@[simp] theorem State.jogTick_sizes (s : State) :
    s.jogTick.sizes = s.sizes := by
  unfold State.jogTick
  repeat' split
  all_goals simp

@[simp] theorem State.formDrives_sizes (s : State) : s.formDrives.sizes = s.sizes := by simp [State.formDrives]

@[simp] theorem State.sourceGoesStale_sizes (s : State) (y : DerateSource) :
    (s.sourceGoesStale y).sizes = s.sizes := by
  unfold State.sourceGoesStale
  split <;> simp

@[simp] theorem State.settleCompletes_sizes (s : State) (time : Int) :
    (s.settleCompletes time).sizes = s.sizes := by
  unfold State.settleCompletes
  split <;> simp

@[simp] theorem State.resumesItself_sizes (s : State) : s.resumesItself.sizes = s.sizes := by simp [State.resumesItself]

@[simp] theorem State.siteTimeWraps_sizes (s : State) :
    s.siteTimeWraps.sizes = s.sizes := by
  unfold State.siteTimeWraps
  split <;> simp

end Sys2Proof.Machine
end

section
/-! SUPPORT. What the warm values keep, and the events that may bring them: for the statement TablesAndBoundsStayWhole. -/

namespace Sys2Proof.Machine

open Sys2Proof

/-! ### Whole tables -/

/-- The sizes that `State.tablesWhole` names. -/
def Sizes.Whole (x : Sizes) : Prop :=
  x.entries = 64 ∧ x.records = 16 ∧ x.zenith = 33 ∧ x.groups = 4 ∧ x.soft = (32, 32) ∧ x.slots = (32, 32)

theorem State.tablesWhole_iff (s : State) : s.tablesWhole ↔ s.sizes.Whole := by
  simp only [State.tablesWhole, Sizes.Whole, State.sizes, Prod.mk.injEq, and_assoc]
  rfl

/-- What held of the sizes before an event holds of them after it. -/
structure Sizes.Keeps (x y : Sizes) : Prop where
  whole : x.Whole → y.Whole
  guard : x.guard ≤ 4 → y.guard ≤ 4

@[simp] theorem Sizes.Keeps.refl (x : Sizes) : x.Keeps x := ⟨id, id⟩

theorem Sizes.Keeps.trans {x y z : Sizes} (h : x.Keeps y) (g : y.Keeps z) : x.Keeps z :=
  ⟨fun w => g.whole (h.whole w), fun w => g.guard (h.guard w)⟩

theorem Sizes.Keeps.guarded {x y : Sizes} (h : x.Keeps y) {g : Nat} (bound : g ≤ 4) : x.Keeps { y with guard := g } :=
  ⟨h.whole, fun _ => bound⟩

theorem Sizes.Keeps.cleared {x y : Sizes} (h : x.Keeps y) {n g : Nat} (records : n = 16) (bound : g ≤ 4) :
    x.Keeps { y with records := n, guard := g } := by
  refine ⟨fun whole => ?_, fun _ => bound⟩
  obtain ⟨entries, -, rest⟩ := h.whole whole
  exact ⟨entries, records, rest⟩

@[simp] theorem clearNotices_length : clearNotices.records.length = 16 := List.length_replicate

/-! ### The warm values, and what may bring them -/

theorem State.warmValues_sizes (s : State) (raised : Notices) :
    (s.warmValues raised).sizes = { s.sizes with records := raised.records.length, guard := 0 } := by
  have warm : (s.warmValues raised).sizes =
      { (State.discardContexts { s with notices := raised }).sizes with guard := 0 } := by
    simp only [State.warmValues, State.choose_sizes, State.enterRun_sizes, State.sizes_mk, List.length_map]
    rfl
  rw [warm, State.discardContexts_sizes]
  rfl

section
variable {x : Sizes} {s : State} (h : x.Keeps s.sizes)
include h

section
variable {raised : Notices} (whole : raised.records.length = 16)
include whole

@[simp] theorem State.warmValues_kept : x.Keeps (s.warmValues raised).sizes := by
  rw [State.warmValues_sizes]
  exact h.cleared whole (Nat.zero_le 4)

@[simp] theorem State.stopTest_kept : x.Keeps (s.stopTest raised).sizes := by
  unfold State.stopTest
  repeat' split
  all_goals simp [h, whole]

@[simp] theorem State.wrapUpWith_kept : x.Keeps (s.wrapUpWith raised).sizes := by simp [State.wrapUpWith, h, whole]

@[simp] theorem State.takeFault_kept (a : Axis) (cause : Cause) : x.Keeps (s.takeFault a cause raised).sizes := by
  unfold State.takeFault
  repeat' split
  all_goals simp [h, whole]

@[simp] theorem State.takeRestart_kept : x.Keeps (s.takeRestart raised).sizes := by
  simp only [State.takeRestart]
  repeat' split
  all_goals simp [h, whole]

@[simp] theorem State.restartExpires_kept : x.Keeps (s.restartExpires raised).sizes := by
  simp only [State.restartExpires]
  repeat' split
  all_goals simp [h, whole]

@[simp] theorem State.restartTick_kept : x.Keeps (s.restartTick raised).sizes := by
  simp only [State.restartTick]
  repeat' split
  all_goals simp [h, whole]

@[simp] theorem State.encoderSilent_kept (a : Axis) : x.Keeps (s.encoderSilent a raised).sizes := by
  simp only [State.encoderSilent]
  repeat' split
  all_goals simp [h, whole]

@[simp] theorem State.watchEncoder_kept (a : Axis) (held : Bool) : x.Keeps (s.watchEncoder a held raised).sizes := by
  simp only [State.watchEncoder]
  repeat' split
  all_goals simp [h, whole]

theorem State.expiryDrives_kept : x.Keeps (s.expiryDrives raised).sizes := by simp [State.expiryDrives, h, whole]

end

@[simp] theorem State.recordMayGo_kept (b : Bool) : x.Keeps (s.recordMayGo b).sizes := by simp [h]

@[simp] theorem State.wrapUp_kept : x.Keeps s.wrapUp.sizes := by simp [State.wrapUp, h]

@[simp] theorem State.takeHalt_kept : x.Keeps s.takeHalt.sizes := by
  unfold State.takeHalt
  repeat' split
  all_goals simp [h]

@[simp] theorem State.angleArrives_kept (a : Axis) (raw : Int) (age : Nat) : x.Keeps (s.angleArrives a raw age).sizes := by
  simp only [State.angleArrives]
  repeat' split
  all_goals simp [h]

@[simp] theorem State.reportStatus_kept (a : Axis) (y : DriveStatus) : x.Keeps (s.reportStatus a y).sizes := by
  unfold State.reportStatus
  repeat' split
  all_goals simp [h]

@[simp] theorem State.statusArrives_kept (a : Axis) (status : DriveStatus) (temp : Int) :
    x.Keeps (s.statusArrives a status temp).sizes := by simp [State.statusArrives, h]

@[simp] theorem State.haltLineRises_kept : x.Keeps s.haltLineRises.sizes := by
  unfold State.haltLineRises
  split <;> simp [h]

@[simp] theorem State.countdownExpires_kept (n : Nat) : x.Keeps (s.countdownExpires n).sizes := by
  simp only [State.countdownExpires]
  repeat' split
  all_goals simp [h]

@[simp] theorem State.retryExpires_kept (n : Nat) : x.Keeps (s.retryExpires n).sizes := by
  unfold State.retryExpires
  split <;> simp [h]

@[simp] theorem State.settleTimesOut_kept : x.Keeps s.settleTimesOut.sizes := by
  unfold State.settleTimesOut
  repeat' split
  all_goals simp [h]

@[simp] theorem State.detectorSilent_kept : x.Keeps s.detectorSilent.sizes := by
  unfold State.detectorSilent
  repeat' split
  all_goals simp [h]

@[simp] theorem State.rangeTimesOut_kept : x.Keeps s.rangeTimesOut.sizes := by
  unfold State.rangeTimesOut
  split <;> simp [h]

@[simp] theorem State.trackExpires_kept : x.Keeps s.trackExpires.sizes := by
  unfold State.trackExpires
  repeat' split
  all_goals simp [h]

@[simp] theorem State.dwellExpires_kept : x.Keeps s.dwellExpires.sizes := by
  unfold State.dwellExpires
  repeat' split
  all_goals simp [h]

@[simp] theorem State.leaseExpires_kept : x.Keeps s.leaseExpires.sizes := by
  unfold State.leaseExpires
  split <;> simp [h]

@[simp] theorem State.encoderFallsSilent_kept (a : Axis) : x.Keeps (s.encoderFallsSilent a).sizes := by
  unfold State.encoderFallsSilent
  split <;> simp [h]

@[simp] theorem State.restartTimesOut_kept : x.Keeps s.restartTimesOut.sizes := by
  unfold State.restartTimesOut
  split <;> simp [h]

@[simp] theorem State.axisArrives_kept (a : Axis) : x.Keeps (s.axisArrives a).sizes := by
  simp only [State.axisArrives]
  repeat' split
  all_goals simp [h]

@[simp] theorem State.stopCompletes_kept : x.Keeps s.stopCompletes.sizes := by
  unfold State.stopCompletes
  split <;> simp [h]

@[simp] theorem State.captureCompletes_kept (rawH rawV : Int) : x.Keeps (s.captureCompletes rawH rawV).sizes := by
  unfold State.captureCompletes
  split <;> simp [h]

@[simp] theorem State.levelIsLost_kept : x.Keeps s.levelIsLost.sizes := by
  unfold State.levelIsLost
  split <;> simp [h]

@[simp] theorem State.levelIsRegained_kept : x.Keeps s.levelIsRegained.sizes := by
  unfold State.levelIsRegained
  split <;> simp [h]

@[simp] theorem State.tiltArrives_kept (tl tc : Int) (overrange : Bool) (temp : Int) :
    x.Keeps (s.tiltArrives tl tc overrange temp).sizes := by
  refine State.wrapUp_kept ?_
  rw [State.tiltSources_sizes, State.levelSample_sizes]
  exact h

end

/-! ### The other events -/

section
variable (s : State)

@[simp] theorem State.huntAxis_sizes : s.huntAxis.sizes = s.sizes := rfl

@[simp] theorem State.huntSensor_sizes : s.huntSensor.sizes = s.sizes := rfl

@[simp] theorem State.frameAt_sizes (us : Nat) : (s.frameAt us).sizes = s.sizes := s.advanceTo_sizes us

@[simp] theorem State.buffered_sizes (b : Buffered) : (s.buffered b).sizes = s.sizes := rfl

@[simp] theorem State.linkError_sizes (port : Port) : (s.linkError port).sizes = s.sizes := by
  unfold State.linkError
  split <;> simp

@[simp] theorem State.setSending_sizes (y : Option Sending) : (s.setSending y).sizes = s.sizes := rfl

/-! ### A period expiry and a burn -/

theorem PerAxis.set_lengths {α : Type} (x : PerAxis (List α)) (a : Axis) (n : Nat) (y : α) :
    ((x.set a ((x.get a).set n y)).h.length, (x.set a ((x.get a).set n y)).v.length) = (x.h.length, x.v.length) := by
  cases a <;> simp [PerAxis.set, PerAxis.get]

@[simp] theorem State.completeBurn_sizes (b : Burn) (cell : CellRead) : (s.completeBurn b cell).sizes = s.sizes := by
  unfold State.completeBurn
  split <;> simp [PerAxis.set_lengths]

@[simp] theorem State.burnTick_sizes (cell : CellRead) : (s.burnTick cell).sizes = s.sizes := by
  unfold State.burnTick
  dsimp only
  repeat' split
  all_goals simp

@[simp] theorem State.ageTick_sizes : s.ageTick.sizes = s.sizes := rfl

@[simp] theorem State.expiryCounts_sizes (cell : CellRead) : (s.expiryCounts cell).sizes = s.sizes := by
  simp [State.expiryCounts]

theorem State.expiryRaises_length (cell : CellRead) : (s.expiryRaises cell).records.length = 16 :=
  congrArg Sizes.records (s.clearSummary.expiryCounts_sizes cell)

theorem State.restartRaises_length : s.restartRaises.records.length = 16 :=
  congrArg Sizes.records s.clearSummary.restartBegins_sizes

theorem State.periodExpires_kept (cell : CellRead) : s.sizes.Keeps (s.periodExpires cell).sizes := by
  have length := s.expiryRaises_length cell
  have worked : s.sizes.Keeps (s.expiryWork cell (s.expiryRaises cell)).sizes := by simp [State.expiryWork, length]
  exact State.recordMayGo_kept (State.wrapUpWith_kept (State.expiryDrives_kept worked length) length) _

theorem State.burnCompletes_kept (cell : CellRead) : s.sizes.Keeps (s.burnCompletes cell).sizes := by
  unfold State.burnCompletes
  split <;> simp

theorem State.coldReset_kept : s.sizes.Keeps s.coldReset.sizes := by
  have slots : (s.scs.slotsAfterReset.h.length, s.scs.slotsAfterReset.v.length) = s.sizes.slots := by
    unfold Scs.slotsAfterReset
    split
    · rfl
    · exact PerAxis.set_lengths _ _ _ _
  rw [State.coldReset_eq]
  refine ⟨fun whole => ⟨rfl, rfl, rfl, rfl, rfl, slots.trans ?_⟩, fun _ => Nat.zero_le 4⟩
  obtain ⟨-, -, -, -, -, kept⟩ := whole
  exact kept

end

end Sys2Proof.Machine
end

section
/-! SUPPORT. The requests and the two queues of the controller port, and the statement TablesAndBoundsStayWhole. -/

namespace Sys2Proof.Machine

open Sys2Proof

/-! ### The requests -/

theorem writeRows_length (k : Nat) (rows table : List ZRow) : (writeRows k rows table).length = table.length := by
  induction rows generalizing k table with
  | nil => rfl
  | cons r rs ih => simp [writeRows, ih]

theorem nextGuard_le (locked : Bool) (progress : Nat) (i : Instr) : nextGuard locked progress i ≤ 4 := by
  unfold nextGuard
  split
  · repeat' split
    all_goals omega
  · exact Nat.zero_le 4

section
variable (s : State)

@[simp] theorem State.refuse_state (c : ResultCode) : (s.refuse c).state = s := rfl

@[simp] theorem State.answerDone_state : s.answerDone.state = s := rfl

theorem State.requests_eq : s.requests = s.base.requests := rfl

end

/-- An answer that keeps the sizes and leaves the controller port's queues alone. -/
structure State.Settles (s : State) (a : Answered) : Prop where
  sizes : s.sizes.Keeps a.state.sizes
  requests : a.state.requests = s.requests

theorem State.Settles.refuse (s : State) (c : ResultCode) : s.Settles (s.refuse c) := ⟨.refl _, rfl⟩

section
variable (s : State)

theorem State.takeLoadTarget_settles (n : Nat) (l : TargetLoad) : s.Settles (s.takeLoadTarget n l) := by
  unfold State.takeLoadTarget
  repeat' split
  all_goals exact ⟨by simp, by simp [State.requests_eq]⟩

theorem State.takeLoadStation_settles (l : StationLoad) : s.Settles (s.takeLoadStation l) := by
  unfold State.takeLoadStation
  repeat' split
  all_goals exact ⟨by simp, by simp [State.requests_eq]⟩

theorem State.takeLoadZenith_settles (f l : Nat) (rows : List ZRow) : s.Settles (s.takeLoadZenith f l rows) := by
  unfold State.takeLoadZenith
  repeat' split
  all_goals exact ⟨by simp [writeRows_length], rfl⟩

theorem State.takeLoadSector_settles (a n m : Nat) (y : Int) : s.Settles (s.takeLoadSector a n m y) := by
  unfold State.takeLoadSector
  repeat' split
  all_goals exact ⟨by simp [PerAxis.set_lengths], rfl⟩

theorem State.takeLoadDerate_settles (g : Nat) (l : DerateLoad) : s.Settles (s.takeLoadDerate g l) := by
  unfold State.takeLoadDerate
  repeat' split
  all_goals exact ⟨by simp, by simp [State.requests_eq]⟩

theorem State.takeStart_settles : s.Settles s.takeStart := by
  unfold State.takeStart
  split
  all_goals exact ⟨by simp, by simp [State.requests_eq]⟩

theorem State.takeStop_settles : s.Settles s.takeStop := by
  unfold State.takeStop
  split
  all_goals exact ⟨by simp, rfl⟩

theorem State.takeAim_settles (n : Nat) : s.Settles (s.takeAim n) := by
  unfold State.takeAim
  repeat' split
  all_goals exact ⟨by simp, by simp [State.requests_eq]⟩

theorem State.takePause_settles : s.Settles s.takePause := by
  unfold State.takePause
  split
  all_goals exact ⟨by simp, by simp [State.requests_eq]⟩

theorem State.takeHaltCommand_settles : s.Settles s.takeHaltCommand := by
  unfold State.takeHaltCommand
  split
  all_goals exact ⟨by simp, by simp [State.requests_eq]⟩

theorem State.takeResume_settles : s.Settles s.takeResume := by
  unfold State.takeResume
  repeat' split
  all_goals exact ⟨by simp, by simp [State.requests_eq]⟩

theorem State.takeClear_settles : s.Settles s.takeClear := by
  unfold State.takeClear
  repeat' split
  all_goals exact ⟨by simp, rfl⟩

theorem State.takeAbandon_settles : s.Settles s.takeAbandon := by
  unfold State.takeAbandon
  repeat' split
  all_goals exact ⟨by simp, by simp [State.requests_eq]⟩

theorem State.takeJog_settles (x y : Int) : s.Settles (s.takeJog x y) := by
  unfold State.takeJog
  repeat' split
  all_goals exact ⟨by simp, by simp [State.requests_eq]⟩

theorem State.takePark_settles : s.Settles s.takePark := by
  unfold State.takePark
  repeat' split
  all_goals exact ⟨by simp, by simp [State.requests_eq]⟩

theorem State.takeSettime_settles (t : Nat) : s.Settles (s.takeSettime t) := by
  unfold State.takeSettime
  repeat' split
  all_goals exact ⟨by simp, by simp [State.requests_eq]⟩

theorem State.takeSuspend_settles (n : Nat) : s.Settles (s.takeSuspend n) := by
  unfold State.takeSuspend
  dsimp only
  repeat' split
  all_goals exact ⟨by simp, by simp [State.requests_eq]⟩

theorem State.takeRestore_settles (n : Nat) : s.Settles (s.takeRestore n) := by
  unfold State.takeRestore
  dsimp only
  repeat' split
  all_goals exact ⟨by simp, by simp [State.requests_eq]⟩

theorem State.takeKey_settles (k : Nat) : s.Settles (s.takeKey k) := by
  unfold State.takeKey
  repeat' split
  all_goals exact ⟨.refl _, rfl⟩

theorem State.takeBurn_settles (a n : Nat) (y : Int) : s.Settles (s.takeBurn a n y) := by
  unfold State.takeBurn
  repeat' split
  all_goals exact ⟨by simp, rfl⟩

theorem State.takeRestartCommand_settles : s.Settles s.takeRestartCommand := by
  unfold State.takeRestartCommand
  repeat' split
  all_goals exact ⟨by simp [s.restartRaises_length], by simp [State.requests_eq]⟩

theorem State.takeQueryTarget_settles (n : Nat) : s.Settles (s.takeQueryTarget n) := by
  unfold State.takeQueryTarget
  split
  all_goals exact ⟨.refl _, rfl⟩

theorem State.takeQuerySector_settles (a : Nat) : s.Settles (s.takeQuerySector a) := by
  unfold State.takeQuerySector
  split
  all_goals exact ⟨.refl _, rfl⟩

theorem State.takeQueryNotices_settles : s.Settles s.takeQueryNotices := by
  refine ⟨⟨fun whole => ?_, id⟩, rfl⟩
  obtain ⟨entries, -, rest⟩ := whole
  exact ⟨entries, rfl, rest⟩

/-- Every request keeps the sizes, and none touches the queues of the controller port but by its reply. -/
theorem State.perform_settles (i : Instr) : s.Settles (s.perform i) := by
  cases i
  case loadTarget => exact s.takeLoadTarget_settles _ _
  case loadStation => exact s.takeLoadStation_settles _
  case loadZenith => exact s.takeLoadZenith_settles _ _ _
  case loadSector => exact s.takeLoadSector_settles _ _ _ _
  case loadDerate => exact s.takeLoadDerate_settles _ _
  case start => exact s.takeStart_settles
  case stop => exact s.takeStop_settles
  case aim => exact s.takeAim_settles _
  case pause => exact s.takePause_settles
  case halt => exact s.takeHaltCommand_settles
  case resume => exact s.takeResume_settles
  case clear => exact s.takeClear_settles
  case abandon => exact s.takeAbandon_settles
  case jog => exact s.takeJog_settles _ _
  case park => exact s.takePark_settles
  case settime => exact s.takeSettime_settles _
  case suspend => exact s.takeSuspend_settles _
  case restore => exact s.takeRestore_settles _
  case key => exact s.takeKey_settles _
  case burn => exact s.takeBurn_settles _ _ _
  case restart => exact s.takeRestartCommand_settles
  case queryTarget => exact s.takeQueryTarget_settles _
  case queryNotices => exact s.takeQueryNotices_settles
  case querySector => exact s.takeQuerySector_settles _
  case queryStatus | queryContext | queryQueue => exact ⟨.refl _, rfl⟩
  all_goals exact .refuse s .unknown

end

/-! ### The queues of the controller port -/

/-- What the statement asks of an event from `s` to `t`. -/
structure State.Holds (s t : State) : Prop where
  sizes : s.sizes.Keeps t.sizes
  ports : s.portsBounded → t.portsBounded

theorem State.Holds.refl (s : State) : s.Holds s := ⟨.refl _, id⟩

theorem State.Holds.trans {s t u : State} (h : s.Holds t) (g : t.Holds u) : s.Holds u :=
  ⟨h.sizes.trans g.sizes, fun bounded => g.ports (h.ports bounded)⟩

theorem State.Holds.of_requests {s t : State} (sizes : s.sizes.Keeps t.sizes) (requests : t.requests = s.requests) :
    s.Holds t :=
  ⟨sizes, fun bounded => by rw [State.portsBounded, requests]; exact bounded⟩

/-- What keeps the sizes and the base of a state keeps all that the statement asks. -/
theorem State.Holds.of_base {s t : State} (sizes : s.sizes.Keeps t.sizes) (base : t.base = s.base) : s.Holds t :=
  .of_requests sizes (congrArg Base.requests base)

section
variable (s : State)

theorem State.takeFrame_kept (b : Buffered) : s.sizes.Keeps (s.takeFrame b).sizes := by
  cases b with
  | request i => exact (s.perform_settles i).sizes.guarded (nextGuard_le _ _ _)
  | wrongLength h => exact (Sizes.Keeps.refl s.sizes).guarded (Nat.zero_le 4)

/-- A frame taken adds its reply and leaves the receive buffer alone. -/
theorem State.takeFrame_requests (b : Buffered) :
    ∃ r, (s.takeFrame b).requests = { s.requests with replies := s.requests.replies ++ [r] } := by
  cases b with
  | request i =>
    refine ⟨{ tag := (Instr.hdr i).tag, code := (s.perform i).code, body := (s.perform i).body }, ?_⟩
    rw [State.takeFrame_request, State.answered, (s.perform_settles i).requests]
  | wrongLength h => exact ⟨_, rfl⟩

theorem State.drain_holds (n : Nat) : s.Holds (s.drain n) := by
  induction n generalizing s with
  | zero => exact .refl s
  | succ n ih =>
    unfold State.drain
    split
    · exact .refl s
    · rename_i b rest waiting
      split
      · rename_i place
        have kept := State.takeFrame_kept { s with requests := { s.requests with buffer := rest } } b.frame
        obtain ⟨r, requests⟩ := State.takeFrame_requests { s with requests := { s.requests with buffer := rest } } b.frame
        refine State.Holds.trans (s := s) ⟨kept, fun bounded => ?_⟩ (ih _)
        obtain ⟨-, buffer⟩ := bounded
        rw [waiting, List.length_cons] at buffer
        rw [State.portsBounded, requests]
        exact ⟨by simpa using place, by simpa using Nat.le_of_succ_le buffer⟩
      · exact .refl s

theorem State.linkError_holds (port : Port) : s.Holds (s.linkError port) := by
  refine .of_requests (by simp) ?_
  unfold State.linkError
  split <;> rfl

theorem State.submit_holds (us : Nat) (b : Buffered) : s.Holds (s.submit us b) := by
  have arrives : s.Holds (s.frameAt us) := .of_requests (by simp) (s.frameAt_requests us)
  refine arrives.trans ?_
  unfold State.submit
  dsimp only
  split
  · rename_i place
    have joins : (s.frameAt us).Holds ((s.frameAt us).buffered b) :=
      ⟨by simp, fun bounded => ⟨bounded.1, by simpa [State.buffered] using place⟩⟩
    exact joins.trans (State.drain_holds _ _)
  · exact State.linkError_holds _ _

theorem State.beginReply_holds : s.Holds s.beginReply := by
  unfold State.beginReply
  split
  · rename_i r rest waiting
    split
    · have leaves : s.Holds (({ s with requests := { s.requests with replies := rest } }).setSending (some (.reply r))) := by
        refine ⟨by simp, fun bounded => ⟨?_, bounded.2⟩⟩
        obtain ⟨replies, -⟩ := bounded
        rw [waiting, List.length_cons] at replies
        exact Nat.le_of_succ_le replies
      exact leaves.trans (State.drain_holds _ _)
    · exact .refl s
  · exact .refl s

/-! ### The axis and sensor ports -/

theorem State.tiltArrives_requests (tl tc : Int) (overrange : Bool) (temp : Int) :
    (s.tiltArrives tl tc overrange temp).requests = s.requests := by
  simp [State.requests_eq, State.tiltArrives]

theorem State.receive_holds (i : Instr) : s.Holds (s.receive i) := by
  unfold State.receive
  split
  case h_1 => exact .of_base (by simp) (by simp)
  case h_2 => exact .of_base (by simp) (by simp)
  case h_3 => exact .of_base (by simp) (by simp)
  case h_4 => exact .of_base (by simp) (by simp)
  case h_5 => exact .of_requests (by simp) (s.tiltArrives_requests _ _ _ _)
  case h_6 => exact .refl s

theorem State.layoutChecked_holds (port : Port) (l : Layout) : s.Holds (s.layoutChecked port l) := by
  cases l with
  | notReceived => exact .refl s
  | impossible => exact s.linkError_holds port
  | arrived i => exact s.receive_holds i

theorem State.rxEvent_holds (us : Nat) (port : Port) (e : RxEvent) : s.Holds (s.rxEvent us port e) := by
  cases e with
  | discarded => exact s.linkError_holds port
  | good f =>
    cases port with
    | axis => exact s.layoutChecked_holds _ _
    | sensor => exact s.layoutChecked_holds _ _
    | controller => exact s.submit_holds _ _

theorem State.rxEvents_hold (us : Nat) (port : Port) (es : List RxEvent) :
    s.Holds (es.foldl (fun t e => t.rxEvent us port e) s) := by
  induction es generalizing s with
  | nil => exact .refl s
  | cons e es ih => exact (s.rxEvent_holds us port e).trans (ih _)

theorem State.bytesArrive_holds (us : Nat) (port : Port) (bytes : List Byte) : s.Holds (s.bytesArrive us port bytes) := by
  have arrives : s.Holds (s.advanceTo us) := .of_base (by simp) (by simp)
  exact (arrives.trans (State.rxEvents_hold _ us port _)).trans (.of_requests (.refl _) rfl)

/-! ### The transmitters -/

theorem State.transmitterFree_holds : s.Holds s.transmitterFree :=
  .of_base (by simp [State.transmitterFree]) (State.beginObs_base _)

theorem State.beginAlert_holds : s.Holds s.beginAlert := by
  unfold State.beginAlert
  split
  · exact .of_requests (.refl _) rfl
  · exact .refl s

theorem State.beginDirection_holds : s.Holds s.beginDirection := by
  unfold State.beginDirection
  repeat' split
  all_goals exact .of_requests (.refl _) rfl

theorem State.endReply_holds : s.Holds s.endReply := by
  unfold State.endReply
  split
  · exact s.transmitterFree_holds
  · exact .refl s

theorem State.endAlert_holds : s.Holds s.endAlert := by
  unfold State.endAlert
  split
  · exact s.transmitterFree_holds
  · exact .refl s

theorem State.endObs_holds : s.Holds s.endObs := by
  unfold State.endObs
  split
  · have leaves : s.Holds { s with reports := { s.reports with queue := s.reports.queue.drop 1 } } :=
      .of_requests (.refl _) rfl
    exact (leaves.trans (State.transmitterFree_holds _)).trans (.of_base (by simp) (by simp))
  · exact .refl s

theorem State.endDirection_holds : s.Holds s.endDirection := by
  unfold State.endDirection
  split
  · exact s.transmitterFree_holds
  · exact .refl s

theorem State.beginDrive_holds (a : Axis) : s.Holds (s.beginDrive a) := by
  unfold State.beginDrive
  repeat' split
  all_goals exact .of_requests (.refl _) rfl

theorem State.endDrive_holds (a : Axis) : s.Holds (s.endDrive a) := by
  unfold State.endDrive
  repeat' split
  all_goals exact .of_requests (.refl _) rfl

theorem State.beginShot_holds : s.Holds s.beginShot := by
  unfold State.beginShot
  repeat' split
  all_goals exact .of_requests (.refl _) rfl

/-! ### Every command -/

theorem State.periodExpires_requests (cell : CellRead) : (s.periodExpires cell).requests = s.requests := by
  obtain ⟨_, _, _, ticked⟩ := s.expiryMoves.ageTick.burnTick_base cell
  have base := (s.periodExpires_base cell).trans (ticked.trans (by rw [State.ageTick_base s.expiryMoves_base]))
  exact congrArg Base.requests base

theorem State.burnCompletes_requests (cell : CellRead) : (s.burnCompletes cell).requests = s.requests := by
  unfold State.burnCompletes
  split
  · rename_i b burning
    obtain ⟨_, _, base⟩ := s.completeBurn_base b cell
    rw [State.requests_eq, State.wrapUp_base, State.autoResumeTest_base, base]
    rfl
  · rfl

theorem State.coldReset_holds : s.Holds s.coldReset := by
  refine ⟨s.coldReset_kept, fun _ => ?_⟩
  rw [State.coldReset_eq]
  exact ⟨Nat.zero_le _, Nat.zero_le _⟩

/-- Every command has an outcome, and it keeps what the statement asks. -/
theorem exec_holds (i : Instr) : ∃ t, exec i s = .next t ∧ s.Holds t := by
  have arrives : ∀ us, s.Holds (s.advanceTo us) := fun us => .of_base (by simp) (by simp)
  have axisFrame : ∀ us, s.Holds (s.advanceTo us).huntAxis := fun us => (arrives us).trans (.of_requests (by simp) rfl)
  have sensorFrame : ∀ us, s.Holds (s.advanceTo us).huntSensor := fun us => (arrives us).trans (.of_requests (by simp) rfl)
  cases i
  case coldReset => exact ⟨_, rfl, s.coldReset_holds⟩
  case haltLineAsserted us => exact ⟨_, rfl, (arrives us).trans (.of_base (by simp) (by simp))⟩
  case haltLineReleased us => exact ⟨_, rfl, (arrives us).trans (.of_base (by simp) (by simp))⟩
  case periodExpiry cell => exact ⟨_, rfl, .of_requests (s.periodExpires_kept cell) (s.periodExpires_requests cell)⟩
  case angleFrame us _ _ _ => exact ⟨_, rfl, (axisFrame us).trans (.of_base (by simp) (by simp))⟩
  case driveStatusFrame us _ _ _ => exact ⟨_, rfl, (axisFrame us).trans (.of_base (by simp) (by simp))⟩
  case spotFrame us _ _ => exact ⟨_, rfl, (sensorFrame us).trans (.of_base (by simp) (by simp))⟩
  case rangeFrame us _ _ _ _ _ => exact ⟨_, rfl, (sensorFrame us).trans (.of_base (by simp) (by simp))⟩
  case tiltFrame us _ _ _ _ =>
    exact ⟨_, rfl, (sensorFrame us).trans (.of_requests (by simp) (State.tiltArrives_requests _ _ _ _ _))⟩
  case badFrame => exact ⟨_, rfl, s.bytesArrive_holds _ _ _⟩
  case burnCompletion cell => exact ⟨_, rfl, .of_requests (s.burnCompletes_kept cell) (s.burnCompletes_requests cell)⟩
  case tiltStaleSet => exact ⟨_, rfl, .of_requests (.refl _) rfl⟩
  case replySent m => cases m; exacts [⟨_, rfl, s.beginReply_holds⟩, ⟨_, rfl, s.endReply_holds⟩]
  case alertSent m => cases m; exacts [⟨_, rfl, s.beginAlert_holds⟩, ⟨_, rfl, s.endAlert_holds⟩]
  case obsSent m => cases m; exacts [⟨_, rfl, .of_base (by simp) (by simp)⟩, ⟨_, rfl, s.endObs_holds⟩]
  case directionSent m => cases m; exacts [⟨_, rfl, s.beginDirection_holds⟩, ⟨_, rfl, s.endDirection_holds⟩]
  case driveFrameSent a m => cases m; exacts [⟨_, rfl, s.beginDrive_holds a⟩, ⟨_, rfl, s.endDrive_holds a⟩]
  case shotFrameSent m => cases m; exacts [⟨_, rfl, s.beginShot_holds⟩, ⟨_, rfl, .of_requests (.refl _) rfl⟩]
  case countdownExpiry | retryTimerExpiry | settleTimeout | detectorSilence | rangeTimeout | trackTimerExpiry | dwellExpiry
      | leaseExpiry | sourceStale | encoderSilence | restartTimeout | axisArrival | settleCompletion | stopCompletion
      | captureComplete | dispatch | automaticResume | levelLoss | levelRegained | siteTimeWrap =>
    exact ⟨_, rfl, .of_base (by simp) (by simp)⟩
  all_goals exact ⟨_, rfl, s.submit_holds _ _⟩

end

theorem step_holds {s t : State} (h : step s = .next t) : s.Holds t := by
  cases pending : s.pending with
  | nil =>
    simp only [step, pending] at h
    cases h
    exact .refl s
  | cons c rest =>
    obtain ⟨u, taken, holds⟩ := exec_holds { s with pending := rest } c
    simp only [step, pending, taken] at h
    cases h
    exact ⟨holds.sizes, holds.ports⟩

/-- Settles O5: every operation but a reset, a request and the warm values leaves the sizes as they are. -/
theorem tablesAndBoundsStayWhole : Obligations.TablesAndBoundsStayWhole := by
  refine ⟨fun s t bounded h => (step_holds h).ports bounded, fun s t whole h => ?_,
    fun s t bounded h => (step_holds h).sizes.guard bounded⟩
  rw [State.tablesWhole_iff] at whole ⊢
  exact (step_holds h).sizes.whole whole

end Sys2Proof.Machine
end

section
/-! SUPPORT. What R46 and law 4 speak of (state and deferred flag of every entry, the due queue, the visit in flight, DVC's state with
its cause, and the visits saved), and the operations that leave it as it is or move the visit in flight alone. -/

set_option linter.unusedSimpArgs false

namespace Sys2Proof.Machine

open Sys2Proof

/-- What law 4 reads of an entry. -/
def Entry.row (e : Entry) : EntryState × Bool := (e.state, e.deferred)

/-- What law 4 reads of a pointing: its target and its kind. -/
def Pointing.visit (p : Pointing) : Nat × PointingKind := (p.target, p.kind)

/-- What law 4 reads of a context: its target, and the kind of its pointing part. -/
def Context.visit (c : Context) : Option Nat × Option PointingKind := (c.target, c.part.map (·.kind))

/-- What law 4 reads of a critical record. -/
def CriticalRecord.visit (r : CriticalRecord) : DvcState × Option Nat × Option PointingKind := (r.priorState, r.context.visit)

/-- What R46 and law 4 read of a state. -/
structure Visits where
  rows : List (EntryState × Bool)
  queue : List QueueItem
  flight : Option (Nat × PointingKind)
  mode : DvcState × Cause
  ordinary : Option (Option Nat × Option PointingKind)
  critical : Option (DvcState × Option Nat × Option PointingKind)

/-- The visits of a state. -/
def State.visits (s : State) : Visits :=
  { rows := s.entries.map Entry.row, queue := s.osc.queue, flight := s.pen.pointing.map Pointing.visit,
    mode := (s.dvc.state, s.dvc.cause), ordinary := s.dvc.ordinary.map Context.visit,
    critical := s.dvc.critical.map CriticalRecord.visit }

@[simp] theorem State.visits_mk (stc : Stc) (link : Link) (requests : Requests) (notices : Notices) (reports : Reports)
    (transmit : Transmit) (entries : List Entry) (osc : Osc) (pen : Pen) (squ : Squ) (station : Station) (aru : Aru)
    (scu : Scu) (apg : Apg) (dsl : Dsl) (sdu : Sdu) (dvc : Dvc) (scs : Scs) (pending : List Instr) :
    (State.mk stc link requests notices reports transmit entries osc pen squ station aru scu apg dsl sdu dvc scs
        pending).visits =
      Visits.mk (entries.map Entry.row) osc.queue (pen.pointing.map Pointing.visit) (dvc.state, dvc.cause)
        (dvc.ordinary.map Context.visit) (dvc.critical.map CriticalRecord.visit) := rfl

@[simp] theorem State.visits_eta (s : State) :
    Visits.mk (s.entries.map Entry.row) s.osc.queue (s.pen.pointing.map Pointing.visit) (s.dvc.state, s.dvc.cause)
        (s.dvc.ordinary.map Context.visit) (s.dvc.critical.map CriticalRecord.visit) = s.visits := rfl

section
variable (s : State)

theorem State.visits_flight : s.visits.flight = s.pen.pointing.map Pointing.visit := rfl

theorem State.visits_mode : s.visits.mode = (s.dvc.state, s.dvc.cause) := rfl

theorem State.visits_queue : s.visits.queue = s.osc.queue := rfl

theorem State.visits_ordinary : s.visits.ordinary = s.dvc.ordinary.map Context.visit := rfl

theorem State.visits_critical : s.visits.critical = s.dvc.critical.map CriticalRecord.visit := rfl

theorem State.visits_row (n : Nat) : s.visits.rows.getD n (.empty, false) = (s.entry n).row :=
  List.getD_map s.entries emptyEntry Entry.row

end

/-! ### One block replaced -/

section
variable (s : State)

@[simp] theorem State.setPointing_visits (p : Option Pointing) :
    (s.setPointing p).visits = { s.visits with flight := p.map Pointing.visit } := rfl

@[simp] theorem State.setShot_visits (x : Option Shot) : (s.setShot x).visits = s.visits := rfl

@[simp] theorem State.setAxis_visits (a : Axis) (r : AxisRec) : (s.setAxis a r).visits = s.visits := rfl

@[simp] theorem State.setSettle_visits (t : Option SettleTest) : (s.setSettle t).visits = s.visits := rfl

@[simp] theorem State.setEntry_visits (n : Nat) (e : Entry) :
    (s.setEntry n e).visits = { s.visits with rows := s.visits.rows.set n e.row } := by
  rw [State.setEntry, State.visits_mk, List.map_set]
  rfl

@[simp] theorem State.setSqu_visits (q : Squ) : (s.setSqu q).visits = s.visits := rfl

@[simp] theorem State.setOsc_visits (o : Osc) : (s.setOsc o).visits = { s.visits with queue := o.queue } := rfl

@[simp] theorem State.setDvc_visits (d : Dvc) :
    (s.setDvc d).visits =
      { s.visits with
        mode := (d.state, d.cause), ordinary := d.ordinary.map Context.visit,
        critical := d.critical.map CriticalRecord.visit } := rfl

/-- A change of DVC that law 4 does not read. -/
@[simp] theorem State.visits_dvc_eta :
    { s.visits with
      mode := (s.dvc.state, s.dvc.cause), ordinary := s.dvc.ordinary.map Context.visit,
      critical := s.dvc.critical.map CriticalRecord.visit } = s.visits := rfl

@[simp] theorem State.setJog_visits (j : Jog) : (s.setJog j).visits = s.visits := rfl

@[simp] theorem State.setSource_visits (a : Axis) (x : Source) : (s.setSource a x).visits = s.visits := rfl

@[simp] theorem State.setSlot_visits (a : Axis) (f : Option DriveFrame) : (s.setSlot a f).visits = s.visits := rfl

@[simp] theorem State.setSending_visits (x : Option Sending) : (s.setSending x).visits = s.visits := rfl

@[simp] theorem State.raise_visits (k : NoticeKind) (x : Option Nat) : (s.raise k x).visits = s.visits := rfl

@[simp] theorem State.enterRun_visits :
    s.enterRun.visits = { s.visits with mode := (.run, .none) } := rfl

@[simp] theorem State.setSilence_visits (a : Axis) (n : Nat) : (s.setSilence a n).visits = s.visits := rfl

@[simp] theorem State.setReport_visits (a : Axis) (r : DriveReport) : (s.setReport a r).visits = s.visits := rfl

/-! ### Site time, notices and the ports -/

@[simp] theorem State.moveTimes_visits (δ : Int) : (s.moveTimes δ).visits = s.visits := by
  simp only [State.moveTimes, State.visits_mk, Option.map_map]
  rfl

theorem State.stcUpdate_visits (c : Prop) [Decidable c] (x y : Stc) (δ : Int) :
    (if c then { s with stc := x } else State.moveTimes { s with stc := y } δ).visits = s.visits := by
  split <;> simp

@[simp] theorem State.advanceBy_visits (d : Nat) : (s.advanceBy d).visits = s.visits := by
  unfold State.advanceBy
  exact s.stcUpdate_visits _ _ _ _

@[simp] theorem State.advanceTo_visits (us : Nat) : (s.advanceTo us).visits = s.visits := by
  unfold State.advanceTo
  split <;> simp

@[simp] theorem State.huntAxis_visits : s.huntAxis.visits = s.visits := rfl

@[simp] theorem State.huntSensor_visits : s.huntSensor.visits = s.visits := rfl

@[simp] theorem State.frameAt_visits (us : Nat) : (s.frameAt us).visits = s.visits := s.advanceTo_visits us

@[simp] theorem State.buffered_visits (b : Buffered) : (s.buffered b).visits = s.visits := rfl

@[simp] theorem State.endPeriod_visits : s.endPeriod.visits = s.visits := s.advanceBy_visits _

@[simp] theorem State.siteTimeWraps_visits : s.siteTimeWraps.visits = s.visits := by
  unfold State.siteTimeWraps
  split <;> simp

@[simp] theorem State.raiseEach_visits (k : NoticeKind) (ns : List Nat) : (s.raiseEach k ns).visits = s.visits := by
  rw [State.raiseEach_eq]
  rfl

@[simp] theorem State.raiseMaybe_visits (k : Option NoticeKind) (x : Option Nat) : (s.raiseMaybe k x).visits = s.visits := by
  cases k <;> rfl

@[simp] theorem State.clearSummary_visits : s.clearSummary.visits = s.visits := rfl

@[simp] theorem State.linkError_visits (port : Port) : (s.linkError port).visits = s.visits := by
  unfold State.linkError
  split <;> rfl

@[simp] theorem State.beginObs_visits : s.beginObs.visits = s.visits := by
  obtain h | ⟨_, _, _, _, _, h⟩ := s.beginObs_cases <;> rw [h]
  rfl

@[simp] theorem State.transmitterFree_visits : s.transmitterFree.visits = s.visits := by simp [State.transmitterFree]

@[simp] theorem State.recordMayGo_visits (b : Bool) : (s.recordMayGo b).visits = s.visits := by
  unfold State.recordMayGo
  split <;> simp

/-! ### The axes and the drive selector -/

@[simp] theorem State.enterSettle_visits (p : Pointing) :
    (s.enterSettle p).visits = { s.visits with flight := some p.visit } := rfl

@[simp] theorem State.pointingArrival_visits (a : Axis) : (s.pointingArrival a).visits = s.visits := by
  cases h : s.pen.pointing with
  | none => simp [State.pointingArrival, h]
  | some p =>
    have flight : { s.visits with flight := some p.visit } = s.visits := by
      rw [show some p.visit = s.visits.flight by rw [State.visits_flight, h]; rfl]
    simp only [State.pointingArrival, h]
    split
    · split <;> exact flight
    · rfl

@[simp] theorem State.reportArrival_visits (a : Axis) (q : Requester) : (s.reportArrival a q).visits = s.visits := by
  unfold State.reportArrival
  split <;> simp

@[simp] theorem State.retarget_visits (a : Axis) (sp : Int) (q : Requester) : (s.retarget a sp q).visits = s.visits := by
  simp only [State.retarget]
  split <;> simp

@[simp] theorem State.stopAxis_visits (a : Axis) (q : Requester) : (s.stopAxis a q).visits = s.visits := rfl

@[simp] theorem State.stopIfMoving_visits (a : Axis) (q : Requester) : (s.stopIfMoving a q).visits = s.visits := by
  unfold State.stopIfMoving
  split <;> simp

@[simp] theorem State.holdAxis_visits (a : Axis) : (s.holdAxis a).visits = s.visits := by
  unfold State.holdAxis
  repeat' split
  all_goals simp

@[simp] theorem State.releaseAxis_visits (a : Axis) (want : Source) : (s.releaseAxis a want).visits = s.visits := by
  simp only [State.releaseAxis]
  split <;> simp

@[simp] theorem State.chooseAxis_visits (atExpiry : Bool) (a : Axis) : (s.chooseAxis atExpiry a).visits = s.visits := by
  simp only [State.chooseAxis]
  repeat' split
  all_goals simp

@[simp] theorem State.choose_visits : s.choose.visits = s.visits := by simp [State.choose]

@[simp] theorem State.chooseAtExpiry_visits : s.chooseAtExpiry.visits = s.visits := by simp [State.chooseAtExpiry]

@[simp] theorem State.jogTest_visits : s.jogTest.visits = s.visits := by
  unfold State.jogTest
  repeat' split
  all_goals simp

@[simp] theorem State.jogAxis_visits (a : Axis) (j : Int) : (s.jogAxis a j).visits = s.visits := by
  unfold State.jogAxis
  split <;> simp

@[simp] theorem State.stopJog_visits (speed : PerAxis Int) : (s.stopJog speed).visits = s.visits := by
  simp [State.stopJog]

@[simp] theorem State.extendJog_visits (j : Int) : (s.extendJog j).visits = s.visits := by
  unfold State.extendJog
  split <;> simp

@[simp] theorem State.jogTick_visits : s.jogTick.visits = s.visits := by
  unfold State.jogTick
  repeat' split
  all_goals simp

@[simp] theorem State.stepAxis_visits (a : Axis) : (s.stepAxis a).visits = s.visits := by
  simp only [State.stepAxis]
  split <;> simp

@[simp] theorem State.formDrives_visits : s.formDrives.visits = s.visits := rfl

@[simp] theorem State.holdBoth_visits : s.holdBoth.visits = s.visits := by
  simp only [State.holdBoth]
  repeat' split
  all_goals simp

@[simp] theorem State.stopAfterPointing_visits : s.stopAfterPointing.visits = s.visits := by
  unfold State.stopAfterPointing
  split <;> simp

/-! ### The sensors and the stores -/

@[simp] theorem State.offer_visits (source : DerateSource) (x : Int) : (s.offer source x).visits = s.visits := rfl

theorem State.noticeFraction_visits (before after : State) : (State.noticeFraction before after).visits = after.visits := by
  unfold State.noticeFraction
  split <;> simp

@[simp] theorem State.driveTempArrives_visits (a : Axis) (temp : Int) : (s.driveTempArrives a temp).visits = s.visits := by
  simp [State.driveTempArrives, State.noticeFraction_visits]

@[simp] theorem State.tiltSources_visits (temp : Int) : (s.tiltSources temp).visits = s.visits := by
  simp [State.tiltSources, State.noticeFraction_visits]

@[simp] theorem State.sourceGoesStale_visits (y : DerateSource) : (s.sourceGoesStale y).visits = s.visits := by
  cases y <;> rfl

@[simp] theorem State.ageTick_visits : s.ageTick.visits = s.visits := rfl

@[simp] theorem State.completeBurn_visits (b : Burn) (cell : CellRead) : (s.completeBurn b cell).visits = s.visits := by
  simp only [State.completeBurn]
  split <;> simp

@[simp] theorem State.feedSample_visits (x : Sample) : (s.feedSample x).visits = s.visits := by
  simp only [State.feedSample]
  repeat' split
  all_goals simp

@[simp] theorem State.suspectTest_visits (n : Nat) (x : Deviations) : (s.suspectTest n x).visits = s.visits := by
  unfold State.suspectTest
  split <;> simp
  rfl

end

/-! ### The pointing in flight -/

section
variable {s : State} {p : Pointing}

theorem State.visits_of_flight (h : s.pen.pointing = some p) : { s.visits with flight := some p.visit } = s.visits := by
  rw [show some p.visit = s.visits.flight by rw [State.visits_flight, h]; rfl]

theorem State.visits_of_idle (h : s.pen.pointing = none) : { s.visits with flight := none } = s.visits := by
  rw [show none = s.visits.flight by rw [State.visits_flight, h]; rfl]

theorem State.mapPointing_visits (s : State) (f : Pointing → Pointing) (h : ∀ p, (f p).visit = p.visit) :
    { s.visits with flight := (s.pen.pointing.map f).map Pointing.visit } = s.visits := by
  rw [Option.map_map, show Pointing.visit ∘ f = Pointing.visit from funext h]
  rfl

@[simp] theorem State.releaseSlot_visits (s : State) : s.releaseSlot.visits = s.visits :=
  s.mapPointing_visits _ fun _ => rfl

@[simp] theorem State.withdrawShot_visits (s : State) : s.withdrawShot.visits = s.visits := by
  unfold State.withdrawShot
  split
  · exact s.mapPointing_visits _ fun _ => rfl
  · rfl

@[simp] theorem State.freeze_visits (s : State) : s.freeze.visits = s.visits := by
  unfold State.freeze
  split
  · exact State.visits_of_flight (p := ‹Pointing›) ‹_›
  · rfl

@[simp] theorem State.pointAxes_visits (s : State) (p : Pointing) :
    (s.pointAxes p).visits = { s.visits with flight := some p.visit } := by
  simp only [State.pointAxes, State.retarget_visits]
  rfl

@[simp] theorem State.launch_visits (s : State) (p : Pointing) :
    (s.launch p).visits = { s.visits with flight := some p.visit } := by
  simp [State.launch]

@[simp] theorem State.beginPointing_visits (s : State) (n : Nat) (kind : PointingKind) :
    (s.beginPointing n kind).visits = { s.visits with flight := some (n, kind) } := by
  simp [State.beginPointing, newPointing, Pointing.visit]

@[simp] theorem State.startLeg_visits (s : State) (p : Pointing) (n : Nat) :
    (s.startLeg p n).visits = { s.visits with flight := some p.visit } := by
  simp [State.startLeg, Pointing.visit]

@[simp] theorem State.fire_visits (s : State) (p : Pointing) :
    (s.fire p).visits = { s.visits with flight := some p.visit } := rfl

@[simp] theorem State.tryShot_visits (s : State) : s.tryShot.visits = s.visits := by
  unfold State.tryShot
  split
  · rfl
  · rename_i p h
    split
    · exact State.visits_of_flight h
    · rfl

@[simp] theorem State.settled_visits (s : State) (time : Int) : (s.settled time).visits = s.visits := by
  simp only [State.settled, State.setSettle_pen]
  split
  · rfl
  · split
    · exact State.visits_of_flight (p := ‹Pointing›) ‹_›
    · rfl

@[simp] theorem State.settleSample_visits (s : State) (a : Axis) (x : Sample) : (s.settleSample a x).visits = s.visits := by
  simp only [State.settleSample]
  repeat' split
  all_goals simp

@[simp] theorem State.settleCompletes_visits (s : State) (time : Int) : (s.settleCompletes time).visits = s.visits := by
  unfold State.settleCompletes
  split <;> simp

@[simp] theorem State.trackRunsOut_visits (s : State) : s.trackRunsOut.visits = s.visits := by
  unfold State.trackRunsOut
  split <;> simp

@[simp] theorem State.acquireEmpty_visits (s : State) (p : Pointing) (count : Nat) :
    (s.acquireEmpty p count).visits = { s.visits with flight := some p.visit } := by
  simp only [State.acquireEmpty]
  split
  · exact State.startLeg_visits _ p 1
  · rfl

@[simp] theorem State.lockAt_visits (s : State) (p : Pointing) (count : Nat) (o : Offset) :
    (s.lockAt p count o).visits = { s.visits with flight := some p.visit } := by
  simp only [State.lockAt]
  split <;> rfl

@[simp] theorem State.fineRetarget_visits (s : State) (p : Pointing) (o : Offset) :
    (s.fineRetarget p o).visits = { s.visits with flight := some p.visit } := by
  simp only [State.fineRetarget, State.retarget_visits]
  rfl

@[simp] theorem State.enterStopping_visits (s : State) (cause : Cause) :
    (s.enterStopping cause).visits = { s.visits with mode := (.stopping, cause) } := by
  simp only [State.enterStopping, State.stopAxis_visits, State.freeze_visits]
  rfl

end

end Sys2Proof.Machine
end

section
/-! SUPPORT. The due queue (R45 to R48): an enqueue adds the numbers handed and no other, and keeps the order of R46. -/

namespace Sys2Proof.Machine

open Sys2Proof

/-! ### The order of R46 -/

theorem QueueItem.before_iff (a b : QueueItem) :
    a.before b = true ↔
      a.priority < b.priority
        ∨ (a.priority = b.priority ∧ (a.seq < b.seq ∨ (a.seq = b.seq ∧ a.target < b.target))) := by
  simp [QueueItem.before]

theorem QueueItem.not_before_iff (a b : QueueItem) :
    a.before b = false ↔
      ¬(a.priority < b.priority
        ∨ (a.priority = b.priority ∧ (a.seq < b.seq ∨ (a.seq = b.seq ∧ a.target < b.target)))) := by
  rw [← QueueItem.before_iff, Bool.not_eq_true]

theorem QueueItem.not_before_of_before {a b : QueueItem} (h : a.before b = true) : b.before a = false := by
  rw [QueueItem.before_iff] at h
  rw [QueueItem.not_before_iff]
  omega

theorem QueueItem.not_before_trans {a b c : QueueItem} (h : b.before a = false) (g : c.before b = false) :
    c.before a = false := by
  rw [QueueItem.not_before_iff] at *
  omega

/-- A list of queued numbers in the order of R46. -/
def Ordered (q : List QueueItem) : Prop := q.Pairwise fun a b => b.before a = false

theorem Ordered.filter {q : List QueueItem} (h : Ordered q) (f : QueueItem → Bool) : Ordered (q.filter f) :=
  List.Pairwise.filter f h

/-! ### A number put in its place -/

theorem insertItem_perm (x : QueueItem) (q : List QueueItem) : (insertItem x q).Perm (x :: q) := by
  induction q with
  | nil => exact .refl _
  | cons y ys ih =>
    unfold insertItem
    split
    · exact .refl _
    · exact (ih.cons y).trans (.swap x y ys)

theorem insertItem_ordered (x : QueueItem) {q : List QueueItem} (h : Ordered q) : Ordered (insertItem x q) := by
  induction q with
  | nil => exact List.pairwise_singleton _ _
  | cons y ys ih =>
    obtain ⟨first, rest⟩ := List.pairwise_cons.mp h
    unfold insertItem
    split
    · rename_i ahead
      refine List.pairwise_cons.mpr ⟨fun z hz => ?_, h⟩
      rcases List.mem_cons.mp hz with rfl | hz
      · exact QueueItem.not_before_of_before ahead
      · exact QueueItem.not_before_trans (QueueItem.not_before_of_before ahead) (first z hz)
    · rename_i behind
      refine List.pairwise_cons.mpr ⟨fun z hz => ?_, ih rest⟩
      rcases List.mem_cons.mp ((insertItem_perm x ys).mem_iff.mp hz) with rfl | hz
      · exact Bool.not_eq_true _ ▸ behind
      · exact first z hz

/-- The queue after several numbers are put in their places. -/
def insertAll (item : Nat → QueueItem) (nums : List Nat) (q : List QueueItem) : List QueueItem :=
  nums.foldl (fun q n => insertItem (item n) q) q

theorem insertAll_ordered (item : Nat → QueueItem) (nums : List Nat) {q : List QueueItem} (h : Ordered q) :
    Ordered (insertAll item nums q) := by
  induction nums generalizing q with
  | nil => exact h
  | cons n ns ih => exact ih (insertItem_ordered _ h)

theorem insertAll_perm (item : Nat → QueueItem) (nums : List Nat) (q : List QueueItem) :
    (insertAll item nums q).Perm (nums.map item ++ q) := by
  induction nums generalizing q with
  | nil => exact .refl _
  | cons n ns ih =>
    calc (insertAll item ns (insertItem (item n) q)).Perm (ns.map item ++ insertItem (item n) q) := ih _
      List.Perm _ (ns.map item ++ item n :: q) := (insertItem_perm _ _).append_left _
      List.Perm _ (item n :: (ns.map item ++ q)) := List.perm_middle

/-! ### The renumbering (R47) -/

theorem mem_distinct (n : Nat) (l : List Nat) : n ∈ distinct l ↔ n ∈ l := by
  induction l generalizing n with
  | nil => exact Iff.rfl
  | cons x xs ih =>
    unfold distinct
    split
    · rename_i again
      rw [ih, List.mem_cons]
      exact ⟨.inr, fun h => h.elim (fun same => same ▸ (ih x).mp again) id⟩
    · rw [List.mem_cons, List.mem_cons, ih]

/-- How many of some values lie below a bound. -/
def below (vals : List Nat) (k : Nat) : Nat := (vals.filter (· < k)).length

theorem below_le (vals : List Nat) {j k : Nat} (h : j ≤ k) : below vals j ≤ below vals k := by
  refine (List.monotone_filter_right vals fun x hx => ?_).length_le
  simp only [decide_eq_true_eq] at hx ⊢
  omega

theorem below_cons (x : Nat) (xs : List Nat) (k : Nat) : below (x :: xs) k = (if x < k then 1 else 0) + below xs k := by
  unfold below
  rw [List.filter_cons]
  by_cases h : x < k <;> simp [h, Nat.add_comm]

theorem below_lt {vals : List Nat} {j k : Nat} (h : j < k) (mem : j ∈ vals) : below vals j < below vals k := by
  induction vals with
  | nil => cases mem
  | cons x xs ih =>
    have rest : below xs j ≤ below xs k := below_le xs h.le
    rw [below_cons, below_cons]
    rcases List.mem_cons.mp mem with rfl | mem
    · rw [if_neg (Nat.lt_irrefl _), if_pos h]
      omega
    · have := ih mem
      split <;> split <;> omega

theorem renumber_eq (q : List QueueItem) :
    renumber q = q.map fun x => { x with seq := below (distinct (q.map (·.seq))) x.seq } := rfl

theorem renumber_targets (q : List QueueItem) : (renumber q).map (·.target) = q.map (·.target) := by
  rw [renumber_eq, List.map_map]
  rfl

/-- The renumbering keeps every comparison of two queued numbers, and so the order. -/
theorem renumber_ordered {q : List QueueItem} (h : Ordered q) : Ordered (renumber q) := by
  rw [renumber_eq, Ordered, List.pairwise_map]
  refine List.Pairwise.imp_of_mem (fun {a b} ha _ before => ?_) h
  have seen : a.seq ∈ distinct (q.map (·.seq)) := (mem_distinct _ _).mpr (List.mem_map_of_mem ha)
  have lt : a.seq < b.seq → _ := fun lt => below_lt lt seen
  have le : b.seq ≤ a.seq → _ := below_le (distinct (q.map (·.seq)))
  rw [QueueItem.not_before_iff] at before ⊢
  dsimp only
  intro bad
  have le' : a.seq ≤ b.seq → _ := below_le (distinct (q.map (·.seq)))
  rcases Nat.lt_trichotomy a.seq b.seq with x | x | x
  · have := lt x
    omega
  · rw [x] at bad
    omega
  · omega

/-! ### An enqueue (R45, R47) -/

/-- The numbers queued after an enqueue: those handed and those queued before. -/
theorem State.enqueue_targets (s : State) (nums : List Nat) :
    ((s.enqueue nums).osc.queue.map (·.target)).Perm (nums ++ s.osc.queue.map (·.target)) := by
  have perm (item : Nat → QueueItem) (same : ∀ n, (item n).target = n) :
      ((insertAll item nums s.osc.queue).map (·.target)).Perm (nums ++ s.osc.queue.map (·.target)) := by
    have h := (insertAll_perm item nums s.osc.queue).map (·.target)
    rwa [List.map_append, List.map_map, show (QueueItem.target ∘ item) = id from funext same, List.map_id] at h
  unfold State.enqueue
  split
  · subst nums
    exact .refl _
  · dsimp only
    split
    · exact perm _ fun _ => rfl
    · rw [State.setOsc_osc, renumber_targets]
      exact perm _ fun _ => rfl

@[simp] theorem State.enqueue_ordered {s : State} (h : Ordered s.osc.queue) (nums : List Nat) :
    Ordered (s.enqueue nums).osc.queue := by
  unfold State.enqueue
  split
  · exact h
  · dsimp only
    split
    · exact insertAll_ordered _ nums h
    · exact renumber_ordered (insertAll_ordered _ nums h)

@[simp] theorem State.enqueue_visits (s : State) (nums : List Nat) :
    (s.enqueue nums).visits = { s.visits with queue := (s.enqueue nums).osc.queue } := by
  rw [s.enqueue_eq nums]
  rfl

@[simp] theorem State.unqueue_visits (s : State) (n : Nat) :
    (s.unqueue n).visits = { s.visits with queue := s.osc.queue.filter fun x => x.target ≠ n } := rfl


end Sys2Proof.Machine
end

section
/-! SUPPORT. Law 4 on the visits of a state, in two halves: what the table and the queue owe the visits (R25, R44), and where visits
stand (R148). A visit that has just ended is loose until its outcome is delivered. -/

namespace Sys2Proof.Machine

open Sys2Proof

/-! ### The two halves of law 4 -/

/-- State and deferred flag of entry `n`. -/
def Visits.row (v : Visits) (n : Nat) : EntryState × Bool := v.rows.getD n (.empty, false)

/-- A visit of this kind at entry `n` is in flight or saved. -/
def Visits.Holds (v : Visits) (n : Nat) (k : PointingKind) : Prop :=
  v.flight = some (n, k) ∨ v.ordinary = some (some n, some k) ∨ ∃ d, v.critical = some (d, some n, some k)

/-- A visit of this kind at entry `n` is in flight, saved, or loose. -/
def Visits.Owns (v : Visits) (loose : Option (Nat × PointingKind)) (n : Nat) (k : PointingKind) : Prop :=
  v.Holds n k ∨ loose = some (n, k)

/-- What the target table and the due queue owe the visits, one of which may be loose. -/
structure Visits.Table (v : Visits) (loose : Option (Nat × PointingKind)) : Prop where
  once : (v.queue.map (·.target)).Nodup
  queued : ∀ n, n ∈ v.queue.map (·.target) ↔ v.row n = (.due, false)
  active : ∀ n, v.Owns loose n .scheduled → (v.row n).1 = .active
  engaged : ∀ n, v.Owns loose n .oneOff →
    (v.row n).1 ≠ .active ∧ (v.row n).1 ≠ .backoff ∧ ((v.row n).1 = .due → (v.row n).2 = true)
  deferred : ∀ n, (v.row n).2 = true → (v.row n).1 = .due ∧ v.Owns loose n .oneOff
  alone : ∀ n k, loose = some (n, k) → ∀ k', ¬v.Holds n k'

/-- Where visits stand (R148). -/
structure Visits.OneVisit (v : Visits) : Prop where
  flying : v.flight ≠ none → v.mode.1 = .run ∨ (v.mode.1 = .stopping ∧ v.mode.2 ≠ .restart)
  free : v.mode.1 = .run ∨ v.mode.1 = .halted ∨ (v.mode.1 = .stopping ∧ v.mode.2 ≠ .restart) →
    v.ordinary = none ∧ v.critical = none
  held : v.mode.1 = .held → v.critical = none
  ordinary : ∀ c, v.ordinary = some c → (c.1.isSome ↔ c.2.isSome)
  fromHeld : ∀ r, v.critical = some r → r.1 = .held → r.2.2 = none ∧ r.2.1 = v.ordinary.bind (·.1)
  alone : ∀ r, v.critical = some r → r.1 ≠ .held → v.ordinary = none ∧ (r.2.1.isSome ↔ r.2.2.isSome)
  fromHalted : ∀ r, v.critical = some r → r.1 = .halted → r.2 = (none, none)

/-- Law 4. -/
structure Visits.Law (v : Visits) : Prop where
  table : v.Table none
  visit : v.OneVisit

section
variable (s : State)

theorem State.row_eq (n : Nat) : s.visits.row n = (s.entry n).row := s.visits_row n

theorem State.holds_iff (n : Nat) (k : PointingKind) : s.visits.Holds n k ↔ s.holdsAt n k := by
  have flight : s.visits.flight = some (n, k) ↔ ∃ p, s.pen.pointing = some p ∧ p.target = n ∧ p.kind = k := by
    simp [State.visits_flight, Pointing.visit]
  have ordinary : s.visits.ordinary = some (some n, some k) ↔
      ∃ c x, s.dvc.ordinary = some c ∧ c.target = some n ∧ c.part = some x ∧ x.kind = k := by
    simp [State.visits_ordinary, Context.visit]
  have critical : (∃ d, s.visits.critical = some (d, some n, some k)) ↔
      ∃ r x, s.dvc.critical = some r ∧ r.context.target = some n ∧ r.context.part = some x ∧ x.kind = k := by
    simp [State.visits_critical, CriticalRecord.visit, Context.visit]
  rw [Visits.Holds, flight, ordinary, critical, State.holdsAt]

theorem State.oneVisit_iff : s.OneVisit ↔ s.visits.OneVisit := by
  constructor <;> intro ⟨flying, free, held, ordinary, fromHeld, alone, fromHalted⟩
  all_goals
    constructor
    case flying => cases h : s.pen.pointing <;> simp_all [State.visits_flight, State.visits_mode]
    case free => simpa [State.visits_mode, State.visits_ordinary, State.visits_critical] using free
    case held => simpa [State.visits_mode, State.visits_critical] using held
    case ordinary => simpa [State.visits_ordinary, Context.visit] using ordinary
    case fromHeld =>
      simpa [State.visits_ordinary, State.visits_critical, Context.visit, CriticalRecord.visit, Option.bind_map,
        Function.comp_def] using fromHeld
    case alone =>
      simpa [State.visits_ordinary, State.visits_critical, Context.visit, CriticalRecord.visit] using alone
    case fromHalted => simpa [State.visits_critical, Context.visit, CriticalRecord.visit] using fromHalted

/-- Law 4 is a property of the visits: a number queued is no visit's target, as its entry is DUE and not deferred. -/
theorem State.queueLaw_iff : s.QueueLaw ↔ s.visits.Law := by
  have queue (n : Nat) : n ∈ s.visits.queue.map (·.target) ↔ ∃ x ∈ s.osc.queue, x.target = n := List.mem_map
  have row (n : Nat) : s.visits.row n = (.due, false) ↔ (s.entry n).state = .due ∧ (s.entry n).deferred = false := by
    rw [s.row_eq, Entry.row, Prod.mk.injEq]
  have owns (n : Nat) (k : PointingKind) : s.visits.Owns none n k ↔ s.holdsAt n k := by
    rw [Visits.Owns, s.holds_iff]
    simp
  constructor
  · intro h
    refine ⟨⟨h.once, fun n => ?_, fun n g => ?_, fun n g => ?_, fun n g => ?_, nofun⟩, s.oneVisit_iff.mp h.visit⟩
    · rw [queue, row, h.queued]
    · rw [s.row_eq]
      exact h.active n ((owns n _).mp g)
    · rw [s.row_eq]
      exact h.engaged n ((owns n _).mp g)
    · rw [s.row_eq] at g ⊢
      rw [owns]
      exact h.deferred n g
  · rintro ⟨table, visit⟩
    have one := s.oneVisit_iff.mpr visit
    have active : ∀ n, s.holdsAt n .scheduled → (s.entry n).state = .active := fun n g => by
      have := table.active n ((owns n _).mpr g)
      rwa [s.row_eq] at this
    have engaged : ∀ n, s.holdsAt n .oneOff → (s.entry n).state ≠ .active ∧ (s.entry n).state ≠ .backoff
        ∧ ((s.entry n).state = .due → (s.entry n).deferred = true) := fun n g => by
      have := table.engaged n ((owns n _).mpr g)
      rwa [s.row_eq] at this
    have queued : ∀ n, (∃ x ∈ s.osc.queue, x.target = n) ↔ (s.entry n).state = .due ∧ (s.entry n).deferred = false :=
      fun n => by rw [← queue, table.queued, row]
    have apart : ∀ x ∈ s.osc.queue, ∀ k, ¬s.holdsAt x.target k := fun x mem k g => by
      obtain ⟨due, now⟩ := (queued _).mp ⟨x, mem, rfl⟩
      cases k with
      | scheduled => exact absurd ((active _ g).symm.trans due) (by decide)
      | oneOff => exact absurd (((engaged _ g).2.2 due).symm.trans now) (by decide)
    have context : ∀ x ∈ s.osc.queue, ∀ c, s.dvc.ordinary = some c → c.target ≠ some x.target := fun x mem c hc target => by
      obtain ⟨part, hp⟩ := Option.isSome_iff_exists.mp ((one.ordinary c hc).mp (by rw [target]; rfl))
      exact apart x mem _ (.inr (.inl ⟨c, part, hc, target, hp, rfl⟩))
    refine ⟨table.once, fun x mem => ⟨fun p hp target => ?_, context x mem, fun r hr target => ?_⟩, queued, active, engaged,
      fun n g => ?_, one⟩
    · exact apart x mem _ (.inl ⟨p, hp, target, rfl⟩)
    · by_cases held : r.priorState = .held
      · obtain ⟨-, same⟩ := one.fromHeld r hr held
        rw [target] at same
        obtain ⟨c, hc, hct⟩ := Option.bind_eq_some_iff.mp same.symm
        exact context x mem c hc hct
      · obtain ⟨-, both⟩ := one.alone r hr held
        obtain ⟨part, hp⟩ := Option.isSome_iff_exists.mp (both.mp (by rw [target]; rfl))
        exact apart x mem _ (.inr (.inr ⟨r, part, hr, target, hp, rfl⟩))
    · have := table.deferred n (by rwa [s.row_eq])
      rwa [s.row_eq, owns] at this

end

end Sys2Proof.Machine
end

section
/-! SUPPORT. What the end of a visit, the contexts' freeing, the warm values and a change of one entry make of law 4. -/

namespace Sys2Proof.Machine

open Sys2Proof

/-! ### The table's half -/

section
variable {v w : Visits} {loose : Option (Nat × PointingKind)}

/-- The table's half depends on the rows, the queue and the owners of visits alone. -/
theorem Visits.Table.congr {loose' : Option (Nat × PointingKind)} (h : v.Table loose) (rows : w.rows = v.rows)
    (queue : w.queue = v.queue) (owns : ∀ n k, w.Owns loose' n k ↔ v.Owns loose n k)
    (alone : ∀ n k, loose' = some (n, k) → ∀ k', ¬w.Holds n k') : w.Table loose' := by
  have row : w.row = v.row := by unfold Visits.row; rw [rows]
  have owns : w.Owns loose' = v.Owns loose := funext fun n => funext fun k => propext (owns n k)
  constructor
  · rw [queue]; exact h.once
  · rw [queue, row]; exact h.queued
  · rw [owns, row]; exact h.active
  · rw [owns, row]; exact h.engaged
  · rw [owns, row]; exact h.deferred
  · exact alone

/-- Visits that are held alike owe alike. -/
theorem Visits.Table.of_holds (h : v.Table none) (rows : w.rows = v.rows) (queue : w.queue = v.queue)
    (holds : ∀ n k, w.Holds n k ↔ v.Holds n k) : w.Table none :=
  h.congr rows queue (fun n k => by rw [Visits.Owns, Visits.Owns, holds]) nofun

/-- A number queued is the target of no visit. -/
theorem Visits.Table.not_owned (h : v.Table loose) {n : Nat} (queued : v.row n = (.due, false)) (k : PointingKind) :
    ¬v.Owns loose n k := fun owned => by
  cases k with
  | scheduled => exact absurd (h.active n owned) (by rw [queued]; decide)
  | oneOff => exact absurd ((h.engaged n owned).2.2 (by rw [queued])) (by rw [queued]; decide)

/-- A change of the one entry `n`, which no visit names afterwards, with its number put into or taken out of the queue. -/
theorem Visits.Table.place (h : v.Table loose) {n : Nat} (only : ∀ m k, loose = some (m, k) → m = n)
    (free : ∀ k, ¬v.Holds n k) (holds : ∀ m k, w.Holds m k ↔ v.Holds m k) (rest : ∀ m, m ≠ n → w.row m = v.row m)
    (idle : (w.row n).2 = false) (once : (w.queue.map (·.target)).Nodup)
    (mem : ∀ m, m ∈ w.queue.map (·.target) ↔ (m ≠ n ∧ m ∈ v.queue.map (·.target)) ∨ (m = n ∧ w.row n = (.due, false))) :
    w.Table none := by
  have owned : ∀ m k, w.Owns none m k → m ≠ n ∧ v.Owns loose m k := fun m k owned => by
    have held := (holds m k).mp (owned.resolve_right nofun)
    exact ⟨fun same => free k (same ▸ held), .inl held⟩
  refine ⟨once, fun m => ?_, fun m g => ?_, fun m g => ?_, fun m g => ?_, nofun⟩
  · rw [mem, h.queued]
    by_cases same : m = n
    · subst same
      simp
    · simp [same, rest m same]
  · obtain ⟨other, g⟩ := owned m _ g
    rw [rest m other]
    exact h.active m g
  · obtain ⟨other, g⟩ := owned m _ g
    rw [rest m other]
    exact h.engaged m g
  · have other : m ≠ n := fun same => by
      rw [same, idle] at g
      cases g
    rw [rest m other] at g ⊢
    obtain ⟨due, held | same⟩ := h.deferred m g
    · exact ⟨due, .inl ((holds m _).mpr held)⟩
    · exact absurd (only m _ same) other

end

/-! ### One entry replaced -/

section
variable {s : State} {n : Nat}

theorem getD_set {α : Type} {l : List α} (inside : n < l.length) (m : Nat) (x d : α) :
    (l.set n x).getD m d = if m = n then x else l.getD m d := by
  by_cases same : m = n
  · subst same
    simp [List.getD_eq_getElem?_getD, inside]
  · simp [List.getD_eq_getElem?_getD, same, Ne.symm same]

theorem State.row_setEntry_other {m : Nat} (h : m ≠ n) (e : Entry) : (s.setEntry n e).visits.row m = s.visits.row m := by
  simp [Visits.row, List.getD_eq_getElem?_getD, h.symm]

theorem State.row_setEntry_same (inside : n < s.entries.length) (e : Entry) : (s.setEntry n e).visits.row n = e.row := by
  have : n < s.visits.rows.length := (List.length_map _).symm ▸ inside
  simp [Visits.row, List.getD_eq_getElem?_getD, this]

/-- An entry that is not EMPTY stands in the table. -/
theorem State.lt_of_entry (h : (s.entry n).state ≠ .empty) : n < s.entries.length := by
  by_contra out
  rw [State.entry, List.getD_eq_default _ _ (Nat.le_of_not_lt out)] at h
  exact h rfl

theorem State.entry_of_le (out : s.entries.length ≤ n) : s.entry n = emptyEntry := List.getD_eq_default _ _ out

theorem State.row_setEntry_out (out : s.entries.length ≤ n) (e : Entry) : (s.setEntry n e).visits.row n = (.empty, false) := by
  rw [State.row_eq, State.entry_of_le (by simpa using out)]
  rfl

/-- An entry whose state and deferred flag stay leaves the visits as they are. -/
theorem State.setEntry_sameRow {e : Entry} (h : e.row = (s.entry n).row) : (s.setEntry n e).visits = s.visits := by
  rw [State.setEntry_visits, h, ← State.visits_row]
  rcases Nat.lt_or_ge n s.visits.rows.length with inside | out
  · rw [List.getD_eq_getElem _ _ inside, List.set_getElem_self]
  · rw [List.set_eq_of_length_le out]

/-- An entry replaced that no visit names, whose number is not queued before or after. -/
theorem State.setEntry_table {x : Option (Nat × PointingKind)} (h : s.visits.Table x) (only : ∀ m k, x = some (m, k) → m = n)
    (free : ∀ k, ¬s.visits.Holds n k) {e : Entry} (before : (s.entry n).row ≠ (.due, false)) (after : e.row ≠ (.due, false))
    (idle : e.deferred = false) : (s.setEntry n e).visits.Table none := by
  have unqueued : (s.setEntry n e).visits.row n ≠ (.due, false) ∧ ((s.setEntry n e).visits.row n).2 = false := by
    rcases Nat.lt_or_ge n s.entries.length with inside | out
    · rw [State.row_setEntry_same inside]
      exact ⟨after, idle⟩
    · rw [State.row_setEntry_out out]
      exact ⟨by decide, rfl⟩
  refine h.place only free (fun m k => by rw [State.setEntry_visits]; exact Iff.rfl) (fun m other => State.row_setEntry_other other e)
    unqueued.2 (by rw [State.setEntry_visits]; exact h.once) fun m => ?_
  rw [State.setEntry_visits]
  by_cases same : m = n
  · subst same
    rw [h.queued, s.row_eq]
    rw [State.setEntry_visits] at unqueued
    simp [before, unqueued.1]
  · simp [same]

/-- An entry made DUE that no visit names, handed over to the queue. -/
theorem State.handed_table {x : Option (Nat × PointingKind)} (h : s.visits.Table x) (only : ∀ m k, x = some (m, k) → m = n)
    (free : ∀ k, ¬s.visits.Holds n k) {e : Entry} (inside : n < s.entries.length) (before : (s.entry n).row ≠ (.due, false))
    (after : e.row = (.due, false)) {t : State} (same : t.visits = (s.setEntry n e).visits) : (t.enqueue [n]).visits.Table none := by
  have queue : t.osc.queue = s.osc.queue := by
    rw [← State.visits_queue, same, State.setEntry_visits]
    rfl
  have perm : ((t.enqueue [n]).osc.queue.map (·.target)).Perm (n :: s.osc.queue.map (·.target)) := by
    have := t.enqueue_targets [n]
    rwa [queue] at this
  have unqueued : n ∉ s.osc.queue.map (·.target) := fun mem => before (by rw [← s.row_eq]; exact (h.queued n).mp mem)
  have row : ∀ m, (t.enqueue [n]).visits.row m = (s.setEntry n e).visits.row m := fun m => by
    rw [State.enqueue_visits, same]
    rfl
  have own : (t.enqueue [n]).visits.row n = (.due, false) := by rw [row, State.row_setEntry_same inside, after]
  refine h.place only free (fun m k => by rw [State.enqueue_visits, same, State.setEntry_visits]; exact Iff.rfl)
    (fun m other => by rw [row, State.row_setEntry_other other]) (by rw [own])
    (by rw [State.visits_queue]; exact perm.nodup_iff.mpr (List.nodup_cons.mpr ⟨unqueued, h.once⟩)) fun m => ?_
  rw [State.visits_queue, perm.mem_iff, List.mem_cons, own]
  by_cases e : m = n
  · simp [e]
  · simp [e, State.visits_queue]

/-- An entry set aside that no visit names, whose number leaves the queue. -/
theorem State.aside_table (h : s.visits.Table none) (free : ∀ k, ¬s.visits.Holds n k) {e : Entry}
    (after : e.row ≠ (.due, false)) (idle : e.deferred = false) : ((s.unqueue n).setEntry n e).visits.Table none := by
  have row (m : Nat) : ((s.unqueue n).setEntry n e).visits.row m = (s.setEntry n e).visits.row m := by
    rw [State.setEntry_visits, State.setEntry_visits]
    rfl
  have own : ((s.unqueue n).setEntry n e).visits.row n ≠ (.due, false)
      ∧ (((s.unqueue n).setEntry n e).visits.row n).2 = false := by
    rw [row]
    rcases Nat.lt_or_ge n s.entries.length with inside | out
    · rw [State.row_setEntry_same inside]
      exact ⟨after, idle⟩
    · rw [State.row_setEntry_out out]
      exact ⟨by decide, rfl⟩
  refine h.place nofun free (fun m k => by rw [State.setEntry_visits]; exact Iff.rfl)
    (fun m other => by rw [row, State.row_setEntry_other other]) own.2 ?_ fun m => ?_
  · rw [State.setEntry_visits]
    exact h.once.sublist (List.filter_sublist.map _)
  · rw [State.visits_queue]
    simp only [own.1, and_false, or_false]
    simp only [State.setEntry_osc, State.unqueue, State.setOsc_osc, List.mem_map, List.mem_filter, State.visits_queue]
    constructor
    · rintro ⟨x, ⟨mem, other⟩, rfl⟩
      exact ⟨by simpa using other, x, mem, rfl⟩
    · rintro ⟨other, x, mem, rfl⟩
      exact ⟨x, ⟨mem, by simpa using other⟩, rfl⟩

end

/-! ### The delivery of an outcome (R31 to R35, R24, R25) -/

/-- What delivers the outcome of a visit that is loose. -/
structure Visits.Delivers (v w : Visits) (loose : Option (Nat × PointingKind)) : Prop where
  same : w = { v with rows := w.rows, queue := w.queue }
  ordered : Ordered v.queue → Ordered w.queue
  table : v.Table loose → w.Table none

theorem loadedEntry_row (d : Definition) : (loadedEntry d).state ≠ .due ∧ (loadedEntry d).deferred = false := by
  unfold loadedEntry
  repeat' split
  all_goals simp [emptyEntry]

theorem Entry.trackUpdate_row (e : Entry) (o : Verdict) : (e.trackUpdate o).row = e.row := by
  unfold Entry.trackUpdate
  repeat' split
  all_goals rfl

/-- An outcome hands an entry over where it makes it DUE, and never otherwise. -/
theorem Entry.afterOutcome_row (e : Entry) (n : StationNumbers) (o : Verdict) :
    (e.afterOutcome n o).entry.deferred = e.deferred
      ∧ ((e.afterOutcome n o).handed = true ↔ (e.afterOutcome n o).entry.state = .due) := by
  cases o <;> simp only [Entry.afterOutcome, Entry.suspendAt] <;> repeat' split
  all_goals simp

theorem Entry.row_due_iff (e : Entry) : e.row = (.due, false) ↔ e.state = .due ∧ e.deferred = false := by
  rw [Entry.row, Prod.mk.injEq]

@[simp] theorem State.raiseMaybe_entry (s : State) (k : Option NoticeKind) (x : Option Nat) (n : Nat) :
    (s.raiseMaybe k x).entry n = s.entry n := by cases k <;> rfl

@[simp] theorem State.raiseMaybe_osc (s : State) (k : Option NoticeKind) (x : Option Nat) : (s.raiseMaybe k x).osc = s.osc := by
  cases k <;> rfl

/-- A visit that is loose or held keeps its entry's deferred flag no, where it is a scheduled one. -/
theorem Visits.Table.active_idle {v : Visits} {loose : Option (Nat × PointingKind)} (h : v.Table loose) {n : Nat}
    (owned : v.Owns loose n .scheduled) : v.row n = (.active, false) := by
  have active := h.active n owned
  refine Prod.ext active ?_
  by_contra set
  have due := (h.deferred n (by simpa using set)).1
  rw [active] at due
  cases due

/-- The entry of a visit that ends takes its new row, and its number joins the queue where it is handed over. -/
theorem State.ended_table {s u t : State} {n : Nat} {kind : PointingKind} (h : s.visits.Table (some (n, kind))) {e : Entry}
    (handed : Bool) (idle : e.deferred = false) (due : handed = true ↔ e.state = .due) (inside : handed = true → n < s.entries.length)
    (same : u.visits = (s.setEntry n e).visits) (ends : t = if handed then u.enqueue [n] else u) : t.visits.Table none := by
  have only : ∀ m k, some (n, kind) = some (m, k) → m = n := fun m k e => by cases e; rfl
  have before : (s.entry n).row ≠ (.due, false) := fun due => h.not_owned (by rwa [s.row_eq]) kind (.inr rfl)
  cases handed with
  | true =>
    rw [ends, if_pos rfl]
    exact State.handed_table h only (h.alone n kind rfl) (inside rfl) before ((Entry.row_due_iff e).mpr ⟨due.mp rfl, idle⟩) same
  | false =>
    rw [ends, if_neg (by simp), same]
    exact State.setEntry_table h only (h.alone n kind rfl) before (fun row => by simpa using due.mpr ((Entry.row_due_iff e).mp row).1)
      idle

theorem State.deliverOutcome_table {s : State} {n : Nat} {kind : PointingKind} (h : s.visits.Table (some (n, kind)))
    (o : Verdict) : (s.deliverOutcome n kind o).visits.Table none := by
  unfold State.deliverOutcome
  dsimp only
  split
  · rename_i d _
    obtain ⟨state, idle⟩ := loadedEntry_row d
    exact State.ended_table (u := (s.raiseMaybe o.notice (some n)).setEntry n (loadedEntry d)) h false idle (by simp [state]) nofun
      (by simp) rfl
  · have row := (Entry.trackUpdate_row { s.entry n with lastOutcome := some o } o).trans (show _ = s.visits.row n from (s.row_eq n).symm)
    generalize Entry.trackUpdate { s.entry n with lastOutcome := some o } o = e at row
    cases kind with
    | scheduled =>
      rw [h.active_idle (.inr rfl)] at row
      obtain ⟨idle, due⟩ := e.afterOutcome_row (s.raiseMaybe o.notice (some n)).station.n o
      have active := h.active n (.inr rfl)
      refine State.ended_table h _ (idle.trans (congrArg Prod.snd row)) due
        (fun _ => State.lt_of_entry fun empty => ?_) ?_ rfl
      · rw [s.row_eq, Entry.row, empty] at active
        cases active
      · split <;> simp
    | oneOff =>
      have engaged := h.engaged n (.inr rfl)
      rw [← row] at engaged
      refine State.ended_table (e := { e with deferred := false }) h e.deferred rfl ⟨fun set => ?_, engaged.2.2⟩ (fun set => State.lt_of_entry fun empty => ?_)
        (by simp) rfl
      · have := (h.deferred n (by rw [← row]; exact set)).1
        rwa [← row] at this
      · have := (h.deferred n (by rw [← row]; exact set)).1
        rw [s.row_eq, Entry.row, empty] at this
        cases this

theorem State.deliverOutcome_delivers (s : State) (n : Nat) (kind : PointingKind) (o : Verdict) :
    s.visits.Delivers (s.deliverOutcome n kind o).visits (some (n, kind)) := by
  refine ⟨?_, fun h => ?_, fun h => State.deliverOutcome_table h o⟩
  · unfold State.deliverOutcome
    dsimp only
    repeat' split
    all_goals simp
  · have queue : Ordered s.osc.queue := h
    unfold State.deliverOutcome
    dsimp only
    repeat' split
    all_goals simp [State.visits_queue, queue]

end Sys2Proof.Machine
end

section
/-! SUPPORT. The end of a pointing, the freeing of the contexts and the warm values, as law 4 sees them (R79, R156, R160, R162). -/

namespace Sys2Proof.Machine

open Sys2Proof

/-- What keeps the order of R46 and law 4. -/
structure Visits.Leads (v w : Visits) : Prop where
  ordered : Ordered v.queue → Ordered w.queue
  law : v.Law → w.Law

@[simp] theorem Visits.Leads.refl (v : Visits) : v.Leads v := ⟨id, id⟩

theorem Visits.Leads.trans {u v w : Visits} (h : u.Leads v) (g : v.Leads w) : u.Leads w :=
  ⟨g.ordered ∘ h.ordered, g.law ∘ h.law⟩

/-- With nothing in flight or saved, visits stand where they may in every state of DVC. -/
theorem Visits.OneVisit.of_none {v : Visits} (flight : v.flight = none) (ordinary : v.ordinary = none)
    (critical : v.critical = none) : v.OneVisit := by
  constructor <;> simp [flight, ordinary, critical]

theorem Visits.OneVisit.alone_in_flight {v : Visits} (h : v.OneVisit) (flight : v.flight ≠ none) :
    v.ordinary = none ∧ v.critical = none :=
  h.free ((h.flying flight).elim .inl fun stops => .inr (.inr stops))

theorem Visits.OneVisit.idle {v : Visits} (h : v.OneVisit) (state : v.mode.1 ≠ .run)
    (stops : v.mode.1 = .stopping → v.mode.2 = .restart) : v.flight = none := by
  by_contra flies
  obtain run | ⟨stopping, cause⟩ := h.flying flies
  · exact state run
  · exact cause (stops stopping)

/-- Two contexts never save two visits. -/
theorem Visits.OneVisit.apart {v : Visits} (h : v.OneVisit) {d : DvcState} {n : Nat} {k : PointingKind}
    (saved : v.critical = some (d, some n, some k)) : v.ordinary = none := by
  refine (h.alone _ saved fun held => ?_).1
  cases (h.fromHeld _ saved held).1

/-! ### A target abandoned -/

section
variable (s : State)

theorem State.abandonTarget_delivers (x : Option (Nat × PointingKind)) : s.visits.Delivers (s.abandonTarget x).visits x := by
  cases x with
  | none => exact ⟨rfl, id, id⟩
  | some x => exact s.deliverOutcome_delivers x.1 x.2 .abandoned

theorem Context.ended_iff (c : Context) (n : Nat) (k : PointingKind) : c.ended = some (n, k) ↔ c.visit = (some n, some k) := by
  unfold Context.ended Context.visit
  cases c.target <;> cases c.part <;> simp

/-- The visit saved in the ordinary context. -/
def State.ordinaryVisit : Option (Nat × PointingKind) := s.dvc.ordinary.bind (·.ended)

/-- The visit saved in the critical record. -/
def State.criticalVisit : Option (Nat × PointingKind) := s.dvc.critical.bind fun r => r.context.ended

theorem State.ordinaryVisit_iff (n : Nat) (k : PointingKind) :
    s.ordinaryVisit = some (n, k) ↔ s.visits.ordinary = some (some n, some k) := by
  simp only [State.ordinaryVisit, State.visits_ordinary, Option.bind_eq_some_iff, Option.map_eq_some_iff, Context.ended_iff]

theorem State.criticalVisit_iff (n : Nat) (k : PointingKind) :
    s.criticalVisit = some (n, k) ↔ ∃ d, s.visits.critical = some (d, some n, some k) := by
  simp only [State.criticalVisit, State.visits_critical, Option.bind_eq_some_iff, Option.map_eq_some_iff, Context.ended_iff,
    CriticalRecord.visit, Prod.mk.injEq]
  constructor
  · rintro ⟨r, hr, h⟩
    exact ⟨_, r, hr, rfl, h⟩
  · rintro ⟨_, r, hr, -, h⟩
    exact ⟨r, hr, h⟩

/-- Both contexts are freed. -/
def State.freed : State := s.setDvc { s.dvc with ordinary := none, critical := none }

theorem State.discardContexts_eq :
    s.discardContexts =
      if s.criticalVisit.map (·.1) = s.ordinaryVisit.map (·.1) then s.freed.abandonTarget s.ordinaryVisit
      else (s.freed.abandonTarget s.ordinaryVisit).abandonTarget s.criticalVisit := rfl

/-- With no visit in the critical record, the ordinary context's visit ends. -/
theorem State.discardContexts_ordinary (h : s.criticalVisit = none) :
    s.discardContexts = s.freed.abandonTarget s.ordinaryVisit := by
  rw [s.discardContexts_eq, h]
  split <;> rfl

/-- With no visit in the ordinary context, the critical record's visit ends. -/
theorem State.discardContexts_critical (h : s.ordinaryVisit = none) :
    s.discardContexts = s.freed.abandonTarget s.criticalVisit := by
  rw [s.discardContexts_eq, h]
  split
  · rename_i none
    rw [Option.map_eq_none_iff.mp (none : s.criticalVisit.map (·.1) = _)]
  · rfl

theorem State.discardContexts_delivers :
    s.discardContexts.visits =
        { s.visits with
          rows := s.discardContexts.visits.rows, queue := s.discardContexts.visits.queue, ordinary := none, critical := none }
      ∧ (Ordered s.osc.queue → Ordered s.discardContexts.osc.queue) := by
  have first := s.freed.abandonTarget_delivers s.ordinaryVisit
  rw [s.discardContexts_eq]
  split
  · exact ⟨first.same, first.ordered⟩
  · have second := (s.freed.abandonTarget s.ordinaryVisit).abandonTarget_delivers s.criticalVisit
    refine ⟨?_, fun h => second.ordered (first.ordered h)⟩
    rw [second.same, first.same]
    rfl

/-- The contexts freed, with no pointing in flight: the one visit that may be saved has ended. -/
theorem State.discardContexts_table (table : s.visits.Table none) (idle : s.visits.flight = none)
    (apart : ∀ d n k, s.visits.critical = some (d, some n, some k) → s.visits.ordinary = none) :
    s.discardContexts.visits.Table none := by
  have freed : ∀ x, (∀ n k, x = some (n, k) ↔ s.visits.Holds n k) → (s.freed.abandonTarget x).visits.Table none := by
    intro x same
    have none : ∀ n k, ¬s.freed.visits.Holds n k := fun n k held => by
      rcases held with flies | saved | ⟨_, saved⟩
      · exact absurd (idle.symm.trans flies) nofun
      · cases saved
      · cases saved
    exact (s.freed.abandonTarget_delivers x).table
      (table.congr rfl rfl (fun n k => by simp [Visits.Owns, none, same]) fun n _ _ k => none n k)
  by_cases critical : s.criticalVisit = none
  · rw [s.discardContexts_ordinary critical]
    refine freed _ fun n k => ?_
    have := (s.criticalVisit_iff n k).not.mp (by simp [critical])
    simp [Visits.Holds, idle, this, s.ordinaryVisit_iff]
  · obtain ⟨⟨m, j⟩, saved⟩ := Option.ne_none_iff_exists'.mp critical
    obtain ⟨d, record⟩ := (s.criticalVisit_iff m j).mp saved
    have free := apart d m j record
    have unsaved : s.ordinaryVisit = none := by
      rw [State.ordinaryVisit, Option.map_eq_none_iff.mp (free : s.dvc.ordinary.map _ = _)]
      rfl
    rw [s.discardContexts_critical unsaved]
    refine freed _ fun n k => ?_
    simp [Visits.Holds, idle, free, s.criticalVisit_iff]

/-! ### The end of the pointing in flight -/

/-- What ends the visit in flight. -/
structure Visits.Lands (v w : Visits) : Prop where
  same : w = { v with rows := w.rows, queue := w.queue, flight := none }
  ordered : Ordered v.queue → Ordered w.queue
  table : v.Table none → (v.flight ≠ none → v.ordinary = none ∧ v.critical = none) → w.Table none

theorem State.endPointing_lands (o : Verdict) : s.visits.Lands (s.endPointing o).visits := by
  cases h : s.pen.pointing with
  | none =>
    have same : s.endPointing o = s := by simp [State.endPointing, h]
    rw [same]
    exact ⟨(State.visits_of_idle h).symm, id, fun table _ => table⟩
  | some p =>
    obtain ⟨u, landed, ends⟩ : ∃ u : State, u.visits = { s.visits with flight := none }
        ∧ s.endPointing o = (u.deliverOutcome p.target p.kind o).choose := by
      simp only [State.endPointing, h]
      split
      · exact ⟨_, State.stopAfterPointing_visits _, rfl⟩
      · exact ⟨_, State.stopAfterPointing_visits _, rfl⟩
    have delivers := u.deliverOutcome_delivers p.target p.kind o
    rw [ends, State.choose_visits]
    refine ⟨?_, fun ordered => delivers.ordered (by rw [landed]; exact ordered), fun table alone => delivers.table ?_⟩
    · rw [delivers.same, landed]
    · obtain ⟨ordinary, critical⟩ := alone (by simp [State.visits_flight, h])
      have flight : s.visits.flight = some (p.target, p.kind) := by simp [State.visits_flight, h, Pointing.visit]
      have none : ∀ n k, ¬u.visits.Holds n k := fun n k => by simp [Visits.Holds, landed, ordinary, critical]
      refine table.congr (by rw [landed]) (by rw [landed]) (fun n k => ?_) fun n _ _ k => none n k
      simp only [Visits.Owns, none, false_or, reduceCtorEq, or_false]
      simp [Visits.Holds, flight, ordinary, critical]

/-- A pointing ends where it may: law 4 stays. -/
theorem Visits.Lands.leads {v w : Visits} (h : v.Lands w) : v.Leads w := by
  refine ⟨h.ordered, fun law => ⟨h.table law.table law.visit.alone_in_flight, ?_⟩⟩
  obtain ⟨flying, free, held, ordinary, fromHeld, alone, fromHalted⟩ := law.visit
  rw [h.same]
  exact ⟨nofun, free, held, ordinary, fromHeld, alone, fromHalted⟩

/-! ### The warm values -/

theorem Entry.warm_row (e : Entry) : e.warm.state ≠ .due ∧ e.warm.state ≠ .active ∧ e.warm.deferred = false := by
  unfold Entry.warm
  split <;> simp_all

/-- After the warm values no visit is left but one in flight, and the queue is empty. -/
theorem State.warmValues_visits (raised : Notices) :
    (s.warmValues raised).visits =
      { rows := ({ s with notices := raised } : State).discardContexts.entries.map fun e => e.warm.row, queue := [],
        flight := s.visits.flight, mode := (.run, .none), ordinary := none, critical := none } := by
  have freed := (State.discardContexts_delivers { s with notices := raised }).1
  have flight : ({ s with notices := raised } : State).discardContexts.visits.flight = s.visits.flight := by
    rw [freed]
    rfl
  have ordinary : ({ s with notices := raised } : State).discardContexts.visits.ordinary = none := by rw [freed]
  have critical : ({ s with notices := raised } : State).discardContexts.visits.critical = none := by rw [freed]
  rw [State.warmValues, State.choose_visits, ← flight, ← ordinary, ← critical, State.enterRun_visits, State.visits_mk, List.map_map]
  rfl

theorem State.warmValues_law (raised : Notices) (idle : s.visits.flight = none) : (s.warmValues raised).visits.Law := by
  rw [s.warmValues_visits]
  refine ⟨?_, .of_none idle rfl rfl⟩
  set es := ({ s with notices := raised } : State).discardContexts.entries
  have row : ∀ n, ((es.map fun e => e.warm.row).getD n (.empty, false)).1 ≠ .due
      ∧ ((es.map fun e => e.warm.row).getD n (.empty, false)).2 = false := by
    intro n
    rw [show (EntryState.empty, false) = emptyEntry.warm.row from rfl, List.getD_map]
    obtain ⟨due, -, idle⟩ := (es.getD n emptyEntry).warm_row
    exact ⟨due, idle⟩
  have owns : ∀ n k, ¬Visits.Owns
      { rows := es.map fun e => e.warm.row, queue := [], flight := s.visits.flight, mode := (.run, .none), ordinary := none,
        critical := none } none n k := by
    simp [Visits.Owns, Visits.Holds, idle]
  refine ⟨List.nodup_nil, fun n => ?_, fun n h => absurd h (owns n _), fun n h => absurd h (owns n _), fun n h => ?_, nofun⟩
  · refine ⟨nofun, fun due => ?_⟩
    exact absurd (congrArg Prod.fst due) (row n).1
  · exact absurd ((row n).2.symm.trans h) nofun

theorem State.warmValues_leads {x : Visits} (raised : Notices) (idle : x.Law → s.visits.flight = none) :
    x.Leads (s.warmValues raised).visits :=
  ⟨fun _ => by rw [s.warmValues_visits]; exact .nil, fun law => s.warmValues_law raised (idle law)⟩

end

end Sys2Proof.Machine
end

section
/-! SUPPORT. Stops, resumes, dispatch, halts, faults and the warm restart keep law 4 (R51, R148 to R162). -/

namespace Sys2Proof.Machine

open Sys2Proof

theorem Visits.Leads.step {x v w : Visits} (h : x.Leads v) (ordered : Ordered v.queue → Ordered w.queue)
    (law : v.Law → w.Law) : x.Leads w := h.trans ⟨ordered, law⟩

/-! ### Resuming (R82, R152, R158, R159) -/

section
variable {x : Visits} {s : State}

theorem State.restartPointing_visits (s : State) (c : Context) :
    (s.restartPointing c).visits = { s.visits with flight := c.ended.or s.visits.flight } := by
  unfold State.restartPointing Context.ended
  cases c.target <;> cases c.part
  case some.some n p => exact State.launch_visits _ _
  all_goals rfl

/-- The one visit saved in a context that is freed, put in flight or ended, leaves law 4 in RUN. -/
theorem Visits.Law.resumed {v w : Visits} (law : v.Law) (idle : v.flight = none) (critical : v.critical = none)
    (rows : w.rows = v.rows) (queue : w.queue = v.queue) (mode : w.mode = (.run, .none)) (free : w.ordinary = none)
    (none : w.critical = none) (flight : ∀ n k, w.flight = some (n, k) ↔ v.ordinary = some (some n, some k)) : w.Law where
  table := law.table.of_holds rows queue fun n k => by simp [Visits.Holds, idle, critical, free, none, flight]
  visit := ⟨fun _ => by simp [mode], fun _ => ⟨free, none⟩, fun _ => none, by simp [free], by simp [none], by simp [none],
    by simp [none]⟩

theorem Visits.Law.idle_held {v : Visits} (law : v.Law) (held : v.mode.1 = .held) : v.flight = none ∧ v.critical = none :=
  ⟨law.visit.idle (by simp [held]) (by simp [held]), law.visit.held held⟩

theorem State.resumeHeld_leads (h : x.Leads s.visits) (held : s.dvc.state = .held) : x.Leads s.resumeHeld.visits := by
  obtain ⟨u, freed, resumes⟩ : ∃ u : State,
      u.visits = { s.visits with mode := (.run, .none), ordinary := none } ∧ s.resumeHeld =
        match s.dvc.ordinary with
        | none => u.choose
        | some c => if c.recoverable then (u.restartPointing c).choose else (u.abandonTarget c.ended).choose := by
    refine ⟨_, ?_, rfl⟩
    rw [State.enterRun_visits, State.setDvc_visits]
    split <;> rfl
  have saved : ∀ n k, s.visits.ordinary = some (some n, some k) ↔ s.dvc.ordinary.bind (·.ended) = some (n, k) := fun n k =>
    (s.ordinaryVisit_iff n k).symm
  rw [resumes]
  split
  · rename_i none
    refine h.step (by simp [freed]) fun law => ?_
    obtain ⟨idle, critical⟩ := law.idle_held held
    refine law.resumed idle critical (by simp [freed]) (by simp [freed]) (by simp [freed]) (by simp [freed]) (by simp [freed, critical])
      fun n k => ?_
    rw [saved, none]
    simp [freed, idle]
  · rename_i c some
    split
    · refine h.step (by simp [freed, State.restartPointing_visits]) fun law => ?_
      obtain ⟨idle, critical⟩ := law.idle_held held
      refine law.resumed idle critical ?_ ?_ ?_ ?_ ?_ fun n k => ?_
      · simp [freed, State.restartPointing_visits]
      · simp [freed, State.restartPointing_visits]
      · simp [freed, State.restartPointing_visits]
      · simp [freed, State.restartPointing_visits]
      · simp [freed, State.restartPointing_visits, critical]
      · rw [saved, some]
        simp [freed, State.restartPointing_visits, idle]
    · have delivers := u.abandonTarget_delivers c.ended
      rw [State.choose_visits]
      refine h.step (fun ordered => delivers.ordered (by rw [freed]; exact ordered)) fun law => ?_
      obtain ⟨idle, critical⟩ := law.idle_held held
      have none : ∀ n k, ¬u.visits.Holds n k := fun n k => by simp [Visits.Holds, freed, idle, critical]
      refine ⟨delivers.table (law.table.congr (by rw [freed]) (by rw [freed]) (fun n k => ?_) fun n _ _ k => none n k), ?_⟩
      · simp only [Visits.Owns, none, false_or, reduceCtorEq, or_false]
        simp [Visits.Holds, idle, critical, saved, some]
      · rw [delivers.same, freed]
        exact .of_none idle rfl critical

theorem State.autoResumeTest_leads (h : x.Leads s.visits) : x.Leads s.autoResumeTest.visits := by
  unfold State.autoResumeTest
  split
  · rename_i auto
    exact State.resumeHeld_leads h auto.1
  · exact h

/-- DVC enters HELD with this context, and may resume at once. -/
theorem State.enterHeld_leads {target : Option Nat} {part : Option PointingPart} {cause : Cause}
    (h : x.Leads { s.visits with mode := (.held, cause), ordinary := some (target, part.map (·.kind)) }) :
    x.Leads (s.enterHeld target part cause).visits := by
  unfold State.enterHeld
  exact State.autoResumeTest_leads (by rw [State.choose_visits]; exact h)

/-- RESUME from CRITICAL (R159). -/
theorem State.resumeCritical_leads (h : x.Leads s.visits) (critical : s.dvc.state = .critical) {c : CriticalRecord}
    (record : s.dvc.critical = some c) : x.Leads (s.resumeCritical c).visits := by
  have recorded : s.visits.critical = some c.visit := by simp [State.visits_critical, record]
  have idle : s.visits.Law → s.visits.flight = none := fun law =>
    law.visit.idle (by simp [State.visits_mode, critical]) (by simp [State.visits_mode, critical])
  have other : s.visits.Law → c.priorState ≠ .held → s.visits.ordinary = none ∧ (c.context.target.isSome ↔ c.context.part.isSome) :=
    fun law prior => by simpa [CriticalRecord.visit, Context.visit] using law.visit.alone _ recorded prior
  have saved : ∀ n k, (∃ d, s.visits.critical = some (d, some n, some k)) ↔ c.context.visit = (some n, some k) := fun n k => by
    simp [recorded, CriticalRecord.visit]
  unfold State.resumeCritical
  dsimp only
  split
  case h_1 prior =>
    refine State.enterHeld_leads (h.step id fun law => ?_)
    obtain ⟨free, whole⟩ := other law (by simp [prior])
    refine ⟨law.table.of_holds rfl rfl fun n k => ?_, ?_⟩
    · simp [Visits.Holds, idle law, free, saved, Context.visit]
    · constructor <;> simp [idle law]
      exact Bool.eq_iff_iff.mpr whole
  case h_2 prior =>
    refine State.autoResumeTest_leads (h.step (by simp) fun law => ?_)
    obtain ⟨part, target⟩ := law.visit.fromHeld _ recorded prior
    rw [State.choose_visits]
    refine ⟨law.table.of_holds rfl rfl fun n k => ?_, ?_⟩
    · have none : c.context.visit ≠ (some n, some k) := fun same => by
        rw [CriticalRecord.visit, same] at part
        cases part
      simp [Visits.Holds, idle law, saved, none, ← State.visits_ordinary]
    · have := law.visit.ordinary
      constructor <;> simp [idle law, ← State.visits_ordinary]
      simpa using this
  case h_3 prior =>
    refine h.step (by simp) fun law => ?_
    obtain ⟨free, whole⟩ := other law (by simp [prior])
    have gone := law.visit.fromHalted _ recorded prior
    rw [State.choose_visits]
    refine ⟨law.table.of_holds rfl rfl fun n k => ?_, .of_none (idle law) free rfl⟩
    have none : c.context.visit ≠ (some n, some k) := fun same => by
      rw [CriticalRecord.visit, same] at gone
      cases gone
    simp [Visits.Holds, idle law, saved, none, ← State.visits_ordinary]
  case h_4 prior _ _ =>
    refine h.step (by simp [State.restartPointing_visits]) fun law => ?_
    obtain ⟨free, -⟩ := other law ‹_›
    have ended : ∀ n k, c.context.ended = some (n, k) ↔ ∃ d, s.visits.critical = some (d, some n, some k) := fun n k => by
      rw [saved, Context.ended_iff]
    rw [State.choose_visits, State.restartPointing_visits]
    refine ⟨law.table.of_holds rfl rfl fun n k => ?_, ?_⟩
    · simp only [Visits.Holds, ← ended]
      simp [idle law, free, ← State.visits_ordinary]
    · constructor <;> simp [free, ← State.visits_ordinary]

/-! ### Stops (R149, R150) and dispatch (R49 to R51) -/

/-- A pointing that a stop has frozen is saved in the ordinary context of HELD. -/
theorem State.stopTest_leads (h : x.Leads s.visits) (raised : Notices) : x.Leads (s.stopTest raised).visits := by
  unfold State.stopTest
  split
  case isFalse => exact h
  case isTrue complete =>
    have stopping : s.dvc.state = .stopping := by
      simp only [State.stopComplete, Bool.and_eq_true, decide_eq_true_eq] at complete
      exact complete.1.1
    split
    case isTrue restart =>
      exact s.warmValues_leads raised fun law =>
        (h.law law).visit.idle (by simp [State.visits_mode, stopping]) fun _ => restart
    case isFalse cause =>
      have free : s.visits.Law → s.visits.ordinary = none ∧ s.visits.critical = none := fun law =>
        law.visit.free (.inr (.inr ⟨stopping, cause⟩))
      split
      · rename_i p pointing
        refine State.enterHeld_leads (h.step id fun law => ?_)
        obtain ⟨ordinary, critical⟩ := free law
        refine ⟨law.table.of_holds rfl rfl fun n k => ?_, ?_⟩
        · simp [Visits.Holds, ordinary, critical, State.visits_flight, pointing, Pointing.visit, Pointing.part]
        · constructor <;> simp [critical]
      · rename_i pointing
        refine State.enterHeld_leads (h.step id fun law => ?_)
        obtain ⟨ordinary, critical⟩ := free law
        refine ⟨law.table.of_holds rfl rfl fun n k => ?_, ?_⟩
        · simp [Visits.Holds, ordinary, critical, State.visits_flight, pointing]
        · constructor <;> simp [critical, State.visits_flight, pointing]

/-- The head of the queue becomes the one visit in flight. -/
theorem Visits.Law.dispatched {v : Visits} (law : v.Law) (run : v.mode.1 = .run) (idle : v.flight = none) {y : QueueItem}
    {rest : List QueueItem} (queue : v.queue = y :: rest) {rows : List (EntryState × Bool)}
    (row : ∀ m, rows.getD m (.empty, false) = if m = y.target then (.active, false) else v.row m) :
    Visits.Law { v with rows := rows, queue := rest, flight := some (y.target, .scheduled) } := by
  obtain ⟨ordinary, critical⟩ := law.visit.free (.inl run)
  have once := law.table.once
  rw [queue, List.map_cons, List.nodup_cons] at once
  obtain ⟨alone, once⟩ := once
  have owns (n : Nat) (k : PointingKind) :
      Visits.Owns { v with rows := rows, queue := rest, flight := some (y.target, .scheduled) } none n k ↔
        n = y.target ∧ k = .scheduled := by
    simp [Visits.Owns, Visits.Holds, ordinary, critical, eq_comm]
  refine ⟨⟨once, fun m => ?_, fun m g => ?_, fun m g => absurd ((owns m _).mp g).2 nofun, fun m g => ?_, nofun⟩, ?_⟩
  · rw [Visits.row, row]
    split
    · rename_i same
      simpa [same] using alone
    · rename_i other
      rw [← law.table.queued, queue]
      simp [other]
  · rw [Visits.row, row, if_pos ((owns m _).mp g).1]
  · rw [Visits.row, row] at g
    split at g
    · cases g
    · obtain ⟨-, owned⟩ := law.table.deferred m g
      simp [Visits.Owns, Visits.Holds, idle, ordinary, critical] at owned
  · exact ⟨fun _ => .inl run, fun _ => ⟨ordinary, critical⟩, fun _ => critical, by simp [ordinary], by simp [critical],
      by simp [critical], by simp [critical]⟩

theorem State.dispatchHead_leads (h : x.Leads s.visits) (run : s.dvc.state = .run) (idle : s.pen.pointing = none) :
    x.Leads s.dispatchHead.visits := by
  unfold State.dispatchHead
  split
  · exact h
  · rename_i y rest queue
    simp only [State.choose_visits, State.beginPointing_visits, State.setEntry_visits, State.setOsc_visits]
    refine h.step (fun ordered => ?_) fun law => ?_
    · rw [State.visits_queue, queue] at ordered
      exact (List.pairwise_cons.mp ordered).2
    · refine law.dispatched run (by rw [State.visits_flight, idle]; rfl) queue fun m => ?_
      have first := (law.table.queued y.target).mp (by rw [State.visits_queue, queue]; exact List.mem_cons_self)
      rw [s.row_eq, Entry.row_due_iff] at first
      have inside : y.target < s.entries.length := State.lt_of_entry (by simp [first.1])
      rw [getD_set ((List.length_map _).symm ▸ inside)]
      refine if_congr Iff.rfl ?_ rfl
      exact Prod.ext rfl first.2

theorem State.examineDispatch_leads (h : x.Leads s.visits) : x.Leads s.examineDispatch.visits := by
  unfold State.examineDispatch
  split
  · rename_i ready
    simp only [State.dispatchReady, Bool.and_eq_true, decide_eq_true_eq, Bool.not_eq_true', State.busy, Option.isSome_eq_false_iff,
      Option.isNone_iff_eq_none] at ready
    exact State.dispatchHead_leads h (by tauto) (by tauto)
  · exact h

theorem State.wrapUpWith_leads (h : x.Leads s.visits) (raised : Notices) : x.Leads (s.wrapUpWith raised).visits :=
  State.examineDispatch_leads (State.stopTest_leads (by simpa using h) raised)

theorem State.wrapUp_leads (h : x.Leads s.visits) : x.Leads s.wrapUp.visits := by
  rw [State.wrapUp, State.recordMayGo_visits]
  exact State.wrapUpWith_leads h clearNotices

theorem State.enterStopping_leads (h : x.Leads s.visits) (run : s.dvc.state = .run) {cause : Cause} (other : cause ≠ .restart) :
    x.Leads (s.enterStopping cause).visits := by
  rw [State.enterStopping_visits]
  refine h.step id fun law => ⟨law.table.of_holds rfl rfl fun _ _ => Iff.rfl, ?_⟩
  obtain ⟨ordinary, critical⟩ := law.visit.free (.inl run)
  exact ⟨fun _ => .inr ⟨rfl, other⟩, fun _ => ⟨ordinary, critical⟩, nofun, by simp [ordinary], by simp [critical], by simp [critical],
    by simp [critical]⟩

theorem State.divertLevelLoss_leads (h : x.Leads s.visits) : x.Leads s.divertLevelLoss.visits := by
  unfold State.divertLevelLoss
  split
  · rename_i run
    simpa using State.enterStopping_leads h run (by decide)
  · split
    · simpa using h
    · exact h
  · exact h

theorem State.loseLevel_leads (h : x.Leads s.visits) : x.Leads s.loseLevel.visits :=
  State.divertLevelLoss_leads h

theorem State.regainLevel_leads (h : x.Leads s.visits) : x.Leads s.regainLevel.visits :=
  State.autoResumeTest_leads h

/-! ### Halts, faults, lockout and the warm restart (R154 to R156, R161) -/

/-- A pointing ends on the way to a state of DVC in which no visit stands. -/
theorem Visits.Lands.leaves {v u w : Visits} (h : u.Lands w) {mode : DvcState × Cause} (enters : u = { v with mode := mode })
    (law : v.Law) : w.Table none ∧ w.flight = none ∧ w.mode = mode ∧ w.ordinary = v.ordinary ∧ w.critical = v.critical := by
  have same := h.same
  subst enters
  refine ⟨h.table (law.table.of_holds rfl rfl fun _ _ => Iff.rfl) law.visit.alone_in_flight, ?_⟩
  rw [same]
  exact ⟨rfl, rfl, rfl, rfl⟩

theorem Visits.OneVisit.restarting_idle (h : s.visits.OneVisit) (restarting : s.restarting = true) :
    s.visits.flight = none := by
  simp only [State.restarting, decide_eq_true_eq] at restarting
  exact h.idle (by simp [State.visits_mode, restarting.1]) fun _ => restarting.2

theorem State.takeHalt_leads (h : x.Leads s.visits) : x.Leads s.takeHalt.visits := by
  unfold State.takeHalt
  dsimp only
  split
  · exact h
  · exact h
  · split
    · rename_i restarting
      rw [State.choose_visits, State.setDvc_visits, ← State.visits_ordinary, ← State.visits_critical]
      refine h.step (fun _ => by rw [State.warmValues_visits]; exact .nil) fun law => ?_
      have flight : s.holdBoth.visits.flight = none := by simpa using law.visit.restarting_idle restarting
      have warm := s.holdBoth.warmValues_law clearNotices flight
      exact ⟨warm.table.of_holds rfl rfl fun _ _ => Iff.rfl,
        .of_none (by rw [State.warmValues_visits]; exact flight) (by rw [State.warmValues_visits]) (by rw [State.warmValues_visits])⟩
    · obtain ⟨u, enters, halts⟩ : ∃ u : State, u.visits = { s.visits with mode := (.halted, .halt) }
          ∧ ((((s.setJog .none).setDvc { (s.setJog .none).dvc with state := .halted, cause := .halt, resumeMode := none }).choose
              ).endPointing .abandoned).discardContexts = (u.endPointing .abandoned).discardContexts :=
        ⟨_, by rw [State.choose_visits]; rfl, rfl⟩
      rw [halts]
      have lands := u.endPointing_lands .abandoned
      have freed := (u.endPointing .abandoned).discardContexts_delivers
      refine h.step (fun ordered => freed.2 (lands.ordered (by rw [enters]; exact ordered))) fun law => ?_
      obtain ⟨table, flight, mode, ordinary, critical⟩ := lands.leaves enters law
      refine ⟨State.discardContexts_table _ table flight fun d n k saved => ?_, ?_⟩
      · rw [ordinary]
        exact law.visit.apart (critical ▸ saved)
      · rw [freed.1]
        exact .of_none flight rfl rfl


theorem State.enterLockout_leads (h : x.Leads s.visits) (cause : Cause) : x.Leads (s.enterLockout cause).visits := by
  obtain ⟨u, enters, locks⟩ : ∃ u : State, u.visits = { s.visits with mode := (.lockout, cause) }
      ∧ s.enterLockout cause = (u.endPointing .abandoned).raise .lockout none :=
    ⟨_, by rw [State.choose_visits]; rfl, rfl⟩
  rw [locks, State.raise_visits]
  have lands := u.endPointing_lands .abandoned
  refine h.step (fun ordered => lands.ordered (by rw [enters]; exact ordered)) fun law => ?_
  obtain ⟨table, flight, mode, ordinary, critical⟩ := lands.leaves enters law
  obtain ⟨-, -, -, saved, fromHeld, alone, fromHalted⟩ := law.visit
  refine ⟨table, ⟨fun flies => absurd flight flies, fun free => ?_, fun held => ?_, ?_, ?_, ?_, ?_⟩⟩
  · simp [mode] at free
  · simp [mode] at held
  · rwa [ordinary]
  · rwa [ordinary, critical]
  · rwa [ordinary, critical]
  · rwa [critical]

/-- The states of DVC in which no critical record stands. -/
def State.uncritical (s : State) : Prop :=
  s.dvc.state ≠ .critical ∧ s.dvc.state ≠ .lockout ∧ s.restarting = false

theorem Visits.Law.uncritical (law : s.visits.Law) (h : s.uncritical) :
    s.visits.critical = none ∧ (s.dvc.state ≠ .held → s.visits.ordinary = none) := by
  obtain ⟨critical, lockout, going⟩ := h
  have free := law.visit.free
  have held := law.visit.held
  simp only [State.visits_mode] at free held
  simp only [State.restarting, decide_eq_false_iff_not, not_and] at going
  cases state : s.dvc.state <;> simp_all

/-- The entry that a fault event's record names: that of the pointing in flight, or that of the target held. -/
def State.faultTarget (s : State) : Option Nat :=
  match s.pen.pointing with
  | some p => some p.target
  | none => if s.dvc.state = .held then s.dvc.ordinary.bind (·.target) else none

theorem State.withdrawShot_pointing (s : State) :
    ∃ f : Pointing → Pointing, (∀ p, (f p).visit = p.visit) ∧ s.withdrawShot.pen.pointing = s.pen.pointing.map f := by
  unfold State.withdrawShot
  split
  · exact ⟨fun p => { p with attempts := p.attempts - 1 }, fun _ => rfl, rfl⟩
  · exact ⟨id, fun _ => rfl, by simp⟩

theorem State.enterCritical_visits (s : State) (cause : Cause) :
    (s.enterCritical cause).visits =
      { s.visits with
        flight := none, mode := (.critical, cause),
        critical := some (s.dvc.state, s.faultTarget, s.pen.pointing.map (·.kind)) } := by
  obtain ⟨f, same, pointing⟩ := (s.setJog .none).withdrawShot_pointing
  have saved : (s.setJog .none).withdrawShot.dvc = s.dvc := by
    unfold State.withdrawShot
    split <;> rfl
  have visits : (s.setJog .none).withdrawShot.visits = s.visits := by simp
  unfold State.enterCritical State.faultTarget
  simp only [State.raise_visits, State.choose_visits, State.setDvc_visits]
  have pen : ((s.setJog .none).withdrawShot.setSettle none).pen = (s.setJog .none).withdrawShot.pen := rfl
  have dvc : ((s.setJog .none).withdrawShot.setSettle none).dvc = s.dvc := saved
  rw [pen, pointing]
  have base : (s.setJog .none).pen.pointing = s.pen.pointing := rfl
  rw [base]
  cases flies : s.pen.pointing with
  | none => simp [saved, visits, CriticalRecord.visit, Context.visit, State.visits_ordinary]
  | some p =>
    obtain ⟨target, kind⟩ := Prod.mk.inj (same p)
    simp [saved, visits, target, kind, CriticalRecord.visit, Context.visit, Pointing.part, State.visits_ordinary]

theorem State.enterCritical_leads (h : x.Leads s.visits) (before : s.uncritical) (cause : Cause) :
    x.Leads (s.enterCritical cause).visits := by
  rw [State.enterCritical_visits]
  refine h.step id fun law => ?_
  obtain ⟨critical, ordinary⟩ := Visits.Law.uncritical law before
  have whole : s.pen.pointing = none → s.dvc.state ≠ .held → s.faultTarget = none := fun idle free => by
    simp [State.faultTarget, idle, free]
  have held : s.dvc.state = .held → s.pen.pointing = none := fun held => by
    simpa [State.visits_flight] using (law.idle_held held).1
  have halted : s.dvc.state = .halted → s.pen.pointing = none := fun halted => by
    simpa [State.visits_flight] using law.visit.idle (by simp [State.visits_mode, halted]) (by simp [State.visits_mode, halted])
  have flies : ∀ p, s.pen.pointing = some p → s.faultTarget = some p.target := fun p some => by
    simp [State.faultTarget, some]
  refine ⟨law.table.of_holds rfl rfl fun n k => ?_, ⟨fun no => absurd rfl no, ?_, nofun, law.visit.ordinary, ?_, ?_, ?_⟩⟩
  · simp only [Visits.Holds, critical, State.visits_flight]
    cases pointing : s.pen.pointing with
    | none => simp
    | some p => simp [flies p pointing, Pointing.visit, or_comm]
  · simp
  · rintro r same atHeld
    obtain rfl := Option.some.inj same
    have state : s.dvc.state = .held := atHeld
    simp [held state, State.faultTarget, state, State.visits_ordinary, Option.bind_map, Context.visit, Function.comp_def]
  · rintro r same free
    obtain rfl := Option.some.inj same
    refine ⟨ordinary free, ?_⟩
    cases pointing : s.pen.pointing with
    | none => simp [whole pointing free]
    | some p => simp [flies p pointing]
  · rintro r same atHalted
    obtain rfl := Option.some.inj same
    have state : s.dvc.state = .halted := atHalted
    simp [halted state, whole (halted state) (by simp [state])]

theorem State.firstFault_leads (h : x.Leads s.visits) (before : s.uncritical) (cause : Cause) :
    x.Leads (s.firstFault cause).visits := by
  unfold State.firstFault
  split
  · exact State.enterCritical_leads h before cause
  · exact State.enterLockout_leads h cause

theorem State.takeFault_leads (h : x.Leads s.visits) (a : Axis) (cause : Cause) (raised : Notices) :
    x.Leads (s.takeFault a cause raised).visits := by
  unfold State.takeFault
  split
  · split
    · exact h
    · exact State.enterLockout_leads h cause
  · exact h
  · rename_i critical lockout
    split
    · rename_i restarting
      have mode : (s.holdBoth.warmValues raised).visits.mode = (.run, .none) := by rw [State.warmValues_visits]
      refine State.firstFault_leads (State.warmValues_leads _ raised fun law => ?_) ?_ cause
      · rw [State.holdBoth_visits]
        exact (h.law law).visit.restarting_idle restarting
      · obtain ⟨state, -⟩ := Prod.mk.inj mode
        exact ⟨by rw [state]; decide, by rw [state]; decide, by simp [State.restarting, state]⟩
    · rename_i going
      exact State.firstFault_leads h ⟨critical, lockout, by simpa using going⟩ cause

theorem State.takeRestart_leads (h : x.Leads s.visits) (raised : Notices) : x.Leads (s.takeRestart raised).visits := by
  have lands : s.visits.Lands s.restartBegins.visits := (s.setJog .none).endPointing_lands .abandoned
  have flight : s.restartBegins.visits.flight = none := by rw [lands.same]
  have begins : x.Leads s.restartBegins.visits := h.trans lands.leads
  unfold State.takeRestart
  dsimp only
  split
  · exact State.warmValues_leads _ raised fun _ => flight
  · simp only [State.stopIfMoving_visits, State.setDvc_visits, ← State.visits_ordinary, ← State.visits_critical]
    refine begins.step id fun law => ⟨law.table.of_holds rfl rfl fun _ _ => Iff.rfl, ?_⟩
    obtain ⟨-, -, -, ordinary, fromHeld, alone, fromHalted⟩ := law.visit
    exact ⟨fun flies => absurd flight flies, by simp, nofun, ordinary, fromHeld, alone, fromHalted⟩

theorem State.restartExpires_leads (h : x.Leads s.visits) (restarting : s.restarting = true) (raised : Notices) :
    x.Leads (s.restartExpires raised).visits := by
  unfold State.restartExpires
  have held : ∀ (t : State) (a : Axis), State.visits (if (t.axis a).inMotion then
      { t.holdAxis a with dsl := { (t.holdAxis a).dsl with restartHold := (t.holdAxis a).dsl.restartHold.set a true } }
      else t) = t.visits := fun t a => by
    split
    · exact t.holdAxis_visits a
    · rfl
  refine State.warmValues_leads _ raised fun law => ?_
  refine (congrArg Visits.flight ((held _ .v).trans (held _ .h))).trans ?_
  exact (h.law law).visit.restarting_idle restarting

theorem State.restartTick_leads (h : x.Leads s.visits) (raised : Notices) : x.Leads (s.restartTick raised).visits := by
  unfold State.restartTick
  dsimp only
  split
  · rename_i restarting
    split
    · exact State.restartExpires_leads (s := s.setDvc { s.dvc with restartTimer := some _ }) (by simpa using h) restarting raised
    · simpa using h
  · exact h

theorem State.encoderSilent_leads (h : x.Leads s.visits) (a : Axis) (raised : Notices) :
    x.Leads (s.encoderSilent a raised).visits := by
  have silent : x.Leads (s.setSilence a 0).visits := by simpa using h
  unfold State.encoderSilent
  dsimp only
  split
  · exact silent
  · exact State.takeFault_leads silent a _ raised

theorem State.watchEncoder_leads (h : x.Leads s.visits) (a : Axis) (held : Bool) (raised : Notices) :
    x.Leads (s.watchEncoder a held raised).visits := by
  unfold State.watchEncoder
  dsimp only
  split
  · simpa using h
  · split
    · exact State.encoderSilent_leads h a raised
    · simpa using h

theorem State.expiryDrives_leads (h : x.Leads s.visits) (raised : Notices) : x.Leads (s.expiryDrives raised).visits := by
  unfold State.expiryDrives
  exact State.watchEncoder_leads (State.watchEncoder_leads (by simpa using h) _ _ raised) _ _ raised

end

end Sys2Proof.Machine
end

section
/-! SUPPORT. Shots, records, camera frames and the pointing's timers keep law 4: each leaves the visit in flight, or ends it
(R61 to R80, R117 to R128). -/

namespace Sys2Proof.Machine

open Sys2Proof

section
variable {x : Visits} {s : State} {p : Pointing}

/-- The visit in flight put in flight again. -/
theorem Visits.fly_eq {v : Visits} {y : Nat × PointingKind} (h : v.flight = some y) : { v with flight := some y } = v := by
  rw [← h]

theorem State.visits_flight_some (h : s.pen.pointing = some p) : s.visits.flight = some p.visit := by
  rw [State.visits_flight, h]
  rfl

/-! ### The end with an outcome -/

theorem State.endPointing_leads (h : x.Leads s.visits) (o : Verdict) : x.Leads (s.endPointing o).visits :=
  h.trans (s.endPointing_lands o).leads

theorem State.failPointing_leads (h : x.Leads s.visits) (o : Verdict) : x.Leads (s.failPointing o).visits := by
  unfold State.failPointing
  split
  · exact h
  · exact State.endPointing_leads (by simpa using h) _

theorem State.shotFails_leads (h : x.Leads s.visits) (o : Verdict) : x.Leads (s.shotFails o).visits := by
  unfold State.shotFails
  split
  · exact h
  · dsimp only
    split
    · exact State.endPointing_leads (by simpa using h) _
    · exact State.failPointing_leads (by simpa using h) _

theorem State.retryDeclined_leads (h : x.Leads s.visits) : x.Leads s.retryDeclined.visits := by
  unfold State.retryDeclined
  split
  · exact h
  · split
    · simpa using h
    · exact State.endPointing_leads (by simpa using h) _

theorem State.retryOr_leads (h : x.Leads s.visits) (o : Verdict) : x.Leads (s.retryOr o).visits := by
  unfold State.retryOr
  split
  · exact h
  · rename_i p flies
    split
    · split
      · exact State.retryDeclined_leads h
      · rw [State.fire_visits, State.visits_of_flight flies]
        exact h
    · exact State.shotFails_leads h o

theorem State.dwellRunsOut_leads (h : x.Leads s.visits) : x.Leads s.dwellRunsOut.visits := by
  unfold State.dwellRunsOut
  split
  · exact h
  · exact State.endPointing_leads (by simpa using h) _

/-! ### Records (R128) -/

theorem State.recordMade_leads (h : x.Leads s.visits) (flies : s.visits.flight = some p.visit) :
    x.Leads (s.recordMade p).visits := by
  have same : ∀ q : Pointing, q.visit = p.visit → x.Leads (s.setPointing (some q)).visits := fun q same => by
    rw [State.setPointing_visits, Option.map_some, same, Visits.fly_eq flies]
    exact h
  unfold State.recordMade
  dsimp only
  split
  · exact State.endPointing_leads (same _ rfl) _
  · have follows := fun n y k z =>
      same { p with attempts := 0, reservation := false, followCount := n, dwell := y, phase := k, track := z } rfl
    repeat' split
    · exact State.endPointing_leads (follows _ _ _ _) _
    · exact follows _ _ _ _
    · exact State.endPointing_leads (follows _ _ _ _) _
    · exact follows _ _ _ _

theorem State.makeRecord_visits (s : State) (p : Pointing) (c : Capture) (hd : Heading) :
    ∃ u : State, u.visits = s.visits ∧ s.makeRecord p c hd = u.recordMade p := by
  refine ⟨_, ?_, rfl⟩
  refine (State.setEntry_sameRow (by rfl)).trans ((State.beginObs_visits _).trans ?_)
  split
  · exact State.suspectTest_visits _ _ _
  · rfl

theorem State.completeCapture_leads (h : x.Leads s.visits) (c : Capture) (rH rV : Int) :
    x.Leads (s.completeCapture c rH rV).visits := by
  unfold State.completeCapture
  split
  · exact h
  · rename_i p flies
    dsimp only
    split
    · exact State.shotFails_leads h _
    · obtain ⟨u, same, made⟩ :=
        s.makeRecord_visits p c (forwardReduction s rH rV ((s.squ.last.map (·.at_)).getD { dx := 0, dy := 0 }))
      rw [made]
      exact State.recordMade_leads (by rwa [same]) (by rw [same, State.visits_flight_some flies])

theorem State.settleCapture_leads (h : x.Leads s.visits) (id : Nat) (c : Capture) : x.Leads (s.settleCapture id c).visits := by
  unfold State.settleCapture
  split
  · exact State.completeCapture_leads h _ _ _
  · exact h

theorem State.capture_leads (h : x.Leads s.visits) (id : Nat) (time distance : Int) (strength : Nat) :
    x.Leads (s.capture id time distance strength).visits := by
  unfold State.capture
  dsimp only
  split
  · exact State.retryOr_leads h _
  · exact State.settleCapture_leads h _ _

theorem State.captureSample_leads (h : x.Leads s.visits) (a : Axis) : x.Leads (s.captureSample a).visits := by
  unfold State.captureSample
  split
  · split
    · exact h
    · exact State.settleCapture_leads h _ _
  · exact h

theorem State.answer_leads (h : x.Leads s.visits) (id : Nat) (time distance : Int) (strength : Nat) (status : RangeStatus) :
    x.Leads (s.answer id time distance strength status).visits := by
  cases status with
  | ok => exact State.capture_leads h _ _ _ _
  | weak | noisy => exact State.retryOr_leads h _
  | multi | noReturn => exact State.shotFails_leads h _

theorem State.rangeArrives_leads (h : x.Leads s.visits) (id age : Nat) (distance : Int) (strength : Nat) (status : RangeStatus) :
    x.Leads (s.rangeArrives id age distance strength status).visits := by
  unfold State.rangeArrives
  repeat' split
  · exact State.answer_leads h _ _ _ _ _
  · exact h
  · exact h

theorem State.acceptSample_leads (h : x.Leads s.visits) (a : Axis) (y : Sample) : x.Leads (s.acceptSample a y).visits := by
  unfold State.acceptSample
  dsimp only
  have taken : ∀ u : State, x.Leads u.visits → x.Leads ((u.settleSample a y).captureSample a).visits := fun u g =>
    State.captureSample_leads (by simpa using g) a
  split
  · rw [State.feedSample_visits]
    exact taken _ h
  · exact taken _ h

/-! ### Camera frames -/

theorem State.countAmbiguous_leads {rest : State → State} (h : x.Leads s.visits)
    (goes : ∀ t : State, x.Leads t.visits → x.Leads (rest t).visits) : x.Leads (s.countAmbiguous rest).visits := by
  unfold State.countAmbiguous
  dsimp only
  split
  · exact State.failPointing_leads (by simpa using h) _
  · exact goes _ (by simpa using h)

theorem State.countLoss_leads {rest : State → State} (h : x.Leads s.visits) (lost : Verdict)
    (goes : ∀ t : State, x.Leads t.visits → x.Leads (rest t).visits) : x.Leads (s.countLoss lost rest).visits := by
  unfold State.countLoss
  dsimp only
  split
  · exact State.failPointing_leads (by simpa using h) _
  · exact goes _ (by simpa using h)

theorem State.legEmpty_leads (h : x.Leads s.visits) (flies : s.visits.flight = some p.visit) (leg : Nat) :
    x.Leads (s.legEmpty p leg).visits := by
  have same : x.Leads { s.visits with flight := some p.visit } := by rwa [Visits.fly_eq flies]
  unfold State.legEmpty
  dsimp only
  split
  · exact State.failPointing_leads same _
  · rw [State.startLeg_visits]
    exact same

theorem State.frameAcquire_leads (h : x.Leads s.visits) (flies : s.visits.flight = some p.visit) (r : SpotResult) :
    x.Leads (s.frameAcquire p r).visits := by
  have same : x.Leads { s.visits with flight := some p.visit } := by rwa [Visits.fly_eq flies]
  cases r with
  | chosen o => simpa [State.frameAcquire, Pointing.visit] using same
  | ambiguous => exact State.countAmbiguous_leads h fun _ g => g
  | noCandidate => simpa [State.frameAcquire] using same

theorem State.frameLook_leads (h : x.Leads s.visits) (flies : s.visits.flight = some p.visit) (r : SpotResult) :
    x.Leads (s.frameLook p r).visits := by
  have same : x.Leads { s.visits with flight := some p.visit } := by rwa [Visits.fly_eq flies]
  cases r with
  | chosen o => simpa [State.frameLook, Pointing.visit] using same
  | ambiguous => exact State.countAmbiguous_leads h fun _ g => g
  | noCandidate => exact State.legEmpty_leads h flies _

theorem State.frameLocking_leads (h : x.Leads s.visits) (flies : s.visits.flight = some p.visit) (r : SpotResult) :
    x.Leads (s.frameLocking p r).visits := by
  have same : x.Leads { s.visits with flight := some p.visit } := by rwa [Visits.fly_eq flies]
  cases r with
  | chosen o => simpa [State.frameLocking] using same
  | ambiguous => exact State.countAmbiguous_leads h fun _ g => g
  | noCandidate =>
    simp only [State.frameLocking]
    split
    · simpa using same
    · exact State.legEmpty_leads (by simpa using h) (by simpa using flies) _

theorem State.frameCentre_leads (h : x.Leads s.visits) (flies : s.visits.flight = some p.visit) (r : SpotResult) :
    x.Leads (s.frameCentre p r).visits := by
  have same : x.Leads { s.visits with flight := some p.visit } := by rwa [Visits.fly_eq flies]
  have limit : ∀ (n : Nat) (t : State), x.Leads t.visits →
      x.Leads (if n = t.station.n.centreLimit then t.failPointing .unsettled else t).visits := fun n t g => by
    split
    · exact State.failPointing_leads g _
    · exact g
  cases r with
  | chosen o =>
    simp only [State.frameCentre]
    split
    · simpa [Pointing.visit] using same
    · split
      · exact State.failPointing_leads (by simpa using h) _
      · simpa using same
  | ambiguous =>
    simp only [State.frameCentre]
    exact State.countAmbiguous_leads (by simpa using h) fun _ g => State.countLoss_leads g _ fun t g => limit _ t g
  | noCandidate =>
    simp only [State.frameCentre]
    exact State.countLoss_leads (by simpa using h) _ fun t g => limit _ t g

theorem State.frameMeasure_leads (h : x.Leads s.visits) (flies : s.visits.flight = some p.visit) (r : SpotResult) :
    x.Leads (s.frameMeasure p r).visits := by
  have same : x.Leads { s.visits with flight := some p.visit } := by rwa [Visits.fly_eq flies]
  cases r with
  | chosen o => simpa [State.frameMeasure] using same
  | ambiguous => exact State.countAmbiguous_leads h fun _ g => State.countLoss_leads g _ fun _ g => g
  | noCandidate => exact State.countLoss_leads h _ fun _ g => g

theorem State.frameFollow_leads (h : x.Leads s.visits) (flies : s.visits.flight = some p.visit) (r : SpotResult) :
    x.Leads (s.frameFollow p r).visits := by
  have same : x.Leads { s.visits with flight := some p.visit } := by rwa [Visits.fly_eq flies]
  cases r with
  | chosen o =>
    simp only [State.frameFollow]
    split <;> simpa using same
  | ambiguous => exact State.countAmbiguous_leads h fun _ g => State.countLoss_leads g _ fun _ g => g
  | noCandidate => exact State.countLoss_leads h _ fun _ g => g

theorem State.frameTaken_leads (h : x.Leads s.visits) (flies : s.visits.flight = some p.visit) (r : SpotResult) :
    x.Leads (s.frameTaken p r).visits := by
  unfold State.frameTaken
  split
  · exact State.frameAcquire_leads h flies r
  · exact State.frameLook_leads h flies r
  · exact State.frameLocking_leads h flies r
  · exact State.frameCentre_leads h flies r
  · exact State.frameMeasure_leads h flies r
  · exact State.frameFollow_leads h flies r
  all_goals exact h

theorem Pointing.sighted_visit (p : Pointing) (tol : Int) (r : SpotResult) : (p.sighted tol r).visit = p.visit := by
  unfold Pointing.sighted
  split <;> rfl

theorem State.spotArrives_leads (h : x.Leads s.visits) (time : Int) (spots : List Spot) :
    x.Leads (s.spotArrives time spots).visits := by
  unfold State.spotArrives
  dsimp only
  split
  · exact h
  · rename_i p flies
    have same : x.Leads { s.visits with flight := some p.visit } := by rwa [State.visits_of_flight (s := s) flies]
    split
    · refine State.frameTaken_leads ?_ ?_ _
      · simp only [State.setPointing_visits, Option.map_some, Pointing.sighted_visit]
        exact same
      · simp only [State.setPointing_visits, Option.map_some]
    · exact same

/-! ### Timers -/

theorem State.rangeTick_leads (h : x.Leads s.visits) : x.Leads s.rangeTick.visits := by
  unfold State.rangeTick
  split
  · split
    · exact State.retryOr_leads h _
    · exact h
  · exact h

theorem State.followTick_leads (h : x.Leads s.visits) (flies : s.visits.flight = some p.visit) :
    x.Leads (s.followTick p).visits := by
  have same : x.Leads { s.visits with flight := some p.visit } := by rwa [Visits.fly_eq flies]
  unfold State.followTick
  dsimp only
  split
  · exact State.dwellRunsOut_leads same
  · split
    · rw [State.trackRunsOut_visits]
      exact same
    · exact same

theorem State.pointingTick_leads (h : x.Leads s.visits) : x.Leads s.pointingTick.visits := by
  unfold State.pointingTick
  split
  · exact h
  · rename_i p flies
    have same : ∀ q : Pointing, q.visit = p.visit → x.Leads (s.setPointing (some q)).visits := fun q same => by
      rw [State.setPointing_visits, Option.map_some, same, State.visits_of_flight flies]
      exact h
    split
    · exact h
    · dsimp only
      split
      · split
        · exact State.failPointing_leads (same { p with silence := _, settleTimer := _ } rfl) _
        · exact same { p with silence := _, settleTimer := _ } rfl
      · split
        · exact State.failPointing_leads (same { p with silence := _ } rfl) _
        · split
          · exact State.followTick_leads h ((State.visits_flight_some flies).trans rfl)
          · exact same { p with silence := _ } rfl

/-! ### The timers as events of their own -/

theorem State.settleTimesOut_leads (h : x.Leads s.visits) : x.Leads s.settleTimesOut.visits := by
  unfold State.settleTimesOut
  repeat' split
  · exact State.wrapUp_leads (State.failPointing_leads h _)
  all_goals exact h

theorem State.detectorSilent_leads (h : x.Leads s.visits) : x.Leads s.detectorSilent.visits := by
  unfold State.detectorSilent
  repeat' split
  · exact State.wrapUp_leads (State.failPointing_leads h _)
  all_goals exact h

theorem State.rangeTimesOut_leads (h : x.Leads s.visits) : x.Leads s.rangeTimesOut.visits := by
  unfold State.rangeTimesOut
  split
  · exact State.wrapUp_leads (State.retryOr_leads h _)
  · exact h

theorem State.trackExpires_leads (h : x.Leads s.visits) : x.Leads s.trackExpires.visits := by
  unfold State.trackExpires
  split
  · rename_i p flies
    have same : x.Leads { s.visits with flight := some p.visit } := by rwa [State.visits_of_flight flies]
    split
    · exact State.wrapUp_leads (by rw [State.trackRunsOut_visits]; exact same)
    · exact h
  · exact h

theorem State.dwellExpires_leads (h : x.Leads s.visits) : x.Leads s.dwellExpires.visits := by
  unfold State.dwellExpires
  split
  · rename_i p flies
    have same : x.Leads { s.visits with flight := some p.visit } := by rwa [State.visits_of_flight flies]
    split
    · exact State.wrapUp_leads (State.dwellRunsOut_leads same)
    · exact h
  · exact h

theorem State.captureCompletes_leads (h : x.Leads s.visits) (rawH rawV : Int) :
    x.Leads (s.captureCompletes rawH rawV).visits := by
  unfold State.captureCompletes
  split
  · exact State.wrapUp_leads (State.completeCapture_leads h _ _ _)
  · exact h

end

end Sys2Proof.Machine
end

section
/-! SUPPORT. The target table's own events and the requests keep law 4 (R21 to R30, R36 to R38, R42, R56, R149 to R161). -/

namespace Sys2Proof.Machine

open Sys2Proof

/-! ### Entries that fall due (R27 to R30) -/

section
variable {s : State}

theorem State.engaged_iff (s : State) (n : Nat) : s.engaged n = true ↔ s.visits.Holds n .oneOff := by
  have holds : ∀ c : Context, c.holdsOneOff n = true ↔ c.visit = (some n, some .oneOff) := fun c => by
    cases part : c.part <;> simp [Context.holdsOneOff, Context.visit, part]
  rw [Visits.Holds, State.visits_flight, State.visits_ordinary, State.visits_critical, State.engaged, or_assoc.symm]
  simp only [Bool.or_eq_true]
  refine or_congr (or_congr ?_ ?_) ?_
  · cases s.pen.pointing <;> simp [Pointing.visit]
  · cases s.dvc.ordinary <;> simp [holds]
  · cases s.dvc.critical <;> simp [holds, CriticalRecord.visit]

/-- What a countdown or a retry timer makes of an entry's state and deferred flag, and that it hands the entry over (R27 to
R30). -/
inductive FallsDue (engaged : Bool) : EntryState × Bool → EntryState × Bool → Prop → Prop
  | stays (r) : FallsDue engaged r r False
  | defers (d) : engaged = true → FallsDue engaged (.armed, d) (.due, true) False
  | falls (d) : engaged = false → FallsDue engaged (.armed, d) (.due, d) True
  | retries (d) : FallsDue engaged (.backoff, d) (.due, d) True

theorem FallsDue.of {engaged : Bool} {r r' : EntryState × Bool} {p q : Prop} (h : FallsDue engaged r r' p) (same : q ↔ p) :
    FallsDue engaged r r' q := propext same ▸ h

theorem Entry.countdownExpiry_row (e : Entry) (engaged : Bool) :
    FallsDue engaged e.row (e.countdownExpiry engaged).entry.row ((e.countdownExpiry engaged).handed = true) := by
  obtain ⟨d, row⟩ : ∃ d, e.row = (e.state, d) := ⟨_, rfl⟩
  unfold Entry.countdownExpiry
  dsimp only
  split
  case h_1 armed =>
    have row : e.row = (.armed, e.deferred) := by rw [Entry.row, armed]
    rw [row]
    cases engaged
    · exact (FallsDue.falls _ rfl).of (by simp)
    · exact (FallsDue.defers _ rfl).of (by simp)
  all_goals exact (FallsDue.stays _).of (by simp)

theorem Entry.tickCountdown_row (e : Entry) (engaged : Bool) :
    FallsDue engaged e.row (e.tickCountdown engaged).entry.row ((e.tickCountdown engaged).handed = true) := by
  unfold Entry.tickCountdown
  dsimp only
  split
  · split
    · exact Entry.countdownExpiry_row { e with countdown := e.countdown - 1 } engaged
    · exact (FallsDue.stays _).of (by simp)
  · exact (FallsDue.stays _).of (by simp)

theorem Entry.tickCountdown_backoff {e : Entry} (h : e.state = .backoff) (engaged : Bool) :
    (e.tickCountdown engaged).entry.row = e.row ∧ (e.tickCountdown engaged).handed = false := by
  have row := e.tickCountdown_row engaged
  unfold Entry.tickCountdown Entry.countdownExpiry
  dsimp only
  repeat' split
  all_goals simp_all [Entry.row]

theorem Entry.tick_row (e : Entry) (engaged : Bool) :
    FallsDue engaged e.row (e.tick engaged).entry.row ((e.tick engaged).handed = true) := by
  unfold Entry.tick
  dsimp only
  split
  · rename_i backoff
    obtain ⟨row, handed⟩ := Entry.tickCountdown_backoff backoff engaged
    have before : e.row = (.backoff, (e.tickCountdown engaged).entry.deferred) := by
      rw [← row, Entry.row, show (e.tickCountdown engaged).entry.state = .backoff from (congrArg Prod.fst row).trans backoff]
    split
    · split
      · rw [before]
        exact (FallsDue.retries _).of (by simp)
      · exact row ▸ (FallsDue.stays _).of (by simp [handed])
    · exact row ▸ (FallsDue.stays _).of (by simp [handed])
  · exact e.tickCountdown_row engaged

/-- Entries fall due, and those handed over join the queue. -/
theorem State.fallDue_table (h : s.visits.Table none) {t : State} {nums : List Nat} (nodup : nums.Nodup)
    (same : t.visits = { s.visits with rows := t.visits.rows })
    (moves : ∀ n, FallsDue (s.engaged n) (s.visits.row n) (t.visits.row n) (n ∈ nums)) : (t.enqueue nums).visits.Table none := by
  have queue : t.osc.queue = s.osc.queue := congrArg Visits.queue same
  have perm : ((t.enqueue nums).visits.queue.map (·.target)).Perm (nums ++ s.visits.queue.map (·.target)) := by
    have := t.enqueue_targets nums
    rwa [queue] at this
  have row : (t.enqueue nums).visits.row = t.visits.row := by rw [State.enqueue_visits]; rfl
  have owns : ∀ n k, (t.enqueue nums).visits.Owns none n k ↔ s.visits.Owns none n k := fun n k => by
    rw [State.enqueue_visits, same]
    exact Iff.rfl
  have engaged : ∀ n, s.engaged n = true ↔ s.visits.Owns none n .oneOff := fun n => by simp [s.engaged_iff, Visits.Owns]
  have shown : ∀ n, (s.visits.row n).2 = true → (s.visits.row n).1 = .due := fun n g => (h.deferred n g).1
  refine ⟨?_, fun n => ?_, fun n g => ?_, fun n g => ?_, fun n g => ?_, nofun⟩
  · rw [perm.nodup_iff]
    refine List.Nodup.append nodup h.once fun n mem queued => ?_
    have before := (h.queued n).mp queued
    have step := moves n
    rw [before] at step
    generalize t.visits.row n = r at step
    generalize hp : (n ∈ nums) = p at step
    cases step with
    | stays => exact hp ▸ mem
  · rw [perm.mem_iff, List.mem_append, h.queued, row]
    have step := moves n
    have clear := shown n
    generalize s.visits.row n = r at step clear
    generalize t.visits.row n = r' at step
    generalize (n ∈ nums) = p at step
    cases step with
    | stays => simp
    | defers => simp
    | falls d | retries d =>
      obtain rfl : d = false := by simpa using clear
      simp
  · rw [owns] at g
    have active := h.active n g
    have step := moves n
    rw [row]
    generalize s.visits.row n = r at step active
    generalize t.visits.row n = r' at step
    generalize (n ∈ nums) = p at step
    cases step with
    | stays => exact active
    | defers | falls | retries => cases active
  · rw [owns] at g
    have before := h.engaged n g
    have step := moves n
    rw [(engaged n).mpr g] at step
    rw [row]
    generalize s.visits.row n = r at step before
    generalize t.visits.row n = r' at step
    generalize (n ∈ nums) = p at step
    cases step with
    | stays => exact before
    | defers => simp
    | falls _ free => cases free
    | retries => simp at before
  · rw [row] at g ⊢
    rw [owns]
    have before := h.deferred n
    have held := (engaged n).mp
    have step := moves n
    generalize s.visits.row n = r at step before
    generalize t.visits.row n = r' at step g ⊢
    generalize s.engaged n = b at step held
    generalize (n ∈ nums) = p at step
    cases step with
    | stays => exact before g
    | defers _ set => exact ⟨rfl, held set⟩
    | falls => cases (before g).1
    | retries => cases (before g).1

end

section
variable {x : Visits} {s : State}

/-- Visits stand as they did where nothing but rows and queue have changed. -/
theorem Visits.Leads.of_table {v w : Visits} (h : x.Leads v) (ordered : Ordered v.queue → Ordered w.queue)
    (same : w = { v with rows := w.rows, queue := w.queue }) (table : v.Law → w.Table none) : x.Leads w :=
  h.step ordered fun law => by
    refine ⟨table law, ?_⟩
    obtain ⟨flying, free, held, ordinary, fromHeld, alone, fromHalted⟩ := law.visit
    rw [same]
    exact ⟨flying, free, held, ordinary, fromHeld, alone, fromHalted⟩

theorem State.fallDue_leads (h : x.Leads s.visits) {t : State} {nums : List Nat} (nodup : nums.Nodup)
    (same : t.visits = { s.visits with rows := t.visits.rows })
    (moves : ∀ n, FallsDue (s.engaged n) (s.visits.row n) (t.visits.row n) (n ∈ nums)) : x.Leads (t.enqueue nums).visits := by
  refine h.of_table (fun ordered => ?_) ?_ fun law => State.fallDue_table law.table nodup same moves
  · have queue : t.osc.queue = s.osc.queue := congrArg Visits.queue same
    exact State.enqueue_ordered (by rw [queue]; exact ordered) nums
  · rw [State.enqueue_visits, same]

theorem State.entry_of_range {t : State} {k : Nat} {f : Nat → Entry} (entries : t.entries = (List.range k).map f) {n : Nat}
    (inside : n < k) : t.entry n = f n := by
  rw [State.entry, entries, List.getD_eq_getElem?_getD, List.getElem?_map, List.getElem?_range inside]
  rfl

theorem State.tickTable_leads (h : x.Leads s.visits) : x.Leads s.tickTable.visits := by
  have moves : ∀ (t : State) (n : Nat), t.entries = ((List.range s.entries.length).map fun n => (s.tickOf n).entry) →
      FallsDue (s.engaged n) (s.entry n).row (t.entry n).row (n ∈ s.told (·.handed)) := fun t n entries => by
    rcases Nat.lt_or_ge n s.entries.length with inside | out
    · rw [State.entry_of_range entries inside]
      exact ((s.entry n).tick_row (s.engaged n)).of (by simp [State.told, State.tickOf, inside])
    · rw [s.entry_of_le out, State.entry_of_le (by simpa [entries] using out)]
      exact (FallsDue.stays _).of (by simp [State.told, Nat.not_lt.mpr out])
  rw [State.tickTable_eq]
  refine State.fallDue_leads h (List.nodup_range.filter _) rfl fun n => ?_
  rw [State.row_eq, State.row_eq]
  exact moves _ n rfl

/-- One entry falls due or stays, and is handed over where it says so. -/
theorem State.fallsDueAt_leads (h : x.Leads s.visits) {n : Nat} (inside : n < s.entries.length) {e : Entry} {handed : Bool} {t : State}
    (same : t.visits = (s.setEntry n e).visits) (moves : FallsDue (s.engaged n) (s.entry n).row e.row (handed = true)) :
    x.Leads (if handed then t.enqueue [n] else t).visits := by
  have placed : (if handed then t.enqueue [n] else t) = t.enqueue (if handed then [n] else []) := by cases handed <;> rfl
  rw [placed]
  refine State.fallDue_leads h (by cases handed <;> simp) (by rw [same, State.setEntry_visits]) fun m => ?_
  rw [same]
  by_cases own : m = n
  · subst own
    rw [State.row_setEntry_same inside, s.row_eq]
    exact moves.of (by cases handed <;> simp)
  · rw [State.row_setEntry_other own]
    exact (FallsDue.stays _).of (by cases handed <;> simp [own])

theorem State.countdownExpires_leads (h : x.Leads s.visits) (n : Nat) : x.Leads (s.countdownExpires n).visits := by
  unfold State.countdownExpires
  dsimp only
  split
  · rename_i counted
    refine State.wrapUp_leads (State.fallsDueAt_leads h counted.2 ?_ ((s.entry n).countdownExpiry_row (s.engaged n)))
    split <;> rfl
  · exact h

theorem State.retryExpires_leads (h : x.Leads s.visits) (n : Nat) : x.Leads (s.retryExpires n).visits := by
  unfold State.retryExpires
  split
  · rename_i retries
    obtain ⟨backoff, inside⟩ := retries
    have row : (s.entry n).row = (.backoff, (s.entry n).deferred) := by rw [Entry.row, backoff]
    exact State.wrapUp_leads (State.fallsDueAt_leads (handed := true) h inside rfl (row ▸ (FallsDue.retries _).of (by simp)))
  · exact h

/-! ### Requests about an entry (R21 to R23, R36 to R38, R56) -/

/-- Entry `n` is the target of no visit, where it is neither ACTIVE nor engaged. -/
theorem State.not_held (table : s.visits.Table none) {n : Nat} (state : (s.entry n).state ≠ .active) (free : s.engaged n = false)
    (k : PointingKind) : ¬s.visits.Holds n k := fun held => by
  cases k with
  | scheduled =>
    have active := table.active n (.inl held)
    rw [s.row_eq] at active
    exact state active
  | oneOff => exact absurd ((s.engaged_iff n).mpr held) (by simp [free])

theorem State.not_deferred (table : s.visits.Table none) {n : Nat} (h : (s.entry n).state ≠ .due ∨ s.engaged n = false) :
    (s.entry n).deferred = false := by
  by_contra set
  have deferred := table.deferred n
  rw [s.row_eq] at deferred
  obtain ⟨due, owned⟩ := deferred (by simpa [Entry.row] using set)
  obtain state | free := h
  · exact state due
  · exact absurd ((s.engaged_iff n).mpr (owned.resolve_right nofun)) (by simp [free])

/-- An entry that is the target of no visit is set aside: its number leaves the queue. -/
theorem State.aside_leads (h : x.Leads s.visits) {n : Nat} (state : (s.entry n).state ≠ .active) (free : s.engaged n = false) {e : Entry}
    (after : e.state ≠ .due) (idle : (s.entry n).deferred = false → e.deferred = false) :
    x.Leads ((s.unqueue n).setEntry n e).visits := by
  refine h.of_table (fun ordered => ?_) ?_ fun law => ?_
  · rw [State.setEntry_visits]
    exact List.Pairwise.filter _ ordered
  · simp
  · exact State.aside_table law.table (State.not_held law.table state free) (fun row => after (congrArg Prod.fst row))
      (idle (State.not_deferred law.table (.inr free)))

theorem State.takeLoadTarget_leads (h : x.Leads s.visits) (n : Nat) (l : TargetLoad) :
    x.Leads (s.takeLoadTarget n l).state.visits := by
  have loads : ∀ d, x.Leads (if (s.entry n).state = .active ∨ s.engaged n then s.refuse .state
      else State.answerDone ((s.unqueue n).setEntry n (loadedEntry d))).state.visits := fun d => by
    split
    · exact h
    · rename_i free
      obtain ⟨state, free⟩ := not_or.mp free
      obtain ⟨due, idle⟩ := loadedEntry_row d
      exact State.aside_leads h state (by simpa using free) due fun _ => idle
  unfold State.takeLoadTarget
  split
  · exact h
  · split
    · exact h
    · split
      · exact h
      · rename_i d _
        split
        · rename_i c held
          split
          · have same : ((s.setDvc { s.dvc with ordinary := some { c with recoverable := false } }).setEntry n
                { s.entry n with pendingDef := some d }).visits = s.visits := by
              refine (State.setEntry_sameRow (by rfl)).trans ?_
              have saved : s.visits.ordinary = some c.visit := by rw [State.visits_ordinary, held]; rfl
              change { s.visits with ordinary := some c.visit } = s.visits
              rw [← saved]
            exact same.symm ▸ h
          · exact loads d
        · exact loads d

theorem State.takeSuspend_leads (h : x.Leads s.visits) (n : Nat) : x.Leads (s.takeSuspend n).state.visits := by
  unfold State.takeSuspend
  dsimp only
  repeat' split
  all_goals try exact h
  rename_i free _
  simp only [not_or, Bool.not_eq_true] at free
  exact State.aside_leads h free.2.1 free.2.2 nofun id

theorem State.takeRestore_leads (h : x.Leads s.visits) (n : Nat) : x.Leads (s.takeRestore n).state.visits := by
  unfold State.takeRestore
  dsimp only
  repeat' split
  all_goals try exact h
  rename_i free
  simp only [not_or, Bool.not_eq_true, not_not] at free
  obtain ⟨suspended, free⟩ := free
  refine h.of_table id ?_ fun law => ?_
  · simp [State.answerDone]
  · exact State.setEntry_table law.table nofun (State.not_held law.table (by rw [suspended]; decide) free)
      (by simp [Entry.row, suspended]) (by simp [Entry.row]) (State.not_deferred law.table (.inr free))

theorem State.takeAim_leads (h : x.Leads s.visits) (n : Nat) : x.Leads (s.takeAim n).state.visits := by
  unfold State.takeAim
  repeat' split
  all_goals try exact h
  rename_i idle free
  simp only [not_or, not_not] at free
  obtain ⟨-, run, -, -, -, aimable⟩ := free
  simp only [State.answerDone, State.choose_visits, State.beginPointing_visits]
  have flight : s.visits.flight = none := by simpa [State.busy, State.visits_flight] using idle
  refine h.step id fun law => ?_
  obtain ⟨ordinary, critical⟩ := law.visit.free (.inl run)
  have state : (s.visits.row n).1.aimable = true := by rw [s.row_eq]; exact aimable
  have none : ∀ m k, ¬s.visits.Owns none m k := fun m k => by simp [Visits.Owns, Visits.Holds, flight, ordinary, critical]
  have owns : ∀ m k, Visits.Owns { s.visits with flight := some (n, .oneOff) } Option.none m k ↔ m = n ∧ k = .oneOff := fun m k => by
    simp [Visits.Owns, Visits.Holds, ordinary, critical, eq_comm]
  refine ⟨⟨law.table.once, law.table.queued, fun m g => ?_, fun m g => ?_, fun m g => ?_, nofun⟩, ?_⟩
  · cases ((owns m _).mp g).2
  · obtain ⟨rfl, -⟩ := (owns m _).mp g
    change (s.visits.row m).1 ≠ _ ∧ (s.visits.row m).1 ≠ _ ∧ ((s.visits.row m).1 = _ → _)
    cases other : (s.visits.row m).1 <;> simp_all [EntryState.aimable]
  · exact absurd (law.table.deferred m g).2 (none m _)
  · exact ⟨fun _ => .inl run, fun _ => ⟨ordinary, critical⟩, fun _ => critical, by simp [ordinary], by simp [critical],
      by simp [critical], by simp [critical]⟩

/-- What a new miss_limit makes of an entry's state and deferred flag. -/
theorem State.lowered_row (s : State) (limit n : Nat) (e : Entry) :
    (s.lowered limit n e).row = if s.judged limit n e = true ∧ e.waits = true then (.suspended, e.deferred) else e.row := by
  unfold State.lowered
  repeat' split
  all_goals rfl

theorem State.lowerMissLimit_table (table : s.visits.Table none) (limit : Nat) :
    (s.lowerMissLimit limit).visits.Table none := by
  have judged : ∀ n, s.judged limit n (s.entry n) = true → (s.entry n).state ≠ .active ∧ s.engaged n = false := fun n g => by
    simp only [State.judged, Bool.and_eq_true, decide_eq_true_eq, Bool.not_eq_true'] at g
    exact ⟨g.1.2, g.2⟩
  have row : ∀ n, (s.lowerMissLimit limit).visits.row n =
      if n ∈ s.setAside limit then (.suspended, false) else s.visits.row n := fun n => by
    rw [State.row_eq, s.row_eq]
    rcases Nat.lt_or_ge n s.entries.length with inside | out
    · rw [State.entry_of_range (congrArg State.entries (s.lowerMissLimit_eq limit)) inside, State.lowered_row]
      have aside : n ∈ s.setAside limit ↔ s.judged limit n (s.entry n) = true ∧ (s.entry n).waits = true := by
        simp [State.setAside, inside]
      simp only [aside]
      split
      · rename_i set
        rw [State.not_deferred table (.inr (judged n set.1).2)]
      · rfl
    · rw [s.entry_of_le out, State.entry_of_le (by simpa [State.lowerMissLimit_eq] using out)]
      rw [if_neg (by simp [State.setAside, Nat.not_lt.mpr out])]
  have owns : ∀ n k, (s.lowerMissLimit limit).visits.Owns none n k ↔ s.visits.Owns none n k := fun n k => by
    rw [State.lowerMissLimit_eq]
    exact Iff.rfl
  have free : ∀ n k, s.visits.Owns none n k → n ∉ s.setAside limit := fun n k owned mem => by
    simp only [State.setAside, List.mem_filter, Bool.and_eq_true] at mem
    obtain ⟨state, idle⟩ := judged n mem.2.1
    exact State.not_held table state idle k (owned.resolve_right nofun)
  have queue : (s.lowerMissLimit limit).visits.queue = s.osc.queue.filter fun x => !decide (x.target ∈ s.setAside limit) := by
    rw [State.lowerMissLimit_eq]
    rfl
  refine ⟨?_, fun n => ?_, fun n g => ?_, fun n g => ?_, fun n g => ?_, nofun⟩
  · rw [queue]
    exact table.once.sublist (List.filter_sublist.map _)
  · have queued := table.queued n
    rw [queue, row]
    simp only [State.visits_queue, List.mem_map] at queued
    split
    · rename_i set
      simp only [List.mem_map, List.mem_filter, Prod.mk.injEq, reduceCtorEq, false_and, iff_false]
      rintro ⟨y, ⟨-, stays⟩, rfl⟩
      simp [set] at stays
    · rename_i stays
      rw [← queued]
      simp only [List.mem_map, List.mem_filter]
      constructor
      · rintro ⟨y, ⟨mem, -⟩, rfl⟩
        exact ⟨y, mem, rfl⟩
      · rintro ⟨y, mem, rfl⟩
        exact ⟨y, ⟨mem, by simpa using stays⟩, rfl⟩
  · rw [owns] at g
    rw [row, if_neg (free n _ g)]
    exact table.active n g
  · rw [owns] at g
    rw [row, if_neg (free n _ g)]
    exact table.engaged n g
  · rw [row] at g ⊢
    rw [owns]
    split at g
    · cases g
    · rename_i stays
      rw [if_neg stays]
      exact table.deferred n g

theorem State.lowerMissLimit_leads (h : x.Leads s.visits) (limit : Nat) : x.Leads (s.lowerMissLimit limit).visits := by
  refine h.of_table (fun ordered => ?_) ?_ fun law => State.lowerMissLimit_table law.table limit
  · rw [State.lowerMissLimit_eq]
    exact List.Pairwise.filter _ ordered
  · rw [State.lowerMissLimit_eq]
    rfl

end

end Sys2Proof.Machine
end

section
/-! SUPPORT. Every command keeps law 4 and the order of R46. The statement TheDueQueueStaysInOrder. -/

namespace Sys2Proof.Machine

open Sys2Proof

section
variable {x : Visits} {s : State}

/-! ### Requests -/

theorem State.takeLoadStation_leads (h : x.Leads s.visits) (l : StationLoad) : x.Leads (s.takeLoadStation l).state.visits := by
  have lowered : ∀ (u : State) (limit : Nat), u.visits = s.visits → x.Leads (u.lowerMissLimit limit).visits := fun u limit same =>
    State.lowerMissLimit_leads (same ▸ h) limit
  unfold State.takeLoadStation
  dsimp only
  repeat' split
  all_goals try exact h
  all_goals exact lowered _ _ rfl

theorem State.takeLoadSector_visits (a n m : Nat) (y : Int) : (s.takeLoadSector a n m y).state.visits = s.visits := by
  unfold State.takeLoadSector
  repeat' split
  all_goals rfl

theorem State.takeLoadZenith_visits (first last : Nat) (rows : List ZRow) :
    (s.takeLoadZenith first last rows).state.visits = s.visits := by
  unfold State.takeLoadZenith
  repeat' split
  all_goals rfl

theorem State.takeLoadDerate_visits (group : Nat) (l : DerateLoad) : (s.takeLoadDerate group l).state.visits = s.visits := by
  unfold State.takeLoadDerate
  dsimp only
  repeat' split
  · rfl
  · rfl
  · rfl
  · exact State.noticeFraction_visits _ _

theorem State.takeStart_leads (h : x.Leads s.visits) : x.Leads s.takeStart.state.visits := by
  unfold State.takeStart
  split
  · exact h
  · exact State.examineDispatch_leads (s := s.setOsc _) h

theorem State.takePause_leads (h : x.Leads s.visits) : x.Leads s.takePause.state.visits := by
  unfold State.takePause
  split
  case h_2 run => exact State.wrapUp_leads (State.enterStopping_leads h run (by decide))
  all_goals exact h

theorem State.takeClear_leads (h : x.Leads s.visits) : x.Leads s.takeClear.state.visits := by
  have cleared : (s.setDvc { s.dvc with critical := s.dvc.critical.map fun c => { c with cleared := true } }).visits = s.visits := by
    rw [State.setDvc_visits, Option.map_map]
    rfl
  unfold State.takeClear
  repeat' split
  all_goals try exact h
  exact cleared.symm ▸ h

theorem State.takeResume_leads (h : x.Leads s.visits) : x.Leads s.takeResume.state.visits := by
  unfold State.takeResume
  split
  · exact h
  · rename_i held
    split
    · exact h
    · exact State.examineDispatch_leads (State.resumeHeld_leads h held)
  · rename_i halted
    split
    · exact h
    · refine State.examineDispatch_leads (h.step (by simp) fun law => ?_)
      rw [State.choose_visits, State.enterRun_visits]
      have flight := law.visit.idle (by simp [State.visits_mode, halted]) (by simp [State.visits_mode, halted])
      obtain ⟨ordinary, critical⟩ := law.visit.free (.inr (.inl halted))
      exact ⟨law.table.of_holds rfl rfl fun _ _ => Iff.rfl, .of_none flight ordinary critical⟩
  · rename_i critical
    repeat' split
    all_goals try exact h
    exact State.examineDispatch_leads (State.resumeCritical_leads h critical ‹_›)
  · exact h

/-- The contexts freed, and DVC in RUN (R160). -/
theorem State.abandons_leads (h : x.Leads s.visits) (state : s.dvc.state = .held ∨ s.dvc.state = .critical) :
    x.Leads (s.discardContexts.enterRun.choose).examineDispatch.visits := by
  have freed := s.discardContexts_delivers
  refine State.examineDispatch_leads (h.step (fun ordered => ?_) fun law => ?_)
  · rw [State.choose_visits, State.enterRun_visits]
    exact freed.2 ordered
  · rw [State.choose_visits, State.enterRun_visits]
    have flight := law.visit.idle (by obtain e | e := state <;> simp [State.visits_mode, e])
      (by obtain e | e := state <;> simp [State.visits_mode, e])
    have table := State.discardContexts_table s law.table flight fun d n k saved => law.visit.apart saved
    refine ⟨table.of_holds rfl rfl fun _ _ => Iff.rfl, ?_⟩
    rw [freed.1]
    exact .of_none flight rfl rfl

theorem State.takeAbandon_leads (h : x.Leads s.visits) : x.Leads s.takeAbandon.state.visits := by
  unfold State.takeAbandon
  split
  · exact h
  · exact State.abandons_leads h (.inl ‹_›)
  · split
    · exact State.abandons_leads h (.inr ‹_›)
    · exact h
  · exact h

theorem State.takeRestartCommand_leads (h : x.Leads s.visits) : x.Leads s.takeRestartCommand.state.visits := by
  unfold State.takeRestartCommand
  repeat' split
  · exact h
  · exact h
  · exact State.wrapUpWith_leads (State.takeRestart_leads h _) _

theorem State.takeJog_visits (jH jV : Int) : (s.takeJog jH jV).state.visits = s.visits := by
  unfold State.takeJog
  repeat' split
  all_goals simp [State.refuse, State.answerDone]

theorem State.takePark_leads (h : x.Leads s.visits) : x.Leads s.takePark.state.visits := by
  unfold State.takePark
  repeat' split
  · exact h
  · exact State.wrapUp_leads (by simpa using h)
  · exact h

theorem State.takeSettime_visits (t : Nat) : (s.takeSettime t).state.visits = s.visits := by
  unfold State.takeSettime
  repeat' split
  all_goals simp [State.refuse, State.answerDone]

theorem State.takeKey_visits (k : Nat) : (s.takeKey k).state.visits = s.visits := by
  unfold State.takeKey
  repeat' split
  all_goals rfl

theorem State.takeBurn_visits (a n : Nat) (y : Int) : (s.takeBurn a n y).state.visits = s.visits := by
  unfold State.takeBurn
  repeat' split
  all_goals rfl

theorem State.takeStop_visits : s.takeStop.state.visits = s.visits := by
  unfold State.takeStop
  split <;> rfl

theorem State.takeHaltCommand_leads (h : x.Leads s.visits) : x.Leads s.takeHaltCommand.state.visits := by
  unfold State.takeHaltCommand
  split
  · exact h
  · exact State.takeHalt_leads h

theorem State.takeQueryTarget_visits (n : Nat) : (s.takeQueryTarget n).state.visits = s.visits := by
  unfold State.takeQueryTarget
  split <;> rfl

theorem State.takeQuerySector_visits (a : Nat) : (s.takeQuerySector a).state.visits = s.visits := by
  unfold State.takeQuerySector
  split <;> rfl

/-- Every request. -/
theorem State.perform_leads (h : x.Leads s.visits) (i : Instr) : x.Leads (s.perform i).state.visits := by
  cases i
  case loadTarget => exact State.takeLoadTarget_leads h _ _
  case loadStation => exact State.takeLoadStation_leads h _
  case loadZenith => exact (State.takeLoadZenith_visits _ _ _).symm ▸ h
  case loadSector => exact (State.takeLoadSector_visits _ _ _ _).symm ▸ h
  case loadDerate => exact (State.takeLoadDerate_visits _ _).symm ▸ h
  case start => exact State.takeStart_leads h
  case stop => exact State.takeStop_visits.symm ▸ h
  case aim => exact State.takeAim_leads h _
  case pause => exact State.takePause_leads h
  case halt => exact State.takeHaltCommand_leads h
  case resume => exact State.takeResume_leads h
  case clear => exact State.takeClear_leads h
  case abandon => exact State.takeAbandon_leads h
  case jog => exact (State.takeJog_visits _ _).symm ▸ h
  case park => exact State.takePark_leads h
  case settime => exact (State.takeSettime_visits _).symm ▸ h
  case suspend => exact State.takeSuspend_leads h _
  case restore => exact State.takeRestore_leads h _
  case key => exact (State.takeKey_visits _).symm ▸ h
  case burn => exact (State.takeBurn_visits _ _ _).symm ▸ h
  case restart => exact State.takeRestartCommand_leads h
  case queryTarget => exact (State.takeQueryTarget_visits _).symm ▸ h
  case querySector => exact (State.takeQuerySector_visits _).symm ▸ h
  all_goals exact h

theorem State.takeFrame_leads (h : x.Leads s.visits) (b : Buffered) : x.Leads (s.takeFrame b).visits := by
  cases b with
  | request i => exact State.perform_leads h i
  | wrongLength => exact h

theorem State.drain_leads (h : x.Leads s.visits) (n : Nat) : x.Leads (s.drain n).visits := by
  induction n generalizing s with
  | zero => exact h
  | succ n ih =>
    unfold State.drain
    split
    · exact h
    · split
      · exact ih (State.takeFrame_leads (by exact h) _)
      · exact h

theorem State.submit_leads (h : x.Leads s.visits) (us : Nat) (b : Buffered) : x.Leads (s.submit us b).visits := by
  unfold State.submit
  dsimp only
  split
  · exact State.drain_leads (by simpa using h) _
  · simpa using h

/-! ### The axis and sensor ports -/

theorem State.angleArrives_leads (h : x.Leads s.visits) (a : Axis) (raw : Int) (age : Nat) :
    x.Leads (s.angleArrives a raw age).visits := by
  unfold State.angleArrives
  dsimp only
  split
  · exact State.wrapUp_leads (State.acceptSample_leads (by simpa using h) _ _)
  · simpa using h

theorem State.reportStatus_leads (h : x.Leads s.visits) (a : Axis) (status : DriveStatus) :
    x.Leads (s.reportStatus a status).visits := by
  unfold State.reportStatus
  repeat' split
  · simpa using h
  · exact h
  · exact State.takeFault_leads (by simpa using h) a _ _

theorem State.statusArrives_leads (h : x.Leads s.visits) (a : Axis) (status : DriveStatus) (temp : Int) :
    x.Leads (s.statusArrives a status temp).visits := by
  refine State.wrapUp_leads ?_
  rw [State.driveTempArrives_visits]
  exact State.reportStatus_leads h a status

theorem State.levelSample_leads (h : x.Leads s.visits) (beyond : Bool) : x.Leads (s.levelSample beyond).visits := by
  unfold State.levelSample
  dsimp only
  repeat' split
  · exact State.loseLevel_leads h
  · exact h
  · exact h
  · exact State.regainLevel_leads h
  · exact h
  · exact h

theorem State.tiltArrives_leads (h : x.Leads s.visits) (tl tc : Int) (overrange : Bool) (temp : Int) :
    x.Leads (s.tiltArrives tl tc overrange temp).visits := by
  refine State.wrapUp_leads ?_
  rw [State.tiltSources_visits]
  exact State.levelSample_leads (by exact h) _

theorem State.receive_leads (h : x.Leads s.visits) (i : Instr) : x.Leads (s.receive i).visits := by
  unfold State.receive
  split
  · exact State.angleArrives_leads h _ _ _
  · exact State.statusArrives_leads h _ _ _
  · exact State.wrapUp_leads (State.spotArrives_leads h _ _)
  · exact State.wrapUp_leads (State.rangeArrives_leads h _ _ _ _ _)
  · exact State.tiltArrives_leads h _ _ _ _
  · exact h

theorem State.layoutChecked_leads (h : x.Leads s.visits) (port : Port) (l : Layout) :
    x.Leads (s.layoutChecked port l).visits := by
  cases l with
  | notReceived => exact h
  | impossible => simpa [State.layoutChecked] using h
  | arrived i => exact State.receive_leads h i

theorem State.rxEvent_leads (h : x.Leads s.visits) (us : Nat) (port : Port) (e : RxEvent) :
    x.Leads (s.rxEvent us port e).visits := by
  cases e with
  | discarded => simpa [State.rxEvent] using h
  | good f =>
    cases port with
    | axis => exact State.layoutChecked_leads h _ _
    | sensor => exact State.layoutChecked_leads h _ _
    | controller => exact State.submit_leads h _ _

theorem State.rxEvents_lead (h : x.Leads s.visits) (us : Nat) (port : Port) (es : List RxEvent) :
    x.Leads (es.foldl (fun t e => t.rxEvent us port e) s).visits := by
  induction es generalizing s with
  | nil => exact h
  | cons e es ih => exact ih (State.rxEvent_leads h us port e)

theorem State.bytesArrive_leads (h : x.Leads s.visits) (us : Nat) (port : Port) (bytes : List Byte) :
    x.Leads (s.bytesArrive us port bytes).visits :=
  State.rxEvents_lead (s := s.advanceTo us) (by simpa using h) us port _

theorem State.haltLineRises_leads (h : x.Leads s.visits) : x.Leads s.haltLineRises.visits := by
  unfold State.haltLineRises
  split
  · exact h
  · rw [State.recordMayGo_visits]
    exact State.wrapUp_leads (State.takeHalt_leads (by simpa using h))

/-! ### The transmitters -/

theorem State.beginReply_leads (h : x.Leads s.visits) : x.Leads s.beginReply.visits := by
  unfold State.beginReply
  repeat' split
  · exact State.drain_leads (by exact h) _
  · exact h
  · exact h

theorem State.endObs_leads (h : x.Leads s.visits) : x.Leads s.endObs.visits := by
  unfold State.endObs
  split
  · refine State.examineDispatch_leads ?_
    rw [State.transmitterFree_visits]
    exact h
  · exact h

theorem State.beginAlert_visits : s.beginAlert.visits = s.visits := by
  unfold State.beginAlert
  split <;> rfl

theorem State.beginDirection_visits : s.beginDirection.visits = s.visits := by
  unfold State.beginDirection
  repeat' split
  all_goals rfl

theorem State.endReply_visits : s.endReply.visits = s.visits := by
  unfold State.endReply
  split <;> simp

theorem State.endAlert_visits : s.endAlert.visits = s.visits := by
  unfold State.endAlert
  split <;> simp

theorem State.endDirection_visits : s.endDirection.visits = s.visits := by
  unfold State.endDirection
  split <;> simp

theorem State.beginDrive_visits (a : Axis) : (s.beginDrive a).visits = s.visits := by
  unfold State.beginDrive
  repeat' split
  all_goals rfl

theorem State.endDrive_visits (a : Axis) : (s.endDrive a).visits = s.visits := by
  unfold State.endDrive
  repeat' split
  all_goals rfl

theorem State.beginShot_visits : s.beginShot.visits = s.visits := by
  unfold State.beginShot
  repeat' split
  all_goals rfl

/-! ### The period expiry and the part's own events -/

theorem State.burnTick_leads (h : x.Leads s.visits) (cell : CellRead) : x.Leads (s.burnTick cell).visits := by
  unfold State.burnTick
  repeat' split
  · exact h
  · dsimp only
    split
    · exact State.autoResumeTest_leads (by simpa using h)
    · exact h

theorem State.expiryCounts_leads (h : x.Leads s.visits) (cell : CellRead) : x.Leads (s.expiryCounts cell).visits := by
  have counted : x.Leads s.endPeriod.tickTable.rangeTick.pointingTick.visits :=
    State.pointingTick_leads (State.rangeTick_leads (State.tickTable_leads (by simpa using h)))
  unfold State.expiryCounts
  dsimp only
  rw [State.jogTest_visits, State.jogTick_visits]
  exact State.burnTick_leads (by simpa using counted) cell

theorem State.periodExpires_leads (h : x.Leads s.visits) (cell : CellRead) : x.Leads (s.periodExpires cell).visits := by
  unfold State.periodExpires
  dsimp only
  rw [State.recordMayGo_visits]
  refine State.wrapUpWith_leads (State.expiryDrives_leads ?_ _) _
  exact State.restartTick_leads (State.stopTest_leads (State.expiryCounts_leads h cell) _) _

theorem State.axisArrives_leads (h : x.Leads s.visits) (a : Axis) : x.Leads (s.axisArrives a).visits := by
  unfold State.axisArrives
  dsimp only
  split
  · exact State.wrapUp_leads (by simpa using h)
  · exact h

theorem State.burnCompletes_leads (h : x.Leads s.visits) (cell : CellRead) : x.Leads (s.burnCompletes cell).visits := by
  unfold State.burnCompletes
  split
  · exact State.wrapUp_leads (State.autoResumeTest_leads (by simpa using h))
  · exact h

theorem State.encoderFallsSilent_leads (h : x.Leads s.visits) (a : Axis) : x.Leads (s.encoderFallsSilent a).visits := by
  unfold State.encoderFallsSilent
  split
  · exact h
  · exact State.wrapUp_leads (State.encoderSilent_leads h a _)

theorem State.restartTimesOut_leads (h : x.Leads s.visits) : x.Leads s.restartTimesOut.visits := by
  unfold State.restartTimesOut
  split
  · rename_i stops
    rw [State.beginObs_visits]
    exact State.wrapUp_leads (State.restartExpires_leads h stops.1 _)
  · exact h

theorem State.leaseExpires_leads (h : x.Leads s.visits) : x.Leads s.leaseExpires.visits := by
  unfold State.leaseExpires
  split
  · exact State.wrapUp_leads (by simpa using h)
  · exact h

theorem State.stopCompletes_leads (h : x.Leads s.visits) : x.Leads s.stopCompletes.visits := by
  unfold State.stopCompletes
  split
  · exact State.wrapUp_leads h
  · exact h

theorem State.levelIsLost_leads (h : x.Leads s.visits) : x.Leads s.levelIsLost.visits := by
  unfold State.levelIsLost
  split
  · exact State.wrapUp_leads (State.loseLevel_leads h)
  · exact h

theorem State.levelIsRegained_leads (h : x.Leads s.visits) : x.Leads s.levelIsRegained.visits := by
  unfold State.levelIsRegained
  split
  · exact State.wrapUp_leads (State.regainLevel_leads h)
  · exact h

theorem State.coldReset_leads : x.Leads s.coldReset.visits := by
  rw [State.coldReset_eq]
  refine ⟨fun _ => .nil, fun _ => ⟨?_, .of_none rfl rfl rfl⟩⟩
  exact (State.reset.queueLaw_iff.mp reset_queueLaw).table.of_holds rfl rfl fun _ _ => Iff.rfl

end

/-! ### Every command -/

theorem exec_leads (i : Instr) (s : State) : ∃ t, exec i s = .next t ∧ s.visits.Leads t.visits := by
  have at_ : ∀ us, s.visits.Leads (s.advanceTo us).visits := fun us => by simp
  have axisFrame : ∀ us, s.visits.Leads (s.advanceTo us).huntAxis.visits := fun us => by simp
  have sensorFrame : ∀ us, s.visits.Leads (s.advanceTo us).huntSensor.visits := fun us => by simp
  have still : ∀ {t : State}, t.visits = s.visits → s.visits.Leads t.visits := fun same => same ▸ .refl _
  cases i
  case coldReset => exact ⟨_, rfl, State.coldReset_leads⟩
  case haltLineAsserted => exact ⟨_, rfl, State.haltLineRises_leads (at_ _)⟩
  case haltLineReleased => exact ⟨_, rfl, at_ _⟩
  case periodExpiry => exact ⟨_, rfl, State.periodExpires_leads (.refl _) _⟩
  case angleFrame => exact ⟨_, rfl, State.angleArrives_leads (axisFrame _) _ _ _⟩
  case driveStatusFrame => exact ⟨_, rfl, State.statusArrives_leads (axisFrame _) _ _ _⟩
  case spotFrame => exact ⟨_, rfl, State.wrapUp_leads (State.spotArrives_leads (sensorFrame _) _ _)⟩
  case rangeFrame => exact ⟨_, rfl, State.wrapUp_leads (State.rangeArrives_leads (sensorFrame _) _ _ _ _ _)⟩
  case tiltFrame => exact ⟨_, rfl, State.tiltArrives_leads (sensorFrame _) _ _ _ _⟩
  case badFrame => exact ⟨_, rfl, State.bytesArrive_leads (.refl _) _ _ _⟩
  case burnCompletion => exact ⟨_, rfl, State.burnCompletes_leads (.refl _) _⟩
  case tiltStaleSet => exact ⟨_, rfl, .refl _⟩
  case replySent m => cases m; exacts [⟨_, rfl, State.beginReply_leads (.refl _)⟩, ⟨_, rfl, still State.endReply_visits⟩]
  case alertSent m => cases m; exacts [⟨_, rfl, still State.beginAlert_visits⟩, ⟨_, rfl, still State.endAlert_visits⟩]
  case obsSent m => cases m; exacts [⟨_, rfl, still s.beginObs_visits⟩, ⟨_, rfl, State.endObs_leads (.refl _)⟩]
  case directionSent m => cases m; exacts [⟨_, rfl, still State.beginDirection_visits⟩, ⟨_, rfl, still State.endDirection_visits⟩]
  case driveFrameSent a m => cases m; exacts [⟨_, rfl, still (State.beginDrive_visits a)⟩, ⟨_, rfl, still (State.endDrive_visits a)⟩]
  case shotFrameSent m => cases m; exacts [⟨_, rfl, still State.beginShot_visits⟩, ⟨_, rfl, .refl _⟩]
  case countdownExpiry => exact ⟨_, rfl, State.countdownExpires_leads (.refl _) _⟩
  case retryTimerExpiry => exact ⟨_, rfl, State.retryExpires_leads (.refl _) _⟩
  case settleTimeout => exact ⟨_, rfl, State.settleTimesOut_leads (.refl _)⟩
  case detectorSilence => exact ⟨_, rfl, State.detectorSilent_leads (.refl _)⟩
  case rangeTimeout => exact ⟨_, rfl, State.rangeTimesOut_leads (.refl _)⟩
  case trackTimerExpiry => exact ⟨_, rfl, State.trackExpires_leads (.refl _)⟩
  case dwellExpiry => exact ⟨_, rfl, State.dwellExpires_leads (.refl _)⟩
  case leaseExpiry => exact ⟨_, rfl, State.leaseExpires_leads (.refl _)⟩
  case sourceStale => exact ⟨_, rfl, still (s.sourceGoesStale_visits _)⟩
  case encoderSilence => exact ⟨_, rfl, State.encoderFallsSilent_leads (.refl _) _⟩
  case restartTimeout => exact ⟨_, rfl, State.restartTimesOut_leads (.refl _)⟩
  case axisArrival => exact ⟨_, rfl, State.axisArrives_leads (.refl _) _⟩
  case settleCompletion => exact ⟨_, rfl, still (s.settleCompletes_visits _)⟩
  case stopCompletion => exact ⟨_, rfl, State.stopCompletes_leads (.refl _)⟩
  case captureComplete => exact ⟨_, rfl, State.captureCompletes_leads (.refl _) _ _⟩
  case dispatch => exact ⟨_, rfl, State.examineDispatch_leads (.refl _)⟩
  case automaticResume => exact ⟨_, rfl, State.examineDispatch_leads (State.autoResumeTest_leads (.refl _))⟩
  case levelLoss => exact ⟨_, rfl, State.levelIsLost_leads (.refl _)⟩
  case levelRegained => exact ⟨_, rfl, State.levelIsRegained_leads (.refl _)⟩
  case siteTimeWrap => exact ⟨_, rfl, still s.siteTimeWraps_visits⟩
  all_goals exact ⟨_, rfl, State.submit_leads (.refl _) _ _⟩

theorem step_leads {s t : State} (h : step s = .next t) : s.visits.Leads t.visits := by
  cases pending : s.pending with
  | nil =>
    simp only [step, pending] at h
    cases h
    exact .refl _
  | cons c rest =>
    obtain ⟨u, taken, leads⟩ := exec_leads c { s with pending := rest }
    simp only [step, pending, taken] at h
    cases h
    exact leads

/-- Settles O9: law 4 speaks of the visits alone, and every command leads from visits that keep it to visits that keep it. -/
theorem theDueQueueStaysInOrder : Obligations.TheDueQueueStaysInOrder := by
  refine ⟨fun s t ordered h => (step_leads h).ordered ordered, fun s t law h => ?_⟩
  rw [State.queueLaw_iff] at law ⊢
  exact (step_leads h).law law

end Sys2Proof.Machine
end

section
/-! SUPPORT. LOAD TARGET (R21 to R23), SUSPEND and RESTORE (R36, R37) and AIM (R56). The statements LoadTargetChecksItsFields,
LoadTargetChangesAnEntry, SuspendAndRestore and AimRefusesOrBegins. -/

namespace Sys2Proof.Machine

open Sys2Proof

/-! ### A request that is taken at its arrival -/

/-- A request other than KEY taken at its arrival, by what its rule makes of it (R174, R176). -/
theorem exec_request {s : State} {i : Instr} {x : Answered} (takes : s.takesRequests)
    (arm : exec i s = .next (s.submit (Instr.hdr i).us (.request i))) (plain : ∀ locked progress, nextGuard locked progress i = 0)
    (answer : (s.frameAt (Instr.hdr i).us).perform i = x) :
    exec i s = .next (x.state.replied (Instr.hdr i).tag x.code x.body) := by
  subst answer
  rw [arm, s.submit_takes _ _ takes, State.takeFrame_request, plain]
  rfl

section
variable {s : State} {h : Hdr} {n : Nat} {x : Answered}

theorem exec_loadTarget {l : TargetLoad} (takes : s.takesRequests) (answer : (s.frameAt h.us).takeLoadTarget n l = x) :
    exec (.loadTarget h n l) s = .next (x.state.replied h.tag x.code x.body) :=
  exec_request takes rfl (fun _ _ => rfl) answer

theorem exec_suspend (takes : s.takesRequests) (answer : (s.frameAt h.us).takeSuspend n = x) :
    exec (.suspend h n) s = .next (x.state.replied h.tag x.code x.body) :=
  exec_request takes rfl (fun _ _ => rfl) answer

theorem exec_restore (takes : s.takesRequests) (answer : (s.frameAt h.us).takeRestore n = x) :
    exec (.restore h n) s = .next (x.state.replied h.tag x.code x.body) :=
  exec_request takes rfl (fun _ _ => rfl) answer

theorem exec_aim (takes : s.takesRequests) (answer : (s.frameAt h.us).takeAim n = x) :
    exec (.aim h n) s = .next (x.state.replied h.tag x.code x.body) :=
  exec_request takes rfl (fun _ _ => rfl) answer

end

/-! ### The definition that a LOAD TARGET carries (R21) -/

/-- The kind that a LOAD TARGET names by a code up to 3. -/
def namedKind (c : Nat) : TargetKind :=
  if c = 0 then .monitor else if c = 1 then .control else if c = 2 then .track else .noKind

theorem kindOfCode_eq (c : Nat) : kindOfCode c = if 3 < c then none else some (namedKind c) := by
  match c with
  | 0 | 1 | 2 | 3 => rfl
  | c + 4 => exact (if_pos (by omega)).symm

/-- The definition made of a load's own fields. -/
def carriedDefinition (l : TargetLoad) : Definition :=
  { kind := namedKind l.kind, enable := decide (l.enable = 1), priority := l.priority, periodic := decide (l.periodic = 1),
    period := l.period, offset := l.offset, hz := l.hz, v := l.v, d0 := l.d0, dtol := l.dtol, prism := l.prism, w := l.w,
    ilo := l.ilo, ihi := l.ihi, dwell := l.dwell }

/-- A byte is past its list, or, unless the kind is NONE, a field is out of its range or a cross-condition fails (R21). -/
def OutsideTarget (l : TargetLoad) : Prop :=
  3 < l.kind ∨ 1 < l.enable ∨ 1 < l.periodic
    ∨ (l.kind < 3
        ∧ (3 < l.priority ∨ l.period < 100 ∨ 86400000 < l.period ∨ l.period < l.offset ∨ l.hz < 0 ∨ 16777215 < l.hz
          ∨ l.v < 262144 ∨ 8126464 < l.v ∨ l.d0 < 0 ∨ 30000000 < l.d0 ∨ l.dtol < 1 ∨ 100000 < l.dtol ∨ l.prism < -1000
          ∨ 1000 < l.prism ∨ l.w < 256 ∨ 65535 < l.w ∨ 4095 < l.ihi ∨ l.ihi < l.ilo
          ∨ (l.kind = 2 ∧ (l.dwell < 1000 ∨ 600000 < l.dwell))))

theorem not_outsideTarget_iff (l : TargetLoad) :
    ¬OutsideTarget l ↔ ¬3 < l.kind ∧ ¬1 < l.enable ∧ ¬1 < l.periodic
      ∧ ((carriedDefinition l).kind = .noKind ∨ definitionInRange (carriedDefinition l) = true) := by
  have none : ¬3 < l.kind → ((carriedDefinition l).kind = .noKind ↔ l.kind = 3) := fun _ => by
    simp only [carriedDefinition, namedKind]
    repeat' split
    all_goals simp; try omega
  have track : (carriedDefinition l).kind ≠ .track ↔ l.kind ≠ 2 := by
    simp only [carriedDefinition, namedKind]
    repeat' split
    all_goals simp; try omega
  have range : definitionInRange (carriedDefinition l) = true ↔ 
      l.priority ≤ 3 ∧ 100 ≤ l.period ∧ l.period ≤ 86400000 ∧ l.offset ≤ l.period ∧ 0 ≤ l.hz ∧ l.hz ≤ 16777215
        ∧ 262144 ≤ l.v ∧ l.v ≤ 8126464 ∧ 0 ≤ l.d0 ∧ l.d0 ≤ 30000000 ∧ 1 ≤ l.dtol ∧ l.dtol ≤ 100000 ∧ -1000 ≤ l.prism
        ∧ l.prism ≤ 1000 ∧ 256 ≤ l.w ∧ l.w ≤ 65535 ∧ l.ihi ≤ 4095 ∧ l.ilo ≤ l.ihi
        ∧ (l.kind = 2 → 1000 ≤ l.dwell ∧ l.dwell ≤ 600000) := by
    simp only [definitionInRange, natIn, intIn, Bool.and_eq_true, Bool.or_eq_true, decide_eq_true_eq, track]
    simp only [carriedDefinition]
    omega
  by_cases top : 3 < l.kind
  · exact iff_of_false (fun h => h (.inl top)) fun h => h.1 top
  · rw [none top, range]
    unfold OutsideTarget
    omega

/-- A load in range carries the definition of its own fields. -/
theorem definitionOfLoad_inside {l : TargetLoad} (inside : ¬OutsideTarget l) : definitionOfLoad l = some (carriedDefinition l) := by
  obtain ⟨kind, enable, periodic, fields⟩ := (not_outsideTarget_iff l).mp inside
  simp only [definitionOfLoad, kindOfCode_eq, boolOfCode_eq, if_neg kind, if_neg enable, if_neg periodic]
  exact if_pos (by simpa [carriedDefinition] using fields)

/-- A load out of range carries none. -/
theorem definitionOfLoad_outside {l : TargetLoad} (outside : OutsideTarget l) : definitionOfLoad l = none := by
  simp only [definitionOfLoad, kindOfCode_eq, boolOfCode_eq]
  by_cases kind : 3 < l.kind
  · rw [if_pos kind]
  · by_cases enable : 1 < l.enable
    · rw [if_neg kind, if_pos enable]
    · by_cases periodic : 1 < l.periodic
      · rw [if_neg kind, if_neg enable, if_pos periodic]
      · rw [if_neg kind, if_neg enable, if_neg periodic]
        refine if_neg fun fields => (not_outsideTarget_iff l).mpr ⟨kind, enable, periodic, ?_⟩ outside
        simpa [carriedDefinition] using fields

/-! ### LOAD TARGET (R21 to R24) -/

section
variable {s : State} {n : Nat} {l : TargetLoad} {d : Definition}

theorem State.takeLoadTarget_range (unlocked : s.locked = false) (h : 63 < n ∨ definitionOfLoad l = none) :
    s.takeLoadTarget n l = s.refuse .range := by
  rw [State.takeLoadTarget, unlocked, if_neg (by simp)]
  by_cases top : 63 < n
  · rw [if_pos top]
  · rw [if_neg top, h.resolve_left top]

/-- A definition for an entry that no ordinary context names. -/
theorem State.takeLoadTarget_free (unlocked : s.locked = false) (inside : n ≤ 63) (carried : definitionOfLoad l = some d)
    (free : ∀ c, s.dvc.ordinary = some c → c.target ≠ some n) :
    s.takeLoadTarget n l =
      if (s.entry n).state = .active ∨ s.engaged n = true then s.refuse .state
      else State.answerDone ((s.unqueue n).setEntry n (loadedEntry d)) := by
  rw [State.takeLoadTarget, unlocked, if_neg (by simp), if_neg (by omega), carried]
  cases held : s.dvc.ordinary with
  | none => rfl
  | some c => exact if_neg (free c held)

/-- A definition for the entry that the ordinary context names. -/
theorem State.takeLoadTarget_held {c : Context} (unlocked : s.locked = false) (inside : n ≤ 63)
    (carried : definitionOfLoad l = some d) (held : s.dvc.ordinary = some c) (same : c.target = some n) :
    s.takeLoadTarget n l =
      State.answerDone
        ((s.setDvc { s.dvc with ordinary := some { c with recoverable := false } }).setEntry n
          { s.entry n with pendingDef := some d }) := by
  rw [State.takeLoadTarget, unlocked, if_neg (by simp), if_neg (by omega), carried]
  simp only [held]
  exact if_pos same

end

/-- The three shapes of a loaded entry as one record (R22). -/
theorem loadedEntry_eq (d : Definition) :
    loadedEntry d =
      { definition := if d.kind = .noKind then zeroDefinition else d,
        state := if d.kind = .noKind then .empty else if d.enable then .armed else .disabled,
        countdown := if d.kind ≠ .noKind ∧ d.enable = true then d.offset else 0, retry := none, misses := 0, overruns := 0,
        deferred := false, pendingDef := none, lastOutcome := none, lastSummary := none } := by
  unfold loadedEntry
  by_cases none : d.kind = .noKind
  · simp [none, emptyEntry]
  · cases d.enable <;> simp [none, emptyEntry]

theorem State.frameAt_entry (s : State) (us n : Nat) : (s.frameAt us).entry n = s.entry n := by
  rw [State.entry, State.entry, State.frameAt_entries]

/-- Settles O21: what is out of range carries no definition, by the list of R21. -/
theorem loadTargetChecksItsFields : Obligations.LoadTargetChecksItsFields := by
  intro s h n l takes free outside
  have unlocked := (s.frameAt_locked h.us).trans (decide_eq_false free)
  refine exec_loadTarget takes (x := (s.frameAt h.us).refuse .range) (State.takeLoadTarget_range unlocked ?_)
  exact outside.imp_right definitionOfLoad_outside

/-- Settles O22: the definition carried, and the three places where it goes. -/
theorem loadTargetChangesAnEntry : Obligations.LoadTargetChangesAnEntry := by
  refine ⟨fun l => ⟨definitionOfLoad_inside, definitionOfLoad_outside⟩, fun s n => ?_, fun s h n l d takes free inside carried
    unnamed => ?_, fun s h n l d c takes free inside carried held same => ?_⟩
  · rw [s.engaged_iff, s.holds_iff]
  · have unlocked := (s.frameAt_locked h.us).trans (decide_eq_false free)
    have taken := State.takeLoadTarget_free (s := s.frameAt h.us) unlocked inside carried (by simpa using unnamed)
    rw [State.frameAt_entry, State.frameAt_engaged] at taken
    refine ⟨fun refuses => ?_, fun state idle => ?_⟩
    · exact exec_loadTarget takes (taken.trans (if_pos refuses))
    · have done := exec_loadTarget takes (taken.trans (if_neg (by simp [state, idle])))
      simp only [loadedEntry_eq, State.unqueue, State.setEntry, State.setOsc, State.frameAt_osc, State.frameAt_entries] at done
      exact done
  · have unlocked := (s.frameAt_locked h.us).trans (decide_eq_false free)
    have done := exec_loadTarget takes (State.takeLoadTarget_held unlocked inside carried (by simpa using held) same)
    simp only [State.frameAt_entry, State.setEntry, State.setDvc, State.frameAt_dvc, State.frameAt_entries] at done
    exact done

/-! ### SUSPEND and RESTORE (R36, R37) -/

section
variable {s : State} {n : Nat}

theorem State.takeSuspend_locked (locked : s.locked = true) : s.takeSuspend n = s.refuse .lockout := by
  rw [State.takeSuspend, if_pos locked]

theorem State.takeSuspend_out (unlocked : s.locked = false) (out : 63 < n) : s.takeSuspend n = s.refuse .range := by
  rw [State.takeSuspend, unlocked, if_neg (by simp), if_pos out]

/-- SUSPEND of an entry of the table, by the entry's state (R36). -/
theorem State.takeSuspend_inside (unlocked : s.locked = false) (inside : n ≤ 63) :
    s.takeSuspend n =
      if (s.entry n).state = .empty ∨ (s.entry n).state = .active ∨ s.engaged n = true then s.refuse .state
      else if (s.entry n).state = .suspended then s.answerDone
      else State.answerDone ((s.unqueue n).setEntry n { s.entry n with state := .suspended, retry := none }) := by
  rw [State.takeSuspend, unlocked, if_neg (by simp), if_neg (by omega)]

theorem State.takeRestore_locked (locked : s.locked = true) : s.takeRestore n = s.refuse .lockout := by
  rw [State.takeRestore, if_pos locked]

theorem State.takeRestore_out (unlocked : s.locked = false) (out : 63 < n) : s.takeRestore n = s.refuse .range := by
  rw [State.takeRestore, unlocked, if_neg (by simp), if_pos out]

/-- RESTORE of an entry of the table (R37). -/
theorem State.takeRestore_inside (unlocked : s.locked = false) (inside : n ≤ 63) :
    s.takeRestore n =
      if (s.entry n).state ≠ .suspended ∨ s.engaged n = true then s.refuse .state
      else
        State.answerDone
          (s.setEntry n { s.entry n with state := .armed, countdown := (s.entry n).definition.period, misses := 0 }) := by
  rw [State.takeRestore, unlocked, if_neg (by simp), if_neg (by omega)]

end

/-- Settles O28: each request by the test of its rule that decides. -/
theorem suspendAndRestore : Obligations.SuspendAndRestore := by
  refine ⟨fun s h n takes => ⟨fun lockout => ?_, fun free out => ?_, fun free inside refuses => ?_,
      fun free inside state idle => ?_, fun free inside idle state => ?_⟩,
    fun s h n takes => ⟨fun lockout => ?_, fun free out => ?_, fun free inside refuses => ?_, fun free inside state idle => ?_⟩⟩
  · exact exec_suspend takes (State.takeSuspend_locked ((s.frameAt_locked h.us).trans (decide_eq_true lockout)))
  · exact exec_suspend takes (State.takeSuspend_out ((s.frameAt_locked h.us).trans (decide_eq_false free)) out)
  · have taken := State.takeSuspend_inside ((s.frameAt_locked h.us).trans (decide_eq_false free)) inside
    rw [State.frameAt_entry, State.frameAt_engaged] at taken
    exact exec_suspend takes (taken.trans (if_pos refuses))
  · have taken := State.takeSuspend_inside ((s.frameAt_locked h.us).trans (decide_eq_false free)) inside
    rw [State.frameAt_entry, State.frameAt_engaged, if_neg (by simp [state, idle]), if_pos state] at taken
    exact exec_suspend takes taken
  · have taken := State.takeSuspend_inside ((s.frameAt_locked h.us).trans (decide_eq_false free)) inside
    rw [State.frameAt_entry, State.frameAt_engaged, if_neg (by rintro (e | e | e) <;> simp_all),
      if_neg (by intro e; simp_all)] at taken
    have done := exec_suspend takes taken
    simp only [State.unqueue, State.setEntry, State.setOsc, State.frameAt_osc, State.frameAt_entries] at done
    exact done
  · exact exec_restore takes (State.takeRestore_locked ((s.frameAt_locked h.us).trans (decide_eq_true lockout)))
  · exact exec_restore takes (State.takeRestore_out ((s.frameAt_locked h.us).trans (decide_eq_false free)) out)
  · have taken := State.takeRestore_inside ((s.frameAt_locked h.us).trans (decide_eq_false free)) inside
    rw [State.frameAt_entry, State.frameAt_engaged] at taken
    exact exec_restore takes (taken.trans (if_pos refuses))
  · have taken := State.takeRestore_inside ((s.frameAt_locked h.us).trans (decide_eq_false free)) inside
    rw [State.frameAt_entry, State.frameAt_engaged, if_neg (by simp [state, idle])] at taken
    have done := exec_restore takes taken
    simp only [State.setEntry, State.frameAt_entries] at done
    exact done

end Sys2Proof.Machine
end

section
/-! SUPPORT. What a period expiry, an expiry of its own and an outcome make of an entry (R26 to R34), and the timers of a
pointing that run out (R64, R75, R76, R78). The statements OutcomesMoveTheEntry, EntriesFallDue and PointingTimersRunOut. -/

namespace Sys2Proof.Machine

open Sys2Proof

/-! ### The outcome of a scheduled pointing (R32 to R34) -/

section
variable {e : Entry} {n : StationNumbers} {o : Verdict}

/-- A charged outcome counts a miss, and sets the entry aside where the count reaches the limit (R32, R33). -/
theorem Entry.afterOutcome_charged (charged : o = .obscured ∨ o = .crowded ∨ o = .mismatch) :
    e.afterOutcome n o =
      if n.missLimit ≤ e.misses + 1 then e.suspendAt n.missLimit
      else
        { entry :=
            { e with
              misses := e.misses + 1, state := .backoff,
              retry := some (min (n.backoffBase * 2 ^ (e.misses + 1 - 1)) n.backoffCap) },
          handed := false, suspended := false } := by
  obtain rfl | rfl | rfl := charged <;> rfl

/-- An uncharged failure backs off for the base time, unless the entry stands at the limit already (R32, R33). -/
theorem Entry.afterOutcome_uncharged (uncharged : o = .unsettled ∨ o = .nosensor ∨ o = .norange) :
    e.afterOutcome n o =
      if n.missLimit ≤ e.misses then e.suspendAt n.missLimit
      else { entry := { e with state := .backoff, retry := some n.backoffBase }, handed := false, suspended := false } := by
  obtain rfl | rfl | rfl := uncharged <;> rfl

/-- An abandoned visit arms a periodic entry again and hands another over (R34). -/
theorem Entry.afterOutcome_abandoned :
    e.afterOutcome n .abandoned =
      if n.missLimit ≤ e.misses then e.suspendAt n.missLimit
      else
        { entry := { e with state := if e.definition.periodic then .armed else .due }, handed := !e.definition.periodic,
          suspended := false } := by
  cases periodic : e.definition.periodic <;> simp [Entry.afterOutcome, periodic]

end

/-- Settles O31: each group of outcomes by its equation, and the limit decides between them. -/
theorem outcomesMoveTheEntry : Obligations.OutcomesMoveTheEntry := by
  refine ⟨fun e n o => ⟨fun charged below => ?_, fun uncharged below => ?_⟩, fun e n o => ⟨fun good => ?_, fun reached => ?_, ?_⟩⟩
  · rw [Entry.afterOutcome_charged charged, if_neg (Nat.not_le.mpr below)]
  · rw [Entry.afterOutcome_uncharged uncharged, if_neg (Nat.not_le.mpr below)]
  · obtain rfl | rfl := good <;> rfl
  · obtain ⟨charged, limit⟩ | ⟨rest, limit⟩ := reached
    · rw [Entry.afterOutcome_charged charged, if_pos limit]
      rfl
    · obtain uncharged | rfl : (o = .unsettled ∨ o = .nosensor ∨ o = .norange) ∨ o = .abandoned := by tauto
      · rw [Entry.afterOutcome_uncharged uncharged, if_pos limit]
        rfl
      · rw [Entry.afterOutcome_abandoned, if_pos limit]
        rfl
  · rintro rfl below
    rw [Entry.afterOutcome_abandoned, if_neg (Nat.not_le.mpr below)]

/-! ### Countdowns and retry timers (R26 to R30) -/

section
variable {e : Entry} {engaged : Bool}

/-- The countdown set afresh at its expiry (R27). -/
def Entry.afresh (e : Entry) : Nat := if e.definition.periodic then e.definition.period else Config.spentMarker

/-- An entry is counted down in four states, and not past the spent marker (R26). -/
theorem Entry.countsDown_iff :
    e.countsDown = true ↔
      (e.state = .armed ∨ e.state = .due ∨ e.state = .active ∨ e.state = .backoff) ∧ e.countdown ≠ 4294967295 := by
  rw [Entry.countsDown, Bool.and_eq_true, decide_eq_true_eq]
  exact and_congr (by cases e.state <;> simp [EntryState.counted]) Iff.rfl

/-- An ARMED entry falls due, deferred where it is engaged (R27, R25). -/
theorem Entry.countdownExpiry_armed (armed : e.state = .armed) :
    e.countdownExpiry engaged =
      { entry := { e with state := .due, countdown := e.afresh, deferred := engaged || e.deferred }, handed := !engaged,
        overrun := false } := by
  cases engaged <;> simp [Entry.countdownExpiry, Entry.afresh, armed]

/-- An entry under way counts an overrun (R28). -/
theorem Entry.countdownExpiry_overrun (underWay : e.state = .due ∨ e.state = .active ∨ e.state = .backoff) :
    e.countdownExpiry engaged =
      { entry := { e with countdown := e.afresh, overruns := min (e.overruns + 1) 255 }, handed := false, overrun := true } := by
  obtain state | state | state := underWay <;> simp [Entry.countdownExpiry, Entry.afresh, state, satSucc]

/-- An entry that is not counted down keeps its countdown. -/
theorem Entry.tickCountdown_uncounted (uncounted : ¬e.countsDown = true) :
    e.tickCountdown engaged = { entry := e, handed := false, overrun := false } := if_neg uncounted

/-- A countdown above 1 goes down by one. -/
theorem Entry.tickCountdown_counts (counted : e.countsDown = true) (more : 1 < e.countdown) :
    e.tickCountdown engaged = { entry := { e with countdown := e.countdown - 1 }, handed := false, overrun := false } := by
  rw [Entry.tickCountdown, if_pos counted]
  exact if_neg (by dsimp only; omega)

/-- A countdown of at most 1 expires. -/
theorem Entry.tickCountdown_expires (counted : e.countsDown = true) (last : e.countdown ≤ 1) :
    e.tickCountdown engaged = Entry.countdownExpiry { e with countdown := e.countdown - 1 } engaged := by
  rw [Entry.tickCountdown, if_pos counted]
  exact if_pos (by dsimp only; omega)

/-- Outside BACKOFF, an expiry is the countdown's alone. -/
theorem Entry.tick_unretried (ordinary : e.state ≠ .backoff) : e.tick engaged = e.tickCountdown engaged := if_neg ordinary

/-- An entry in BACKOFF whose retry timer, if it runs, has gone down by one: at 0, it is DUE (R29). -/
def Entry.retried (e : Entry) : Entry :=
  if e.state = .backoff ∧ ∃ r, e.retry = some r ∧ r ≤ 1 then e.retryExpiry else { e with retry := e.retry.map fun r => r - 1 }

/-- In BACKOFF, the retry timer follows the countdown. -/
theorem Entry.tick_backoff {x : Entry} {overrun : Bool} (backoff : e.state = .backoff)
    (ticked : e.tickCountdown engaged = { entry := x, handed := false, overrun := overrun }) (state : x.state = .backoff)
    (retry : x.retry = e.retry) :
    e.tick engaged =
      { entry := x.retried, handed := decide (∃ r, e.retry = some r ∧ r ≤ 1), overrun := overrun } := by
  cases timer : e.retry with
  | none =>
    obtain ⟨_, _, _, timed, _, _, _, _, _, _⟩ := x
    obtain rfl : timed = none := retry.trans timer
    simp [Entry.tick, Entry.retried, backoff, ticked, timer]
  | some r =>
    by_cases last : r ≤ 1
    · simp [Entry.tick, Entry.retried, backoff, ticked, state, retry, timer, last]
    · simp [Entry.tick, Entry.retried, backoff, ticked, state, retry, timer, last]

/-- The law of one expiry at one entry (R26 to R30), where `counted` says that it is counted down. -/
theorem Entry.tick_law (e : Entry) (engaged : Bool) {counted : Prop} [Decidable counted]
    (counts : e.countsDown = true ↔ counted) :
    let expires := counted ∧ e.countdown ≤ 1
    let fires := e.state = .backoff ∧ ∃ r, e.retry = some r ∧ r ≤ 1
    e.tick engaged =
      { entry :=
          { e with
            countdown := if expires then e.afresh else if counted then e.countdown - 1 else e.countdown,
            overruns := if expires ∧ e.state ≠ .armed then min (e.overruns + 1) 255 else e.overruns,
            state := if fires ∨ (expires ∧ e.state = .armed) then .due else e.state,
            retry := if fires then none else if e.state = .backoff then e.retry.map fun r => r - 1 else e.retry,
            deferred := if expires ∧ e.state = .armed ∧ engaged = true then true else e.deferred },
        handed := decide (fires ∨ (expires ∧ e.state = .armed ∧ engaged = false)),
        overrun := decide (expires ∧ e.state ≠ .armed) } := by
  dsimp only
  by_cases yes : counted
  · have below := (Entry.countsDown_iff.mp (counts.mpr yes)).1
    by_cases last : e.countdown ≤ 1
    · have ticked := Entry.tickCountdown_expires (engaged := engaged) (counts.mpr yes) last
      by_cases armed : e.state = .armed
      · rw [Entry.tick_unretried (by simp [armed]), ticked, Entry.countdownExpiry_armed (by exact armed)]
        cases engaged <;> simp [armed, last, yes, Entry.afresh]
      · rw [Entry.countdownExpiry_overrun (by dsimp only; tauto)] at ticked
        by_cases backoff : e.state = .backoff
        · rw [Entry.tick_backoff backoff ticked backoff rfl, Entry.retried]
          by_cases due : ∃ r, e.retry = some r ∧ r ≤ 1 <;>
            simp [backoff, due, last, yes, Entry.afresh, Entry.retryExpiry]
        · rw [Entry.tick_unretried backoff, ticked]
          simp [backoff, armed, last, yes, Entry.afresh]
    · have ticked := Entry.tickCountdown_counts (engaged := engaged) (counts.mpr yes) (by omega)
      by_cases backoff : e.state = .backoff
      · rw [Entry.tick_backoff backoff ticked backoff rfl, Entry.retried]
        by_cases due : ∃ r, e.retry = some r ∧ r ≤ 1 <;> simp [backoff, due, last, yes, Entry.retryExpiry]
      · rw [Entry.tick_unretried backoff, ticked]
        simp [backoff, last, yes]
  · have ticked := Entry.tickCountdown_uncounted (engaged := engaged) fun x => yes (counts.mp x)
    by_cases backoff : e.state = .backoff
    · rw [Entry.tick_backoff backoff ticked backoff rfl, Entry.retried]
      by_cases due : ∃ r, e.retry = some r ∧ r ≤ 1 <;> simp [backoff, due, yes, Entry.retryExpiry]
    · rw [Entry.tick_unretried backoff, ticked]
      simp [backoff, yes]

end

section
variable {s : State} {n : Nat} {e : Entry}

/-- At rest, nothing follows a change of the target table, the due queue and the notices. -/
theorem State.AtRest.ledger {t : State} (rest : s.AtRest) (ledger : s.LedgerOnly t) : t.wrapUp = t := by
  obtain ⟨_, _, _, rfl, mode⟩ := ledger
  exact State.AtRest.wrapUp (rest.congr rfl mode rfl rfl rfl rfl rfl)

theorem State.inside_of_getElem? (at_ : s.entries[n]? = some e) : n < s.entries.length :=
  (List.getElem?_eq_some_iff.mp at_).1

/-- An entry whose expiry counts an overrun raises the notice. -/
theorem State.AtRest.overruns (rest : s.AtRest) (at_ : s.entries[n]? = some e) (below : e.countdown ≠ 4294967295)
    (underWay : e.state = .due ∨ e.state = .active ∨ e.state = .backoff) :
    exec (.countdownExpiry n) s =
      .next
        (State.raise
          { s with entries := s.entries.set n { e with countdown := e.afresh, overruns := min (e.overruns + 1) 255 } }
          .overrun (some n)) := by
  have counted : e.countsDown = true := Entry.countsDown_iff.mpr ⟨by tauto, below⟩
  have arm : exec (.countdownExpiry n) s = .next (s.countdownExpires n) := rfl
  rw [arm, State.countdownExpires, State.entry_of_getElem? at_, if_pos ⟨counted, State.inside_of_getElem? at_⟩,
    Entry.countdownExpiry_overrun underWay]
  exact congrArg _ (rest.ledger ((s.setEntry_ledgerOnly _ _).trans (State.raise_ledgerOnly _ _ _)))

/-- An ARMED entry whose countdown expires falls due, and is handed over unless it is engaged. -/
theorem State.AtRest.fallsDue (rest : s.AtRest) (at_ : s.entries[n]? = some e) (below : e.countdown ≠ 4294967295)
    (armed : e.state = .armed) :
    exec (.countdownExpiry n) s =
      .next
        (if s.engaged n = true then
          { s with entries := s.entries.set n { e with state := .due, countdown := e.afresh, deferred := true } }
        else State.enqueue { s with entries := s.entries.set n { e with state := .due, countdown := e.afresh } } [n]) := by
  have counted : e.countsDown = true := Entry.countsDown_iff.mpr ⟨.inl armed, below⟩
  have arm : exec (.countdownExpiry n) s = .next (s.countdownExpires n) := rfl
  rw [arm, State.countdownExpires, State.entry_of_getElem? at_, if_pos ⟨counted, State.inside_of_getElem? at_⟩,
    Entry.countdownExpiry_armed armed]
  cases engaged : s.engaged n
  · exact congrArg _ (rest.ledger ((s.setEntry_ledgerOnly n _).trans (State.enqueue_ledgerOnly (s.setEntry n _) [n])))
  · exact congrArg _ (rest.ledger (s.setEntry_ledgerOnly _ _))

/-- A retry timer that runs out hands its entry over. -/
theorem State.AtRest.retries (rest : s.AtRest) (at_ : s.entries[n]? = some e) (backoff : e.state = .backoff) :
    exec (.retryTimerExpiry n) s =
      .next (State.enqueue { s with entries := s.entries.set n { e with state := .due, retry := none } } [n]) := by
  have arm : exec (.retryTimerExpiry n) s = .next (s.retryExpires n) := rfl
  rw [arm, State.retryExpires, State.entry_of_getElem? at_, if_pos ⟨backoff, State.inside_of_getElem? at_⟩]
  exact congrArg _ (rest.ledger ((s.setEntry_ledgerOnly _ _).trans (State.enqueue_ledgerOnly _ _)))

end

/-- Settles O29: the law of one expiry, read field by field, and the two expiries as events of their own. -/
theorem entriesFallDue : Obligations.EntriesFallDue := by
  refine ⟨fun e engaged => ?_, fun s n e rest at_ below => ⟨fun armed free => ?_, fun armed engaged => ?_, rest.overruns at_ below⟩,
    fun s n e rest at_ => rest.retries at_⟩
  · dsimp only
    refine ⟨_, _, _, e.tick_law engaged Entry.countsDown_iff, decide_eq_true_iff, decide_eq_true_iff, fun x => if_pos x,
      fun counted more => ?_, fun uncounted => ?_,
      fun x => if_pos x, fun x => if_neg x, fun x => if_pos x, fun idle unarmed => if_neg (not_or.mpr ⟨idle, unarmed⟩),
      fun x => if_pos x, fun backoff idle => ?_,
      fun ordinary => ?_, rfl, rfl, rfl, rfl, rfl, rfl⟩
    · exact (if_neg more).trans (if_pos counted)
    · exact (if_neg fun x => uncounted x.1).trans (if_neg uncounted)
    · exact (if_neg idle).trans (if_pos backoff)
    · exact (if_neg fun x => ordinary x.1).trans (if_neg ordinary)
  · rw [rest.fallsDue at_ below armed, if_neg (by simp [free])]
    rfl
  · rw [rest.fallsDue at_ below armed, if_pos engaged]
    rfl

/-! ### The timers of a pointing as events of their own (R64, R75, R76, R78, R80) -/

section
variable {s : State} {p q : Pointing} {o : Verdict}

/-- The end of a pointing with both axes STILL leaves the part at rest. -/
theorem State.MayEnd.rests (h : s.MayEnd p) (o : Verdict) : (s.afterEnd p o).AtRest := by
  obtain ⟨_, _, _, form, mode⟩ := s.afterEnd_ledgerOnly p o
  rw [form]
  exact ⟨h.flight.run, mode.trans h.flight.stopped, rfl, rfl, rfl, h.flight.noJog, rfl, h.flight.noHold, h.still, h.flight.seen⟩

/-- A pointing that may end does so, and nothing follows. -/
theorem State.MayEnd.fails (h : s.MayEnd p) (named : o = .unsettled ∨ o = .nosensor ∨ o = .norange) :
    (s.failPointing o).wrapUp =
      s.afterEnd p (if p.frozenCopy.kind = .track ∧ 1 ≤ p.followCount then .partialDone else o) := by
  rw [h.failPointing, softened_eq named]
  exact (h.rests _).wrapUp

/-- Nothing follows a change of PEN's own record and of the shots sent, while the pointing goes on. -/
theorem State.InFlight.penOnly {x : Pen} {y : Transmit} (flight : s.InFlight p) (pointing : x.pointing = some q)
    (live : q.frozen = false) : State.wrapUp { s with pen := x, transmit := y } = { s with pen := x, transmit := y } :=
  State.InFlight.wrapUp (p := q)
    (flight.congr (t := { s with pen := x, transmit := y }) rfl rfl pointing live flight.free rfl flight.seen)

/-- A frozen pointing's timers do not run (R80). -/
theorem State.frozen_timers (pointing : s.pen.pointing = some p) (frozen : p.frozen = true) :
    exec .settleTimeout s = .next s ∧ exec .detectorSilence s = .next s ∧ exec .dwellExpiry s = .next s
      ∧ exec .trackTimerExpiry s = .next s := by
  have settle : s.settleTimesOut = s := by simp [State.settleTimesOut, pointing, frozen]
  have silent : s.detectorSilent = s := by simp [State.detectorSilent, pointing, frozen]
  have dwell : s.dwellExpires = s := by simp [State.dwellExpires, pointing, frozen]
  have track : s.trackExpires = s := by simp [State.trackExpires, pointing, frozen]
  exact ⟨congrArg _ settle, congrArg _ silent, congrArg _ dwell, congrArg _ track⟩

/-- A settle timeout ends SETTLE alone (R64). -/
theorem State.InFlight.settleTimeout (flight : s.InFlight p) :
    s.settleTimesOut = if p.phase = .settle then (s.failPointing .unsettled).wrapUp else s := by
  simp [State.settleTimesOut, flight.pointing, flight.live]

/-- Detector silence ends a watched phase alone (R78). -/
theorem State.InFlight.detectorSilence (flight : s.InFlight p) :
    s.detectorSilent = if p.phase.watched = true then (s.failPointing .nosensor).wrapUp else s := by
  simp [State.detectorSilent, flight.pointing, flight.live]

theorem State.InFlight.dwellRuns (flight : s.InFlight p) (follow : p.phase = .follow) :
    s.dwellExpires = (s.setPointing (some { p with dwell := some 0 })).dwellRunsOut.wrapUp := by
  simp [State.dwellExpires, flight.pointing, flight.live, follow]

/-- A dwell that runs out with no shot in hand ends FOLLOW DONE (R76). -/
theorem State.MayEnd.dwellExpiry (h : s.MayEnd p) (follow : p.phase = .follow) (shot : s.pen.shot = none) :
    s.dwellExpires = s.afterEnd p .done := by
  have ends : (s.setPointing (some { p with dwell := some 0 })).MayEnd { p with dwell := some 0 } :=
    ⟨h.flight.congr rfl rfl rfl h.flight.live h.flight.free rfl h.flight.seen, h.still, h.unpended⟩
  have free : ¬(s.setPointing (some { p with dwell := some 0 })).shotInHand = true := by simp [State.shotInHand, shot]
  rw [h.flight.dwellRuns follow, State.dwellRunsOut, if_neg free, ends.endPointing]
  exact (ends.rests _).wrapUp

/-- A dwell that runs out with a shot in hand closes retries (R76). -/
theorem State.InFlight.dwellExpiry (flight : s.InFlight p) (follow : p.phase = .follow) (shot : s.pen.shot ≠ none) :
    s.dwellExpires = { s with pen := { s.pen with pointing := some { p with dwell := some 0 }, retriesClosed := true } } := by
  have inHand : (s.setPointing (some { p with dwell := some 0 })).shotInHand = true := Option.isSome_iff_ne_none.mpr shot
  rw [flight.dwellRuns follow, State.dwellRunsOut, if_pos inHand]
  exact flight.penOnly (y := s.transmit) rfl flight.live

/-- A track timer that runs out sends a shot where R72 lets it (R75). -/
theorem State.InFlight.trackExpiry (flight : s.InFlight p) (follow : p.phase = .follow) (dwell : p.dwell ≠ some 0) :
    s.trackExpires = (s.setPointing (some { p with track := some 0 })).trackRunsOut.wrapUp := by
  simp [State.trackExpires, flight.pointing, flight.live, follow, dwell]

theorem State.InFlight.track_waits (flight : s.InFlight p) (follow : p.phase = .follow) (dwell : p.dwell ≠ some 0)
    (no : ¬(s.pen.shot = none ∧ p.onAim = true ∧ (p.reservation = true ∨ s.reports.queue.length < 32))) :
    s.trackExpires = { s with pen := { s.pen with pointing := some { p with track := some 0 } } } := by
  have waits : (s.setPointing (some { p with track := some 0 })).tryShot = s.setPointing (some { p with track := some 0 }) :=
    State.tryShot_waits rfl flight.live no
  rw [flight.trackExpiry follow dwell, State.trackRunsOut, waits, ite_self]
  exact flight.penOnly (y := s.transmit) rfl flight.live

theorem State.InFlight.track_fires (flight : s.InFlight p) (follow : p.phase = .follow) (dwell : p.dwell ≠ some 0)
    (may : s.pen.shot = none ∧ p.onAim = true ∧ (p.reservation = true ∨ s.reports.queue.length < 32)) :
    s.trackExpires =
      { s with
        pen :=
          { s.pen with
            nextShotId := (s.pen.nextShotId + 1) % 256
            shot := some { id := s.pen.nextShotId, stage := .awaitingRange 0 }
            retriesClosed := false
            pointing := some { p with track := some 0, reservation := true, attempts := p.attempts + 1 } }
        transmit := { s.transmit with shots := s.transmit.shots ++ [s.pen.nextShotId] } } := by
  have free : ¬(s.setPointing (some { p with track := some 0 })).shotInHand = true := by simp [State.shotInHand, may.1]
  rw [flight.trackExpiry follow dwell, State.trackRunsOut, if_neg free,
    State.tryShot_fires (s := s.setPointing (some { p with track := some 0 })) rfl flight.live may]
  exact flight.penOnly rfl flight.live

end

/-- Settles O57: each timer by its equation, frozen or in flight. -/
theorem pointingTimersRunOut : Obligations.PointingTimersRunOut := by
  refine ⟨fun s p pointing frozen => State.frozen_timers pointing frozen, fun s p flight => ?_⟩
  refine ⟨fun settle ends => ?_, fun other => ?_, fun watched ends => ?_, fun other => ?_, fun follow shot ends => ?_,
    fun follow shot => ?_, fun other => ⟨?_, ?_⟩, fun follow dwell => ⟨fun no => ?_, fun may => ?_⟩⟩
  · exact congrArg _ ((flight.settleTimeout.trans (if_pos settle)).trans (ends.fails (.inl rfl)))
  · exact congrArg _ (flight.settleTimeout.trans (if_neg other))
  · exact congrArg _
      ((flight.detectorSilence.trans (if_pos ((Phase.watched_iff _).mpr watched))).trans (ends.fails (.inr (.inl rfl))))
  · exact congrArg _ (flight.detectorSilence.trans (if_neg fun x => other ((Phase.watched_iff _).mp x)))
  · exact congrArg _ (ends.dwellExpiry follow shot)
  · exact congrArg _ (flight.dwellExpiry follow shot)
  · exact congrArg Host.Outcome.next (by simp [State.dwellExpires, flight.pointing, other])
  · exact congrArg Host.Outcome.next (by simp [State.trackExpires, flight.pointing, other])
  · exact congrArg _ (flight.track_waits follow dwell no)
  · exact congrArg _ (flight.track_fires follow dwell may)

end Sys2Proof.Machine
end

section
/-! SUPPORT. A pointing in SLEW that begins or restarts (R60, R62, R82, R88), and AIM (R56). The statement
AimRefusesOrBegins. -/

namespace Sys2Proof.Machine

open Sys2Proof

/-! ### What a launch leaves (R51, R60, R62, R82) -/

/-- `q` is what a launch leaves of the record `p`: it is in SLEW, or in SETTLE where both axes arrive at once, and only the LIMITED
indication, the settle timer and the marks of arrival may differ besides. -/
structure Pointing.Launched (p q : Pointing) : Prop where
  phase : q.phase = .slew ∨ q.phase = .settle
  same : ∃ (limited : Bool) (timer : Nat) (arrived : PerAxis Bool),
    q = { p with phase := q.phase, limited := limited, settleTimer := timer, arrived := arrived }

theorem Pointing.Launched.reached {p q : Pointing} (h : p.Launched q) (a : Axis) (r : Bool) : p.Launched (q.reached a r) := by
  obtain ⟨phase, l, t, x, same⟩ := h
  unfold Pointing.reached
  split
  · unfold Pointing.arrivesAt
    dsimp only
    split
    · exact ⟨.inr rfl, l, 0, _, by rw [same]⟩
    · exact ⟨phase, l, t, _, by rw [same]⟩
  · exact ⟨phase, l, t, x, same⟩

/-- A retarget for the pointing engine moves the axis, ends a settle test, and may bring the pointing an arrival at once. -/
theorem State.retarget_pointing {s : State} {q : Pointing} (pointing : s.pen.pointing = some q) (a : Axis) (sp : Int) :
    ∃ r y, s.retarget a sp .pointing =
      { s with
        pen := { s.pen with pointing := some (q.reached a r) }
        apg := { axes := s.apg.axes.set a ((s.axis a).retarget a sp .pointing).axis, settle := y } } := by
  unfold State.retarget
  dsimp only
  split
  · obtain ⟨y, eq⟩ := State.pointingArrival_eq
      (s := (s.setAxis a ((s.axis a).retarget a sp .pointing).axis).setSettle none) pointing a
    exact ⟨true, y, (if_pos rfl).trans eq⟩
  · exact ⟨false, none, by rw [Pointing.reached_no, ← pointing]; rfl⟩

/-- What a launch leaves: SQU's counters at 0, retries open, the record, and both axes retargeted. -/
theorem State.launch_eq (s : State) {p : Pointing} (slew : p.phase = .slew) :
    ∃ q y, p.Launched q ∧ s.launch p =
      { s with
        squ := zeroSqu
        pen := { s.pen with retriesClosed := false, pointing := some q }
        apg :=
          { axes :=
              { h := ((s.axis .h).retarget .h (inverseReduction s p.frozenCopy.hz p.frozenCopy.v p.ox p.oy).h .pointing).axis,
                v := ((s.axis .v).retarget .v (inverseReduction s p.frozenCopy.hz p.frozenCopy.v p.ox p.oy).v .pointing).axis },
            settle := y } } := by
  have start : p.Launched
      { p with
        limited := p.limited || (inverseReduction s p.frozenCopy.hz p.frozenCopy.v p.ox p.oy).limited,
        arrived := both false } := ⟨.inl slew, _, p.settleTimer, _, rfl⟩
  unfold State.launch State.pointAxes
  obtain ⟨r, y, first⟩ := State.retarget_pointing
    (s := State.setPointing { s with squ := zeroSqu, pen := { s.pen with retriesClosed := false } }
      (some { p with
        limited := p.limited || (inverseReduction s p.frozenCopy.hz p.frozenCopy.v p.ox p.oy).limited,
        arrived := both false })) rfl .h (inverseReduction s p.frozenCopy.hz p.frozenCopy.v p.ox p.oy).h
  obtain ⟨r', y', second⟩ := State.retarget_pointing (s := State.retarget _ .h _ .pointing)
    (congrArg (fun t : State => t.pen.pointing) first) .v (inverseReduction s p.frozenCopy.hz p.frozenCopy.v p.ox p.oy).v
  refine ⟨_, y', (start.reached .h r).reached .v r', second.trans ?_⟩
  rw [first]
  rfl

/-- A pointing begins with its choice made: nothing outside SQU, PEN, the axes, the drive selector and the DRIVE frames changes. -/
theorem State.launch_choose (s : State) {p : Pointing} (slew : p.phase = .slew) :
    ∃ q x y z, p.Launched q ∧ (s.launch p).choose =
      { s with squ := zeroSqu, pen := { s.pen with retriesClosed := false, pointing := some q }, dsl := x, apg := y,
               transmit := z } := by
  obtain ⟨q, y, launched, eq⟩ := s.launch_eq slew
  refine ⟨q, (s.launch p).choose.dsl, (s.launch p).choose.apg, (s.launch p).choose.transmit, launched, ?_⟩
  refine (s.launch p).choose_frame.trans ?_
  rw [eq]

/-! ### AIM (R56) -/

section
variable {s : State} {n : Nat}

theorem State.bothParked_iff : s.bothParked = true ↔ s.dsl.selected = both .park := by
  rw [State.bothParked, decide_eq_true_iff]
  generalize s.dsl.selected = x
  obtain ⟨h, v⟩ := x
  simp [both]

theorem EntryState.aimable_iff (x : EntryState) :
    x.aimable = true ↔ x = .armed ∨ x = .disabled ∨ x = .spent ∨ x = .suspended := by
  cases x <;> simp [EntryState.aimable]

/-- What bars AIM with STATE (R56). -/
def State.barsAim (s : State) (n : Nat) : Prop :=
  s.osc.mode = .running ∨ s.dvc.state ≠ .run ∨ s.dsl.jog ≠ .none ∨ s.dsl.selected ≠ both .park ∨ 32 ≤ s.reports.queue.length
    ∨ (s.entry n).state = .empty ∨ (s.entry n).state = .active ∨ (s.entry n).state = .due ∨ (s.entry n).state = .backoff

theorem State.takeAim_range (unlocked : s.locked = false) (beyond : 63 < n) : s.takeAim n = s.refuse .range := by
  simp [State.takeAim, unlocked, beyond]

theorem State.takeAim_burning (unlocked : s.locked = false) (inside : n ≤ 63) (burn : s.scs.burn ≠ none) :
    s.takeAim n = s.refuse .burning := by
  simp [State.takeAim, unlocked, Nat.not_lt.mpr inside, Option.isSome_iff_ne_none.mpr burn]

theorem State.takeAim_busy (unlocked : s.locked = false) (inside : n ≤ 63) (burn : s.scs.burn = none) (busy : s.busy = true) :
    s.takeAim n = s.refuse .busy := by
  simp [State.takeAim, unlocked, Nat.not_lt.mpr inside, burn, busy]

theorem State.takeAim_idle (unlocked : s.locked = false) (inside : n ≤ 63) (burn : s.scs.burn = none) (idle : s.busy = false) :
    (s.barsAim n → s.takeAim n = s.refuse .state)
      ∧ (¬s.barsAim n → s.takeAim n = State.answerDone (s.beginPointing n .oneOff).choose) := by
  classical
  have pointing : s.pen.pointing = none := by simpa [State.busy] using idle
  have reserved : s.reserved = 0 := by rw [State.reserved, pointing]; rfl
  have bars : (s.osc.mode = .running ∨ s.dvc.state ≠ .run ∨ s.dsl.jog ≠ .none ∨ ¬s.bothParked
      ∨ ¬s.occupancy < Config.reportSlots ∨ ¬(s.entry n).state.aimable) ↔ s.barsAim n := by
    rw [State.barsAim, State.bothParked_iff, EntryState.aimable_iff, State.occupancy, reserved, Nat.not_lt]
    have states : ¬((s.entry n).state = .armed ∨ (s.entry n).state = .disabled ∨ (s.entry n).state = .spent
        ∨ (s.entry n).state = .suspended) ↔
          (s.entry n).state = .empty ∨ (s.entry n).state = .active ∨ (s.entry n).state = .due ∨ (s.entry n).state = .backoff := by
      cases (s.entry n).state <;> simp
    rw [states]
    rfl
  have decides : s.takeAim n = if s.barsAim n then s.refuse .state else State.answerDone (s.beginPointing n .oneOff).choose := by
    rw [State.takeAim, unlocked, if_neg (by simp), if_neg (Nat.not_lt.mpr inside), burn, idle, if_neg (by simp),
      if_neg (by simp)]
    exact if_congr bars rfl rfl
  exact ⟨fun barred => decides.trans (if_pos barred), fun open_ => decides.trans (if_neg open_)⟩

theorem State.frameAt_barsAim (us : Nat) : (s.frameAt us).barsAim n ↔ s.barsAim n := by
  simp only [State.barsAim, State.frameAt_osc, State.frameAt_dvc, State.frameAt_dsl, State.frameAt_reports, State.frameAt_entry]

end

/-- Settles O27: the refusals in their order, and the launch of a ONE-OFF record. -/
theorem aimRefusesOrBegins : Obligations.AimRefusesOrBegins := by
  refine ⟨fun s h n takes free => ?_, fun s h n takes inside burn idle stopped run jog parked room state => ?_⟩
  · have unlocked : (s.frameAt h.us).locked = false := by simp [State.frameAt_locked, free]
    have busy : (s.frameAt h.us).busy = s.pen.pointing.isSome := s.frameAt_busy h.us
    refine ⟨fun beyond => ?_, fun inside burn => ?_, fun inside burn pointing => ?_, fun inside burn pointing barred => ?_⟩
    · exact exec_aim takes (State.takeAim_range unlocked beyond)
    · exact exec_aim takes (State.takeAim_burning unlocked inside (by simpa using burn))
    · exact exec_aim takes (State.takeAim_busy unlocked inside (by simpa using burn)
        (busy.trans (Option.isSome_iff_ne_none.mpr pointing)))
    · exact exec_aim takes ((State.takeAim_idle unlocked inside (by simpa using burn) (by rw [busy, pointing]; rfl)).1
        (State.frameAt_barsAim _ |>.mpr barred))
  · have unlocked : (s.frameAt h.us).locked = false := by simp [State.frameAt_locked, run]
    have busy : (s.frameAt h.us).busy = false := by rw [State.frameAt_busy, State.busy, idle]; rfl
    have open_ : ¬(s.frameAt h.us).barsAim n := by
      rw [State.frameAt_barsAim, State.barsAim]
      obtain state | state | state | state := state <;> simp [stopped, run, jog, parked, state, room]
    obtain ⟨q, x, y, z, ⟨phase, l, t, w, same⟩, eq⟩ := (s.frameAt h.us).launch_choose
      (p := newPointing n .oneOff ((s.frameAt h.us).entry n).definition) rfl
    have taken := (State.takeAim_idle unlocked inside (by simpa using burn) busy).2 open_
    rw [State.beginPointing, eq] at taken
    refine ⟨_, q, exec_aim takes taken, rfl, rfl, ?_⟩
    generalize q.phase = phaseOf at *
    subst same
    refine ⟨rfl, rfl, by simp [newPointing, State.frameAt_entry], phase, rfl, rfl, rfl, ?_, s.frameAt_entries _, s.frameAt_osc _, rfl,
      s.frameAt_reports _, s.frameAt_notices _, s.frameAt_dvc _, rfl⟩
    simp [State.engaged, newPointing]

end Sys2Proof.Machine
end

section
/-! SUPPORT. Targets that end ABANDONED at the target table (R24, R25, R34), and the diversions that end without a pointing (R158
to R160). The statement DiversionsEndWithoutAPointing. -/

namespace Sys2Proof.Machine

open Sys2Proof

/-! ### An ABANDONED outcome at the target table -/

section
variable {s t : State} {n : Nat} {k : PointingKind}

/-- The delivery of an ABANDONED outcome is what its law leaves, a pending definition included. -/
theorem State.deliverOutcome_abandoned (s : State) (n : Nat) (k : PointingKind) :
    s.deliverOutcome n k .abandoned = s.afterAbandoned n k := by
  unfold State.afterAbandoned
  split
  · rename_i d pending
    rw [← loadedEntry_eq]
    unfold State.deliverOutcome
    simp only [pending]
    rfl
  · rename_i none
    exact State.deliverOutcome_eq none k .abandoned

theorem State.afterAbandoned_ledgerOnly (s : State) (n : Nat) (k : PointingKind) : s.LedgerOnly (s.afterAbandoned n k) := by
  unfold State.afterAbandoned
  split
  · exact ⟨_, _, _, rfl, rfl⟩
  · exact s.afterOutcome_ledgerOnly n k _

/-- The ABANDONED outcome reads no more of the state than the table, the due queue, the notices and the station block. -/
theorem State.SameLedger.afterAbandoned (h : s.SameLedger t) (station : t.station = s.station) (n : Nat) (k : PointingKind) :
    (s.afterAbandoned n k).SameLedger (t.afterAbandoned n k) := by
  unfold State.afterAbandoned
  rw [h.entry]
  cases (s.entry n).pendingDef with
  | some d => exact ⟨by dsimp only; rw [h.entries], h.osc, h.notices⟩
  | none => exact h.afterOutcome station n k _

theorem State.SameLedger.refl (s : State) : s.SameLedger s := ⟨rfl, rfl, rfl⟩

theorem State.SameLedger.trans {u : State} (h : s.SameLedger t) (h' : t.SameLedger u) : s.SameLedger u :=
  ⟨h'.entries.trans h.entries, h'.osc.trans h.osc, h'.notices.trans h.notices⟩

theorem State.abandonTarget_some (s : State) (n : Nat) (k : PointingKind) :
    s.abandonTarget (some (n, k)) = s.afterAbandoned n k := s.deliverOutcome_abandoned n k

theorem State.abandonTarget_ledgerOnly (s : State) : ∀ x, s.LedgerOnly (s.abandonTarget x)
  | none => .refl s
  | some (n, k) => by
    rw [State.abandonTarget_some]
    exact s.afterAbandoned_ledgerOnly n k

theorem State.SameLedger.abandonTarget (h : s.SameLedger t) (station : t.station = s.station) :
    ∀ x, (s.abandonTarget x).SameLedger (t.abandonTarget x)
  | none => h
  | some (n, k) => by
    rw [State.abandonTarget_some, State.abandonTarget_some]
    exact h.afterAbandoned station n k

/-- A periodic entry below its limit whose visit is abandoned is ARMED again, and no more (R34). -/
theorem State.afterAbandoned_periodic {e : Entry} (at_ : s.entries[n]? = some e) (unpended : e.pendingDef = none)
    (periodic : e.definition.periodic = true) (below : e.misses < s.station.n.missLimit) :
    s.afterAbandoned n .scheduled =
      { s with entries := s.entries.set n { e with state := .armed, lastOutcome := some .abandoned } } := by
  have entry := State.entry_of_getElem? at_
  have seen : Entry.trackUpdate { e with lastOutcome := some .abandoned } .abandoned = { e with lastOutcome := some .abandoned } :=
    if_neg (by simp)
  have move : s.outcomeMove n .scheduled .abandoned =
      { entry := { e with state := .armed, lastOutcome := some .abandoned }, handed := false, suspended := false } := by
    rw [State.outcomeMove, entry, seen]
    simp only [Entry.afterOutcome_abandoned, Nat.not_le.mpr below, periodic, if_true, if_false]
    rfl
  have law : s.afterAbandoned n .scheduled = s.afterOutcome n .scheduled .abandoned := by
    rw [State.afterAbandoned, entry, unpended]
  rw [law, State.afterOutcome_eq, move]
  rfl

end

/-! ### The choice that ends a diversion, with the scheduler STOPPED -/

section
variable {s : State} {n : Nat} {k : PointingKind}

theorem State.choose_stopped (stopped : s.osc.mode = .stopped) :
    ∃ x y z, s.choose.examineDispatch = { s with dsl := x, apg := y, transmit := z } := by
  have undispatched : s.choose.dispatchReady = false :=
    State.dispatchReady_of_stopped (s.choose_driveOnly.mode.trans stopped)
  refine ⟨s.choose.dsl, s.choose.apg, s.choose.transmit, ?_⟩
  rw [State.examineDispatch, undispatched]
  exact s.choose_frame

/-- A part whose diversion has ended and left a target ABANDONED, or none: what it keeps and what it takes. -/
theorem State.abandonTarget_settles (stopped : s.osc.mode = .stopped) (x : Option (Nat × PointingKind)) :
    ∃ t : State, (s.abandonTarget x).choose.examineDispatch = t ∧ t.base = s.base ∧ t.pen = s.pen ∧ t.reports = s.reports
      ∧ t.dvc = s.dvc ∧ (s.abandonTarget x).SameLedger t := by
  obtain ⟨es, q, ns, form, mode⟩ := s.abandonTarget_ledgerOnly x
  rw [form]
  obtain ⟨_, _, _, eq⟩ := State.choose_stopped (s := { s with entries := es, osc := q, notices := ns }) (mode.trans stopped)
  rw [eq]
  exact ⟨_, rfl, rfl, rfl, rfl, rfl, rfl, rfl, rfl⟩

/-- The mode of DVC has no part in an ABANDONED outcome. -/
theorem State.abandonTarget_enterRun (s : State) (x : Option (Nat × PointingKind)) :
    (s.abandonTarget x).enterRun = s.enterRun.abandonTarget x := by
  have same : s.SameLedger s.enterRun := ⟨rfl, rfl, rfl⟩
  obtain ⟨entries, osc, notices⟩ := same.abandonTarget rfl x
  obtain ⟨_, _, _, plain, -⟩ := s.abandonTarget_ledgerOnly x
  obtain ⟨_, _, _, other, -⟩ := s.enterRun.abandonTarget_ledgerOnly x
  rw [plain, other] at entries osc notices
  rw [plain, other]
  simp only at entries osc notices
  rw [entries, osc, notices]
  rfl

end

/-! ### RESUME and ABANDON with no target (R158 to R160) -/

section
variable {s : State} {h : Hdr} {x : Answered}

theorem exec_resume (takes : s.takesRequests) (answer : (s.frameAt h.us).takeResume = x) :
    exec (.resume h) s = .next (x.state.replied h.tag x.code x.body) :=
  exec_request takes rfl (fun _ _ => rfl) answer

theorem exec_abandon (takes : s.takesRequests) (answer : (s.frameAt h.us).takeAbandon = x) :
    exec (.abandon h) s = .next (x.state.replied h.tag x.code x.body) :=
  exec_request takes rfl (fun _ _ => rfl) answer

/-- ABANDON is open: in HELD, and in CRITICAL once cleared with the HALT line inactive (R160). -/
def State.mayAbandon (s : State) : Prop :=
  s.dvc.state = .held ∨ (s.dvc.state = .critical ∧ s.dvc.haltLine = false ∧ ∃ r, s.dvc.critical = some r ∧ r.cleared = true)

theorem State.takeAbandon_open (open_ : s.mayAbandon) :
    s.takeAbandon = State.answerDone (s.discardContexts.enterRun.choose).examineDispatch := by
  obtain held | ⟨critical, line, r, record, cleared⟩ := open_
  · simp [State.takeAbandon, held]
  · simp [State.takeAbandon, critical, line, record, cleared]

theorem State.takeAbandon_closed (closed : s.dvc.state = .run ∨ s.dvc.state = .stopping ∨ s.dvc.state = .halted
      ∨ (s.dvc.state = .critical ∧ (s.dvc.haltLine = true ∨ ∀ c, s.dvc.critical = some c → c.cleared = false))) :
    s.takeAbandon = s.refuse .state := by
  obtain run | stopping | halted | ⟨critical, line | uncleared⟩ := closed
  · simp [State.takeAbandon, run]
  · simp [State.takeAbandon, stopping]
  · simp [State.takeAbandon, halted]
  · simp [State.takeAbandon, critical, line]
  · have no : (s.dvc.critical.map (·.cleared)).getD false = false := by
      cases record : s.dvc.critical with
      | none => rfl
      | some c => exact uncleared c record
    simp [State.takeAbandon, critical, no]

/-- ABANDON with one visit saved, or none: both contexts are freed, DVC is in RUN, and the visit ends ABANDONED. -/
theorem exec_abandon_ends (takes : s.takesRequests) (stopped : s.osc.mode = .stopped) (open_ : s.mayAbandon)
    {x : Option (Nat × PointingKind)}
    (saved : (s.criticalVisit = none ∧ s.ordinaryVisit = x) ∨ (s.ordinaryVisit = none ∧ s.criticalVisit = x)) :
    ∃ t : State, exec (.abandon h) s = .next (t.replied h.tag .done []) ∧ t.base = (s.frameAt h.us).base
      ∧ t.pen = (s.frameAt h.us).pen ∧ t.reports = s.reports
      ∧ t.dvc = { s.dvc with state := .run, cause := .none, resumeMode := none, ordinary := none, critical := none }
      ∧ (s.abandonTarget x).SameLedger t := by
  have opens : (s.frameAt h.us).mayAbandon := by simpa [State.mayAbandon] using open_
  have ordinary : (s.frameAt h.us).ordinaryVisit = s.ordinaryVisit := by simp [State.ordinaryVisit]
  have critical : (s.frameAt h.us).criticalVisit = s.criticalVisit := by simp [State.criticalVisit]
  have ends : (s.frameAt h.us).discardContexts = (s.frameAt h.us).freed.abandonTarget x := by
    obtain ⟨none, same⟩ | ⟨none, same⟩ := saved
    · rw [State.discardContexts_ordinary _ (critical.trans none), ordinary, same]
    · rw [State.discardContexts_critical _ (ordinary.trans none), critical, same]
  have ledger : s.SameLedger (s.frameAt h.us).freed.enterRun :=
    ⟨s.frameAt_entries _, s.frameAt_osc _, s.frameAt_notices _⟩
  obtain ⟨t, eq, base, pen, reports, dvc, same⟩ := State.abandonTarget_settles (s := (s.frameAt h.us).freed.enterRun)
    (by rw [ledger.osc]; exact stopped) x
  refine ⟨t, exec_abandon (x := State.answerDone t) takes ?_, base, pen, reports.trans (s.frameAt_reports _), dvc.trans ?_,
    (ledger.abandonTarget (s.frameAt_station _) x).trans same⟩
  · rw [State.takeAbandon_open opens, ends, State.abandonTarget_enterRun, eq]
  · simp [State.enterRun, State.freed]

/-- No visit is saved in a context without a target. -/
theorem State.ordinaryVisit_none (h : ∀ c, s.dvc.ordinary = some c → c.target = none) : s.ordinaryVisit = none := by
  simp only [State.ordinaryVisit, Option.bind_eq_none_iff]
  intro c some
  rw [Context.ended, h c some]

theorem State.criticalVisit_none
    (h : ∀ r, s.dvc.critical = some r → r.context.target = none ∨ r.context.part = none) : s.criticalVisit = none := by
  simp only [State.criticalVisit, Option.bind_eq_none_iff]
  intro r some
  obtain target | part := h r some
  · rw [Context.ended, target]
  · rw [Context.ended, part]
    cases r.context.target <;> rfl

theorem State.ordinaryVisit_some {c : Context} {n : Nat} {part : PointingPart} (saved : s.dvc.ordinary = some c)
    (target : c.target = some n) (carried : c.part = some part) : s.ordinaryVisit = some (n, part.kind) := by
  simp [State.ordinaryVisit, saved, Context.ended, target, carried]

theorem State.criticalVisit_some {r : CriticalRecord} {n : Nat} {part : PointingPart} (saved : s.dvc.critical = some r)
    (target : r.context.target = some n) (carried : r.context.part = some part) : s.criticalVisit = some (n, part.kind) := by
  simp [State.criticalVisit, saved, Context.ended, target, carried]

/-- DVC after RESUME from HELD: in RUN with the ordinary context freed, and a level LOST taken as LEVEL (R158). -/
def Dvc.resumed (d : Dvc) : Dvc :=
  { (if d.level = .lost then { d with level := .level, beyond := 0, within := 0 } else d) with
    state := .run, cause := .none, resumeMode := none, ordinary := none }

theorem Dvc.resumed_critical (d : Dvc) : d.resumed.critical = d.critical := by
  unfold Dvc.resumed
  split <;> rfl

/-- What RESUME from HELD makes of an ordinary context (R158). -/
theorem State.resumeHeld_some {c : Context} (saved : s.dvc.ordinary = some c) :
    s.resumeHeld =
      if c.recoverable then ((s.setDvc s.dvc.resumed).restartPointing c).choose
      else ((s.setDvc s.dvc.resumed).abandonTarget c.ended).choose := by
  unfold State.resumeHeld
  rw [saved]
  rfl

/-- RESUME from HELD with no target, and from HALTED with the line inactive, lead to RUN and no more. -/
theorem exec_resume_empty (takes : s.takesRequests) (stopped : s.osc.mode = .stopped)
    (empty : (s.dvc.state = .held ∧ ∃ c, s.dvc.ordinary = some c ∧ c.target = none)
      ∨ (s.dvc.state = .halted ∧ s.dvc.haltLine = false ∧ s.dvc.ordinary = none)) :
    ∃ t : State, exec (.resume h) s = .next (t.replied h.tag .done []) ∧ t.base = (s.frameAt h.us).base
      ∧ t.pen = (s.frameAt h.us).pen ∧ t.reports = s.reports ∧ s.SameLedger t
      ∧ t.dvc.state = .run ∧ t.dvc.cause = .none ∧ t.dvc.resumeMode = none ∧ t.dvc.ordinary = none
      ∧ t.dvc.critical = s.dvc.critical := by
  have settles : ∀ d : Dvc, d.state = .run → d.cause = .none → d.resumeMode = none → d.ordinary = none →
      d.critical = s.dvc.critical →
      (s.frameAt h.us).takeResume = State.answerDone ((s.frameAt h.us).setDvc d).choose.examineDispatch →
      ∃ t : State, exec (.resume h) s = .next (t.replied h.tag .done []) ∧ t.base = (s.frameAt h.us).base
        ∧ t.pen = (s.frameAt h.us).pen ∧ t.reports = s.reports ∧ s.SameLedger t
        ∧ t.dvc.state = .run ∧ t.dvc.cause = .none ∧ t.dvc.resumeMode = none ∧ t.dvc.ordinary = none
        ∧ t.dvc.critical = s.dvc.critical := by
    intro d run cause mode ordinary critical eq
    obtain ⟨_, _, _, form⟩ := State.choose_stopped (s := (s.frameAt h.us).setDvc d) (by simpa using stopped)
    rw [form] at eq
    exact ⟨_, exec_resume takes eq, rfl, rfl, s.frameAt_reports _,
      ⟨s.frameAt_entries _, s.frameAt_osc _, s.frameAt_notices _⟩, run, cause, mode, ordinary, critical⟩
  obtain ⟨held, c, saved, target⟩ | ⟨halted, line, free⟩ := empty
  · have unheld : (s.frameAt h.us).holdsRecoverable = false := by simp [State.holdsRecoverable, saved, target]
    have restart : ∀ t : State, t.restartPointing c = t := fun t => by simp only [State.restartPointing, target]
    have ended : c.ended = none := by rw [Context.ended, target]
    refine settles s.dvc.resumed rfl rfl rfl rfl s.dvc.resumed_critical ?_
    simp only [State.takeResume, State.frameAt_dvc, held, unheld, Bool.and_false, Bool.false_eq_true, if_false,
      State.resumeHeld_some (s := s.frameAt h.us) (by simpa using saved), restart, ended, State.abandonTarget, ite_self]
  · refine settles { s.dvc with state := .run, cause := .none, resumeMode := none } rfl rfl rfl free rfl ?_
    simp [State.takeResume, halted, line, State.enterRun]

end

/-- Settles O36: RESUME with nothing to resume, and ABANDON by the one visit that the contexts hold. -/
theorem diversionsEndWithoutAPointing : Obligations.DiversionsEndWithoutAPointing := by
  refine ⟨fun s h takes stopped => ⟨fun c held saved target part free => ⟨?_, ?_⟩, fun halted line free => ?_⟩,
    fun s h takes => ⟨fun closed => ?_, fun c n part e held stopped saved free target carried scheduled at_ unpended periodic below =>
      ?_⟩,
    fun s h takes stopped => ?_⟩
  · obtain ⟨t, eq, base, pen, reports, ledger, run, cause, mode, ordinary, critical⟩ :=
      exec_resume_empty (h := h) takes stopped (.inl ⟨held, c, saved, target⟩)
    exact ⟨t, eq, base, run, cause, mode, ordinary, critical, pen, ledger.entries, ledger.osc, ledger.notices, reports⟩
  · obtain ⟨t, eq, base, pen, reports, dvc, ledger⟩ := exec_abandon_ends (h := h) takes stopped (.inl held) (x := none)
      (.inl ⟨State.criticalVisit_none (by simp [free]), State.ordinaryVisit_none (by simpa [saved] using target)⟩)
    exact ⟨t, eq, base, by rw [dvc], by rw [dvc], by rw [dvc], by rw [dvc], by rw [dvc, free], pen, ledger.entries, ledger.osc,
      ledger.notices, reports⟩
  · obtain ⟨t, eq, base, pen, reports, ledger, run, cause, mode, ordinary, critical⟩ :=
      exec_resume_empty (h := h) takes stopped (.inr ⟨halted, line, free⟩)
    exact ⟨t, eq, base, run, cause, mode, ordinary, critical, pen, ledger.entries, ledger.osc, ledger.notices, reports⟩
  · exact exec_abandon takes (State.takeAbandon_closed (by simpa using closed))
  · obtain ⟨t, eq, base, pen, reports, dvc, ledger⟩ := exec_abandon_ends (h := h) takes stopped (.inl held)
      (.inl ⟨State.criticalVisit_none (by simp [free]), State.ordinaryVisit_some saved target carried⟩)
    rw [State.abandonTarget_some, scheduled, State.afterAbandoned_periodic at_ unpended periodic below] at ledger
    exact ⟨t, eq, base, ledger.entries, dvc, pen, ledger.osc, ledger.notices, reports⟩
  · have opens : (s.dvc.state = .held ∧ s.dvc.critical = none)
        ∨ (s.dvc.state = .critical ∧ s.dvc.haltLine = false ∧ ∃ r, s.dvc.critical = some r ∧ r.cleared = true) → s.mayAbandon :=
      Or.imp_left And.left
    refine ⟨fun left empty unrecorded => ?_, fun left c saved n target part carried unrecorded => ?_,
      fun left free r saved n target part carried => ?_⟩
    · obtain ⟨t, eq, base, pen, reports, dvc, ledger⟩ := exec_abandon_ends (h := h) takes stopped (opens left) (x := none)
        (.inl ⟨State.criticalVisit_none fun r some => .inl (unrecorded r some), State.ordinaryVisit_none empty⟩)
      exact ⟨t, eq, ⟨base, pen, reports, dvc⟩, ledger.entries, ledger.osc, ledger.notices⟩
    · obtain ⟨t, eq, base, pen, reports, dvc, ledger⟩ := exec_abandon_ends (h := h) takes stopped (opens left)
        (.inl ⟨State.criticalVisit_none fun r some => .inr (unrecorded r some), State.ordinaryVisit_some saved target carried⟩)
      rw [State.abandonTarget_some] at ledger
      exact ⟨t, eq, ⟨base, pen, reports, dvc⟩, ledger.entries, ledger.osc, ledger.notices⟩
    · obtain ⟨t, eq, base, pen, reports, dvc, ledger⟩ := exec_abandon_ends (h := h) takes stopped (opens left)
        (.inr ⟨State.ordinaryVisit_none (by simp [free]), State.criticalVisit_some saved target carried⟩)
      rw [State.abandonTarget_some] at ledger
      exact ⟨t, eq, ⟨base, pen, reports, dvc⟩, ledger.entries, ledger.osc, ledger.notices⟩

end Sys2Proof.Machine
end

section
/-! SUPPORT. RESUME from HELD and from a cleared CRITICAL (R158, R159, R152, R82). The statement ResumeRefusesOrRestarts. -/

namespace Sys2Proof.Machine

open Sys2Proof

/-! ### The choice and a waiting setpoint -/

/-- A choice leaves a waiting setpoint as it is: HOLD keeps it (R83, R92). -/
theorem State.choose_waiting (s : State) (a : Axis) : (s.choose.axis a).waiting = (s.axis a).waiting := by
  obtain ⟨u, before, after⟩ := s.chooseAxes_around false a
  have own : ((u.chooseAxis false a).axis a).waiting = (u.axis a).waiting := by
    simp only [State.chooseAxis]
    repeat' split
    · rfl
    · obtain ⟨sent, held⟩ := u.holdAxis_eq a
      rw [held]
      cases a <;> rfl
    · contradiction
    · rfl
    · rfl
  rw [State.choose, after.axis, own, before.axis]

/-- A HELD axis that is retargeted keeps the setpoint waiting (R88). -/
theorem AxisRec.retarget_held {r : AxisRec} (held : r.motion = .held) (a : Axis) (sp : Int) (q : Requester) :
    (r.retarget a sp q).axis.waiting = some { setpoint := sp, requester := q } := by
  rw [AxisRec.retarget, held]

/-- An inverse reduction reads the station block, ARU's state and the corrections alone. -/
theorem inverseReduction_congr {s t : State} (station : t.station = s.station) (aru : t.aru = s.aru) (scs : t.scs = s.scs) :
    inverseReduction t = inverseReduction s := by
  have form : t = { t with station := s.station, aru := s.aru, scs := s.scs } := by rw [← station, ← aru, ← scs]
  rw [form]
  rfl

/-! ### A pointing that restarts (R82) -/

section
variable {s t : State} {n : Nat} {part : PointingPart} {c : Context} {d : Dvc}

/-- `t` is `s` with the saved pointing restarted: its record refilled at SLEW and the axes retargeted (R82). -/
structure State.Restarts (s t : State) (n : Nat) (part : PointingPart) : Prop where
  form : ∃ q x y z, (part.restored n).Launched q
    ∧ t = { s with squ := zeroSqu, pen := { s.pen with retriesClosed := false, pointing := some q }, dsl := x, apg := y,
                   transmit := z }
  waits : ∀ a, (s.axis a).motion = .held → (t.axis a).waiting = some
    { setpoint :=
        match a with
        | .h => (inverseReduction s part.frozenCopy.hz part.frozenCopy.v part.ox part.oy).h
        | .v => (inverseReduction s part.frozenCopy.hz part.frozenCopy.v part.ox part.oy).v,
      requester := .pointing }

/-- A context with a pointing part restarts its pointing, and nothing is dispatched beside it. -/
theorem State.restartPointing_restarts (s : State) (target : c.target = some n) (carried : c.part = some part) :
    s.Restarts (s.restartPointing c).choose.examineDispatch n part := by
  have restart : s.restartPointing c = s.launch (part.restored n) := by simp only [State.restartPointing, target, carried]
  obtain ⟨q, y, launched, eq⟩ := s.launch_eq (p := part.restored n) rfl
  have undispatched : (s.launch (part.restored n)).choose.dispatchReady = false := by
    rw [State.choose_frame, eq]
    simp [State.dispatchReady, State.busy]
  rw [restart, State.examineDispatch, undispatched]
  simp only [Bool.false_eq_true, if_false]
  refine ⟨⟨q, (s.launch (part.restored n)).choose.dsl, (s.launch (part.restored n)).choose.apg,
    (s.launch (part.restored n)).choose.transmit, launched, ?_⟩, fun a held => ?_⟩
  · refine (State.choose_frame _).trans ?_
    rw [eq]
  · rw [State.choose_waiting, eq]
    cases a
    · exact AxisRec.retarget_held held _ _ _
    · exact AxisRec.retarget_held held _ _ _

/-- What a restart leaves of the record, of PEN and of SQU. -/
theorem State.Restarts.record (h : s.Restarts t n part) :
    ∃ p, t.pen.pointing = some p ∧ p.target = n ∧ p.kind = part.kind ∧ p.frozenCopy = part.frozenCopy
      ∧ (p.phase = .slew ∨ p.phase = .settle) ∧ p.searchLeg = part.searchLeg ∧ p.legsCompleted = part.legsCompleted
      ∧ p.ox = part.ox ∧ p.oy = part.oy ∧ p.attempts = part.attempts ∧ p.followCount = part.followCount
      ∧ p.dwell = part.dwell ∧ p.frozen = false ∧ p.reservation = false := by
  obtain ⟨q, x, y, z, ⟨phase, l, timer, arrived, same⟩, rfl⟩ := h.form
  refine ⟨q, rfl, ?_⟩
  generalize q.phase = phaseOf at *
  subst same
  exact ⟨rfl, rfl, rfl, phase, rfl, rfl, rfl, rfl, rfl, rfl, rfl, rfl, rfl⟩

/-- What a restart leaves unchanged. -/
theorem State.Restarts.kept (h : s.Restarts t n part) :
    t.base = s.base ∧ t.dvc = s.dvc ∧ t.squ = zeroSqu ∧ t.reports = s.reports ∧ s.SameLedger t := by
  obtain ⟨q, x, y, z, -, rfl⟩ := h.form
  exact ⟨rfl, rfl, rfl, rfl, rfl, rfl, rfl⟩

end

/-! ### The states that RESUME returns to (R152, R158, R159) -/

section
variable {s : State} {h : Hdr} {n : Nat} {part : PointingPart} {c : CriticalRecord} {d : Dvc}

theorem State.takeResume_closed (closed : s.dvc.state = .run ∨ s.dvc.state = .stopping
      ∨ (s.dvc.state = .halted ∧ s.dvc.haltLine = true)
      ∨ (s.dvc.state = .critical ∧ ∀ c, s.dvc.critical = some c → c.cleared = false)) :
    s.takeResume = s.refuse .state := by
  obtain run | stopping | ⟨halted, line⟩ | ⟨critical, uncleared⟩ := closed
  · simp [State.takeResume, run]
  · simp [State.takeResume, stopping]
  · simp [State.takeResume, halted, line]
  · cases record : s.dvc.critical with
    | none => simp [State.takeResume, critical, record]
    | some c => simp [State.takeResume, critical, record, uncleared c record]

theorem State.takeResume_held (held : s.dvc.state = .held) :
    s.takeResume =
      if s.scs.burn.isSome && s.holdsRecoverable then s.refuse .burning else State.answerDone s.resumeHeld.examineDispatch := by
  simp only [State.takeResume, held]

theorem State.takeResume_critical (critical : s.dvc.state = .critical) (record : s.dvc.critical = some c) (cleared : c.cleared = true) :
    s.takeResume =
      if s.scs.burn.isSome ∧ c.priorState = .run ∧ c.context.target.isSome then s.refuse .burning
      else State.answerDone (s.resumeCritical c).examineDispatch := by
  simp only [State.takeResume, critical, record, cleared, not_true_eq_false, if_false]

theorem State.autoResumeTest_resumes (held : s.dvc.state = .held) (auto : s.dvc.resumeMode = some .auto) (level : s.dvc.level = .level)
    (burn : s.scs.burn = none) : s.autoResumeTest = s.resumeHeld := if_pos ⟨held, auto, level, burn⟩

theorem State.autoResumeTest_waits (h : s.dvc.resumeMode ≠ some .auto ∨ s.dvc.level = .lost ∨ s.scs.burn ≠ none) :
    s.autoResumeTest = s := by
  refine if_neg fun ⟨_, auto, level, burn⟩ => ?_
  obtain other | lost | burning := h
  · exact other auto
  · rw [lost] at level
    cases level
  · exact burning burn

/-- `t` is `s` with DVC in the state given and its choice made. -/
def State.Returns (s : State) (d : Dvc) (t : State) : Prop := ∃ x y z, t = { s with dvc := d, dsl := x, apg := y, transmit := z }

theorem State.returns_choose (stopped : s.osc.mode = .stopped) (d : Dvc) :
    s.Returns d (s.setDvc d).choose.examineDispatch := State.choose_stopped (s := s.setDvc d) stopped

/-- The automatic resume of a context that has just been saved, or stood there already. -/
theorem State.autoResume_restarts {o : Context} (held : d.state = .held) (auto : d.resumeMode = some .auto)
    (level : d.level = .level) (burn : s.scs.burn = none) (saved : d.ordinary = some o) (recoverable : o.recoverable = true)
    (target : o.target = some n) (carried : o.part = some part) :
    ∃ u, s.Returns d.resumed u ∧ u.Restarts (s.setDvc d).choose.autoResumeTest.examineDispatch n part := by
  have dvc : (s.setDvc d).choose.dvc = d := State.choose_dvc _
  have eq : (s.setDvc d).choose.autoResumeTest
      = (((s.setDvc d).choose.setDvc d.resumed).restartPointing o).choose := by
    rw [State.autoResumeTest_resumes (by rw [dvc, held]) (by rw [dvc, auto]) (by rw [dvc, level])
      (by rw [State.choose_frame]; exact burn), State.resumeHeld_some (by rw [dvc, saved]), dvc, if_pos recoverable]
  rw [eq]
  refine ⟨_, ⟨(s.setDvc d).choose.dsl, (s.setDvc d).choose.apg, (s.setDvc d).choose.transmit, ?_⟩,
    State.restartPointing_restarts _ target carried⟩
  exact congrArg (State.setDvc · d.resumed) (State.choose_frame _)

/-- The automatic resume of a context with no target. -/
theorem State.autoResume_empty (stopped : s.osc.mode = .stopped) {o : Context} (held : d.state = .held)
    (auto : d.resumeMode = some .auto) (level : d.level = .level) (burn : s.scs.burn = none) (saved : d.ordinary = some o)
    (target : o.target = none) : s.Returns d.resumed (s.setDvc d).choose.autoResumeTest.examineDispatch := by
  have dvc : (s.setDvc d).choose.dvc = d := State.choose_dvc _
  have restart : ∀ t : State, t.restartPointing o = t := fun t => by simp only [State.restartPointing, target]
  have ended : o.ended = none := by rw [Context.ended, target]
  have eq : (s.setDvc d).choose.autoResumeTest = ((s.setDvc d).choose.setDvc d.resumed).choose := by
    rw [State.autoResumeTest_resumes (by rw [dvc, held]) (by rw [dvc, auto]) (by rw [dvc, level])
      (by rw [State.choose_frame]; exact burn), State.resumeHeld_some (by rw [dvc, saved]), dvc, restart, ended,
      State.abandonTarget, ite_self]
  obtain ⟨x, y, z, form⟩ := State.choose_stopped (s := (s.setDvc d).choose.setDvc d.resumed)
    ((s.setDvc d).choose_driveOnly.mode.trans stopped)
  rw [eq, form]
  refine ⟨x, y, z, ?_⟩
  rw [State.choose_frame]
  rfl

/-- No automatic resume: DVC stays in HELD. -/
theorem State.autoResume_stays (stopped : s.osc.mode = .stopped)
    (waits : d.resumeMode ≠ some .auto ∨ d.level = .lost ∨ s.scs.burn ≠ none) :
    s.Returns d (s.setDvc d).choose.autoResumeTest.examineDispatch := by
  have dvc : (s.setDvc d).choose.dvc = d := State.choose_dvc _
  have burn : (s.setDvc d).choose.scs = s.scs := by rw [State.choose_frame]; rfl
  rw [State.autoResumeTest_waits (by rw [dvc, burn]; exact waits)]
  exact s.returns_choose stopped d

/-- DVC in HELD with a context saved by a stop (R150). -/
def Dvc.holding (d : Dvc) (c : CriticalRecord) (at_ : Nat) : Dvc :=
  { d with
    state := .held, cause := c.priorCause, critical := none,
    resumeMode := some (if c.priorCause = .level then .auto else .command),
    ordinary :=
      some
        { target := c.context.target, part := c.context.part, cause := c.priorCause, recoverable := true, savedAt := at_ } }

theorem State.resumeCritical_stopping (prior : c.priorState = .stopping) :
    s.resumeCritical c = (s.setDvc (s.dvc.holding c s.stc.siteTime)).choose.autoResumeTest := by
  simp only [State.resumeCritical, prior]
  rfl

theorem State.resumeCritical_held (prior : c.priorState = .held) :
    s.resumeCritical c =
      (s.setDvc { s.dvc with state := .held, cause := c.priorCause, resumeMode := c.priorResume, critical := none }).choose.autoResumeTest := by
  simp only [State.resumeCritical, prior]
  rfl

theorem State.resumeCritical_halted (prior : c.priorState = .halted) :
    s.resumeCritical c = (s.setDvc { s.dvc with state := .halted, cause := .halt, resumeMode := none, critical := none }).choose := by
  simp only [State.resumeCritical, prior]
  rfl

theorem State.resumeCritical_run (prior : c.priorState = .run) :
    s.resumeCritical c =
      ((s.setDvc { s.dvc with state := .run, cause := .none, resumeMode := none, critical := none }).restartPointing c.context).choose := by
  simp only [State.resumeCritical, prior]
  rfl

/-- A pointing restarted, as the statement of RESUME tells it. -/
def State.RestartedAs (s t : State) (n : Nat) (part : PointingPart) : Prop :=
  t.entries = s.entries ∧ t.osc = s.osc ∧ t.reports = s.reports ∧ t.notices = s.notices ∧ t.squ = zeroSqu
    ∧ (t.pen.pointing.map fun p => (p.target, p.kind, p.frozenCopy)) = some (n, part.kind, part.frozenCopy)
    ∧ (t.pen.pointing.map fun p => (p.searchLeg, p.legsCompleted, p.ox, p.oy, p.attempts)) =
        some (part.searchLeg, part.legsCompleted, part.ox, part.oy, part.attempts)
    ∧ (t.pen.pointing.map fun p => (p.followCount, p.dwell, p.frozen, p.reservation)) =
        some (part.followCount, part.dwell, false, false)
    ∧ t.pen.pointing.all fun p => p.phase = .slew || p.phase = .settle

/-- A request that restarts a pointing. -/
theorem exec_resume_restarts {u t : State} (takes : s.takesRequests) (answer : (s.frameAt h.us).takeResume = State.answerDone t)
    (returns : (s.frameAt h.us).Returns d u) (restarts : u.Restarts t n part) :
    exec (.resume h) s = .next (t.replied h.tag .done []) ∧ t.base = (s.frameAt h.us).base ∧ t.dvc = d
      ∧ s.RestartedAs t n part := by
  obtain ⟨_, _, _, rfl⟩ := returns
  obtain ⟨base, dvc, squ, reports, ledger⟩ := restarts.kept
  obtain ⟨p, pointing, target, kind, copy, phase, leg, legs, ox, oy, attempts, count, dwell, frozen, reservation⟩ := restarts.record
  refine ⟨exec_resume (x := State.answerDone t) takes answer, base, dvc, ledger.entries.trans (s.frameAt_entries _),
    ledger.osc.trans (s.frameAt_osc _), reports.trans (s.frameAt_reports _), ledger.notices.trans (s.frameAt_notices _), squ, ?_⟩
  simp only [pointing, Option.map_some, Option.all_some, Bool.or_eq_true, decide_eq_true_eq]
  rw [target, kind, copy, leg, legs, ox, oy, attempts, count, dwell, frozen, reservation]
  exact ⟨rfl, rfl, rfl, phase⟩

/-- A request that leaves no pointing and no outcome. -/
theorem exec_resume_returns {t : State} (takes : s.takesRequests) (answer : (s.frameAt h.us).takeResume = State.answerDone t)
    (returns : (s.frameAt h.us).Returns d t) :
    exec (.resume h) s = .next (t.replied h.tag .done [])
      ∧ (t.base = (s.frameAt h.us).base ∧ t.pen = (s.frameAt h.us).pen ∧ t.entries = s.entries ∧ t.osc = s.osc
        ∧ t.reports = s.reports ∧ t.notices = s.notices)
      ∧ t.dvc = d := by
  refine ⟨exec_resume (x := State.answerDone t) takes answer, ?_⟩
  obtain ⟨_, _, _, rfl⟩ := returns
  exact ⟨⟨rfl, rfl, s.frameAt_entries _, s.frameAt_osc _, s.frameAt_reports _, s.frameAt_notices _⟩, rfl⟩

/-- RESUME from HELD with a recoverable target restarts its pointing. -/
theorem State.takeResume_restarts {o : Context} (held : s.dvc.state = .held) (burn : s.scs.burn = none)
    (saved : s.dvc.ordinary = some o) (recoverable : o.recoverable = true) (target : o.target = some n) (carried : o.part = some part) :
    ∃ u t, s.Returns s.dvc.resumed u ∧ u.Restarts t n part
      ∧ s.takeResume = State.answerDone t := by
  refine ⟨s.setDvc s.dvc.resumed, _, ⟨_, _, _, rfl⟩, State.restartPointing_restarts _ target carried, ?_⟩
  rw [State.takeResume_held held, State.resumeHeld_some saved, if_pos recoverable]
  simp [burn]

/-- A context that is not recoverable ends ABANDONED (R23, R24, R158). -/
theorem exec_resume_unrecoverable {o : Context} (takes : s.takesRequests) (stopped : s.osc.mode = .stopped) (held : s.dvc.state = .held)
    (saved : s.dvc.ordinary = some o) (lost : o.recoverable = false) (target : o.target = some n) (carried : o.part = some part) :
    ∃ t : State, exec (.resume h) s = .next (t.replied h.tag .done []) ∧ t.base = (s.frameAt h.us).base
      ∧ t.pen = (s.frameAt h.us).pen ∧ t.reports = s.reports ∧ t.dvc = s.dvc.resumed
      ∧ (s.afterAbandoned n part.kind).SameLedger t := by
  have ended : o.ended = some (n, part.kind) := by rw [Context.ended, target, carried]
  have ledger : s.SameLedger ((s.frameAt h.us).setDvc s.dvc.resumed) :=
    ⟨s.frameAt_entries _, s.frameAt_osc _, s.frameAt_notices _⟩
  obtain ⟨t, eq, base, pen, reports, dvc, same⟩ := State.abandonTarget_settles (s := (s.frameAt h.us).setDvc s.dvc.resumed)
    (by rw [ledger.osc]; exact stopped) (some (n, part.kind))
  have unheld : (s.frameAt h.us).holdsRecoverable = false := by simp [State.holdsRecoverable, saved, lost]
  have answer : (s.frameAt h.us).takeResume = State.answerDone t := by
    rw [State.takeResume_held (by simpa using held), unheld, if_neg (by simp),
      State.resumeHeld_some (c := o) (by simpa using saved), if_neg (by simp [lost]), ended, State.frameAt_dvc, eq]
  rw [State.abandonTarget_some] at same
  exact ⟨t, exec_resume (x := State.answerDone t) takes answer, base, pen, reports.trans (s.frameAt_reports _), dvc,
    (ledger.afterAbandoned (s.frameAt_station _) n part.kind).trans same⟩

end

theorem Dvc.resumed_level (d : Dvc) : d.resumed.level = .level ∧ (d.level = .lost → d.resumed.beyond = 0 ∧ d.resumed.within = 0) := by
  unfold Dvc.resumed
  cases level : d.level <;> simp [level]

theorem Dvc.resumed_of_level {d : Dvc} (level : d.level = .level) :
    d.resumed = { d with state := .run, cause := .none, resumeMode := none, ordinary := none } := by
  rw [Dvc.resumed, if_neg (by simp [level])]

/-- RESUME from a cleared CRITICAL is taken where no burn bars a target that restarts in RUN (R159). -/
theorem State.takeResume_cleared {s : State} {us : Nat} {c : CriticalRecord} (critical : s.dvc.state = .critical)
    (record : s.dvc.critical = some c) (cleared : c.cleared = true)
    (free : s.scs.burn = none ∨ c.priorState ≠ .run ∨ c.context.target = none) :
    (s.frameAt us).takeResume = State.answerDone ((s.frameAt us).resumeCritical c).examineDispatch := by
  rw [State.takeResume_critical (c := c) (by simpa using critical) (by simpa using record) cleared]
  refine if_neg ?_
  obtain burn | prior | target := free
  · simp [burn]
  · simp [prior]
  · simp [target]

/-- Settles O35: each refusal, HELD by its context, and a cleared CRITICAL by the prior state of its record. -/
theorem resumeRefusesOrRestarts : Obligations.ResumeRefusesOrRestarts := by
  refine ⟨fun s h takes => ⟨fun closed => ?_, fun held burn ⟨c, n, saved, recoverable, target⟩ => ?_,
      fun c n critical record cleared burn prior target => ?_⟩,
    fun s h c n part takes held burn saved recoverable target carried => ?_,
    fun s h takes stopped held c saved lost n target part carried => ?_,
    fun s h takes stopped critical => ?_⟩
  · exact exec_resume takes (State.takeResume_closed (by simpa using closed))
  · refine exec_resume takes ((State.takeResume_held (by simpa using held)).trans (if_pos ?_))
    simp [State.holdsRecoverable, saved, recoverable, target, Option.isSome_iff_ne_none.mpr burn]
  · refine exec_resume takes ((State.takeResume_critical (c := c) (by simpa using critical) (by simpa using record) cleared).trans
      (if_pos ?_))
    simp [prior, target, Option.isSome_iff_ne_none.mpr burn]
  · obtain ⟨u, t, ⟨_, _, _, rfl⟩, restarts, answer⟩ := State.takeResume_restarts (s := s.frameAt h.us) (by simpa using held)
      (by simpa using burn) (by simpa using saved) recoverable target carried
    obtain ⟨base, dvc, squ, reports, ledger⟩ := restarts.kept
    obtain ⟨p, pointing, record⟩ := restarts.record
    have dvc : t.dvc = s.dvc.resumed := by rw [dvc, State.frameAt_dvc]
    obtain ⟨target, kind, copy, phase, leg, legs, ox, oy, attempts, count, dwell, frozen, reservation⟩ := record
    exact ⟨t, p, exec_resume takes answer, base, by rw [dvc]; rfl, by rw [dvc]; rfl, by rw [dvc]; rfl, by rw [dvc]; rfl,
      by rw [dvc]; exact s.dvc.resumed_level.1, by rw [dvc]; exact s.dvc.resumed_level.2, pointing, target, kind, copy, phase, leg, legs,
      ox, oy, attempts, count, dwell, frozen, reservation, squ, ledger.entries.trans (s.frameAt_entries _),
      ledger.osc.trans (s.frameAt_osc _), reports.trans (s.frameAt_reports _), ledger.notices.trans (s.frameAt_notices _)⟩
  · obtain ⟨t, next, base, pen, reports, dvc, ledger⟩ := exec_resume_unrecoverable (h := h) takes stopped held saved lost target carried
    exact ⟨t, next, base, dvc, ledger.entries, ledger.osc, ledger.notices, pen, reports⟩
  · intro kept restarts c record cleared
    have idle : (s.frameAt h.us).osc.mode = .stopped := by simpa using stopped
    have answer := fun free => State.takeResume_cleared (us := h.us) critical record cleared free
    refine ⟨fun n target part carried prior burn => ?_, fun prior target _ => ?_, fun prior cause => ?_, fun prior cause level burn => ?_,
      fun prior stays => ?_, fun prior auto level burn o saved recoverable n target part carried => ?_, fun prior => ?_⟩
    · have again := State.restartPointing_restarts
        ((s.frameAt h.us).setDvc { s.dvc with state := .run, cause := .none, resumeMode := none, critical := none }) target carried
      obtain ⟨next, base, dvc, restarted⟩ := exec_resume_restarts takes
        ((answer (.inl burn)).trans (by rw [State.resumeCritical_run prior, State.frameAt_dvc])) ⟨_, _, _, rfl⟩ again
      have same : inverseReduction
          ((s.frameAt h.us).setDvc { s.dvc with state := .run, cause := .none, resumeMode := none, critical := none })
          = inverseReduction s := inverseReduction_congr (s.frameAt_station _) (s.frameAt_aru _) (s.frameAt_scs _)
      have waits := again.waits
      rw [same] at waits
      exact ⟨_, next, base, dvc, restarted, fun held => waits .h (by simpa [State.axis] using held),
        fun held => waits .v (by simpa [State.axis] using held)⟩
    · have plain : ∀ t : State, t.restartPointing c.context = t := fun t => by simp only [State.restartPointing, target]
      obtain ⟨next, same, dvc⟩ := exec_resume_returns takes
        ((answer (.inr (.inr target))).trans (by rw [State.resumeCritical_run prior, State.frameAt_dvc, plain]))
        (State.returns_choose idle _)
      exact ⟨_, next, same, dvc⟩
    · have mode : some (if c.priorCause = .level then ResumeMode.auto else .command)
          = some (if c.priorCause = .pause then ResumeMode.command else .auto) := by
        obtain pause | ⟨level, -⟩ := cause
        · simp [pause]
        · simp [level]
      have waits : (s.dvc.holding c (s.frameAt h.us).stc.siteTime).resumeMode ≠ some .auto
          ∨ (s.dvc.holding c (s.frameAt h.us).stc.siteTime).level = .lost ∨ (s.frameAt h.us).scs.burn ≠ none := by
        obtain pause | ⟨-, lost | burn⟩ := cause
        · exact .inl (by simp [Dvc.holding, pause])
        · exact .inr (.inl lost)
        · exact .inr (.inr (by simpa using burn))
      obtain ⟨next, same, dvc⟩ := exec_resume_returns takes
        ((answer (.inr (.inl (by simp [prior])))).trans (by rw [State.resumeCritical_stopping prior, State.frameAt_dvc]))
        (State.autoResume_stays idle waits)
      refine ⟨_, next, same, dvc.trans ?_⟩
      rw [Dvc.holding, mode]
    · have auto : (s.dvc.holding c (s.frameAt h.us).stc.siteTime).resumeMode = some .auto := by simp [Dvc.holding, cause]
      have resumed : (s.dvc.holding c (s.frameAt h.us).stc.siteTime).resumed =
          { s.dvc with state := .run, cause := .none, resumeMode := none, critical := none, ordinary := none } :=
        Dvc.resumed_of_level level
      have answers := (answer (.inl burn)).trans (by rw [State.resumeCritical_stopping prior, State.frameAt_dvc])
      refine ⟨fun n target part carried => ?_, fun target _ => ?_⟩
      · obtain ⟨u, returns, again⟩ := State.autoResume_restarts (s := s.frameAt h.us) rfl auto level (by simpa using burn) rfl rfl target
          carried
        obtain ⟨next, base, dvc, restarted⟩ := exec_resume_restarts takes answers returns again
        exact ⟨_, next, base, dvc.trans resumed, restarted⟩
      · obtain ⟨next, same, dvc⟩ := exec_resume_returns takes answers
          (State.autoResume_empty (s := s.frameAt h.us) idle rfl auto level (by simpa using burn) rfl target)
        exact ⟨_, next, same, dvc.trans resumed⟩
    · obtain ⟨next, same, dvc⟩ := exec_resume_returns takes
        ((answer (.inr (.inl (by simp [prior])))).trans (by rw [State.resumeCritical_held prior, State.frameAt_dvc]))
        (State.autoResume_stays idle (by simpa using stays))
      exact ⟨_, next, same, dvc⟩
    · obtain ⟨u, returns, again⟩ := State.autoResume_restarts (s := s.frameAt h.us)
        (d := { s.dvc with state := .held, cause := c.priorCause, resumeMode := c.priorResume, critical := none }) rfl auto level
        (by simpa using burn) saved recoverable target carried
      obtain ⟨next, base, dvc, restarted⟩ := exec_resume_restarts takes
        ((answer (.inl burn)).trans (by rw [State.resumeCritical_held prior, State.frameAt_dvc])) returns again
      exact ⟨_, next, base, dvc.trans (Dvc.resumed_of_level (by exact level)), restarted⟩
    · obtain ⟨next, same, dvc⟩ := exec_resume_returns takes
        ((answer (.inr (.inl (by simp [prior])))).trans (by rw [State.resumeCritical_halted prior, State.frameAt_dvc]))
        (State.returns_choose idle _)
      exact ⟨_, next, same, dvc⟩

end Sys2Proof.Machine
end

section
/-! SUPPORT. The end of a pointing and of the saved contexts as the target table sees them (R24, R25, R34, R79), HOLD for both axes
(R92, R134, R161), and the passing of time before an event (R175). -/

namespace Sys2Proof.Machine

open Sys2Proof

/-! ### What ends at the target table -/

section
variable {s t : State} {n : Nat} {k : PointingKind}

theorem State.enqueue_entries (s : State) (ns : List Nat) : (s.enqueue ns).entries = s.entries := by rw [State.enqueue_eq]

theorem State.enqueue_notices (s : State) (ns : List Nat) : (s.enqueue ns).notices = s.notices := by rw [State.enqueue_eq]

/-- An entry's move at an ABANDONED outcome raises no notice but SUSPENDED (R34). -/
theorem State.takeMove_record (s : State) (n : Nat) (m : EntryMove) {x : NoticeKind} (other : x ≠ .suspended) :
    (s.takeMove n .abandoned m).notices.record x = s.notices.record x := by
  have place : x.place ≠ NoticeKind.suspended.place := by cases x <;> simp_all [NoticeKind.place]
  have raised : ((s.setEntry n m.entry).raise .suspended (some n)).notices.record x = s.notices.record x :=
    Notices.record_raise_other _ _ place
  simp only [State.takeMove, Verdict.notice, State.raiseMaybe]
  split <;> split
  · rw [State.enqueue_notices, raised]
  · rw [State.enqueue_notices]
    rfl
  · exact raised
  · rfl

/-- The notices have no part in the entry's move and in the due queue. -/
theorem State.takeMove_notices (s : State) (ns : Notices) (n : Nat) (m : EntryMove) :
    (State.takeMove { s with notices := ns } n .abandoned m).entries = (s.takeMove n .abandoned m).entries
      ∧ (State.takeMove { s with notices := ns } n .abandoned m).osc = (s.takeMove n .abandoned m).osc := by
  simp only [State.takeMove, Verdict.notice, State.raiseMaybe]
  split <;> split
  · exact ⟨by rw [State.enqueue_entries, State.enqueue_entries]; rfl, State.enqueue_osc_congr (by rfl) (by rfl) _⟩
  · exact ⟨by rw [State.enqueue_entries, State.enqueue_entries]; rfl, State.enqueue_osc_congr (by rfl) (by rfl) _⟩
  · exact ⟨rfl, rfl⟩
  · exact ⟨rfl, rfl⟩

/-- An entry's move leaves the scheduler's other state. -/
theorem State.enqueue_detectorReady (s : State) (ns : List Nat) : (s.enqueue ns).osc.detectorReady = s.osc.detectorReady := by
  simp only [State.enqueue]
  split
  · rfl
  · split <;> rfl

theorem State.takeMove_detectorReady (s : State) (n : Nat) (m : EntryMove) :
    (s.takeMove n .abandoned m).osc.detectorReady = s.osc.detectorReady := by
  simp only [State.takeMove, Verdict.notice, State.raiseMaybe]
  split <;> split
  · rw [State.enqueue_detectorReady]
    rfl
  · rw [State.enqueue_detectorReady]
    rfl
  · rfl
  · rfl

theorem State.afterAbandoned_record (s : State) (n : Nat) (k : PointingKind) {x : NoticeKind} (other : x ≠ .suspended) :
    (s.afterAbandoned n k).notices.record x = s.notices.record x := by
  unfold State.afterAbandoned
  split
  · rfl
  · rw [State.afterOutcome_eq]
    exact s.takeMove_record _ _ other

theorem State.afterAbandoned_notices (s : State) (ns : Notices) (n : Nat) (k : PointingKind) :
    (State.afterAbandoned { s with notices := ns } n k).entries = (s.afterAbandoned n k).entries
      ∧ (State.afterAbandoned { s with notices := ns } n k).osc = (s.afterAbandoned n k).osc := by
  have entry : State.entry { s with notices := ns } n = s.entry n := rfl
  unfold State.afterAbandoned
  rw [entry]
  cases (s.entry n).pendingDef with
  | some d => exact ⟨rfl, rfl⟩
  | none =>
    dsimp only
    rw [State.afterOutcome_eq, State.afterOutcome_eq]
    exact s.takeMove_notices ns _ _

theorem State.afterAbandoned_detectorReady (s : State) (n : Nat) (k : PointingKind) :
    (s.afterAbandoned n k).osc.detectorReady = s.osc.detectorReady := by
  unfold State.afterAbandoned
  split
  · rfl
  · rw [State.afterOutcome_eq]
    exact s.takeMove_detectorReady _ _

theorem State.abandonTarget_record (s : State) {y : NoticeKind} (other : y ≠ .suspended) :
    ∀ x, (s.abandonTarget x).notices.record y = s.notices.record y
  | none => rfl
  | some (n, k) => by rw [State.abandonTarget_some, State.afterAbandoned_record _ _ _ other]

theorem State.abandonTarget_notices (s : State) (ns : Notices) :
    ∀ x, (State.abandonTarget { s with notices := ns } x).entries = (s.abandonTarget x).entries
      ∧ (State.abandonTarget { s with notices := ns } x).osc = (s.abandonTarget x).osc
  | none => ⟨rfl, rfl⟩
  | some (n, k) => by
    rw [State.abandonTarget_some, State.abandonTarget_some]
    exact s.afterAbandoned_notices ns n k

theorem State.abandonTarget_detectorReady (s : State) :
    ∀ x, (s.abandonTarget x).osc.detectorReady = s.osc.detectorReady
  | none => rfl
  | some (n, k) => by rw [State.abandonTarget_some, State.afterAbandoned_detectorReady]

theorem State.abandonTarget_dvc (s : State) (x : Option (Nat × PointingKind)) : (s.abandonTarget x).dvc = s.dvc := by
  obtain ⟨_, _, _, form, -⟩ := s.abandonTarget_ledgerOnly x
  rw [form]

theorem State.abandonTarget_station (s : State) (x : Option (Nat × PointingKind)) : (s.abandonTarget x).station = s.station := by
  obtain ⟨_, _, _, form, -⟩ := s.abandonTarget_ledgerOnly x
  rw [form]

/-- The contexts freed change the table, the due queue and the notices, and DVC's two contexts. -/
theorem State.discardContexts_ledgerOnly (s : State) : s.freed.LedgerOnly s.discardContexts := by
  have first := s.freed.abandonTarget_ledgerOnly s.ordinaryVisit
  rw [s.discardContexts_eq]
  split
  · exact first
  · exact first.trans (State.abandonTarget_ledgerOnly _ _)

theorem State.discardContexts_record (s : State) {y : NoticeKind} (other : y ≠ .suspended) :
    s.discardContexts.notices.record y = s.notices.record y := by
  rw [s.discardContexts_eq]
  split
  · exact State.abandonTarget_record _ other _
  · rw [State.abandonTarget_record _ other, State.abandonTarget_record _ other]
    rfl

theorem State.discardContexts_detectorReady (s : State) : s.discardContexts.osc.detectorReady = s.osc.detectorReady := by
  rw [s.discardContexts_eq]
  split
  · exact State.abandonTarget_detectorReady _ _
  · rw [State.abandonTarget_detectorReady, State.abandonTarget_detectorReady]
    rfl

theorem State.SameLedger.discardContexts (h : s.SameLedger t) (station : t.station = s.station)
    (ordinary : t.dvc.ordinary = s.dvc.ordinary) (critical : t.dvc.critical = s.dvc.critical) :
    s.discardContexts.SameLedger t.discardContexts := by
  have freed : s.freed.SameLedger t.freed := ⟨h.entries, h.osc, h.notices⟩
  have first := freed.abandonTarget station s.ordinaryVisit
  have visit : t.ordinaryVisit = s.ordinaryVisit := by rw [State.ordinaryVisit, ordinary]; rfl
  have visit' : t.criticalVisit = s.criticalVisit := by rw [State.criticalVisit, critical]; rfl
  have station' : (t.freed.abandonTarget s.ordinaryVisit).station = (s.freed.abandonTarget s.ordinaryVisit).station := by
    rw [State.abandonTarget_station, State.abandonTarget_station]
    exact station
  rw [s.discardContexts_eq, t.discardContexts_eq, visit, visit']
  split
  · exact first
  · exact first.abandonTarget station' _

/-- The visit in flight. -/
def State.flightVisit (s : State) : Option (Nat × PointingKind) := s.pen.pointing.map fun p => (p.target, p.kind)

/-- All that was in hand has ended ABANDONED: the pointing in flight, then the contexts' targets. -/
def State.discarded (s : State) : State := (s.abandonTarget s.flightVisit).discardContexts

theorem State.discarded_record (s : State) {y : NoticeKind} (other : y ≠ .suspended) :
    s.discarded.notices.record y = s.notices.record y := by
  rw [State.discarded, State.discardContexts_record _ other, State.abandonTarget_record _ other]

theorem State.discarded_detectorReady (s : State) : s.discarded.osc.detectorReady = s.osc.detectorReady := by
  rw [State.discarded, State.discardContexts_detectorReady, State.abandonTarget_detectorReady]

/-- With no visit saved, freeing the contexts ends nothing. -/
theorem State.discardContexts_none (ordinary : s.ordinaryVisit = none) (critical : s.criticalVisit = none) :
    s.discardContexts = s.freed := by
  rw [s.discardContexts_ordinary critical, ordinary]
  rfl

/-- With no visit saved, the pointing in flight alone ends. -/
theorem State.discarded_flight (ordinary : s.ordinaryVisit = none) (critical : s.criticalVisit = none) :
    (s.abandonTarget s.flightVisit).SameLedger s.discarded := by
  have dvc := s.abandonTarget_dvc s.flightVisit
  rw [State.discarded, State.discardContexts_none (by rw [State.ordinaryVisit, dvc]; exact ordinary)
    (by rw [State.criticalVisit, dvc]; exact critical)]
  exact ⟨rfl, rfl, rfl⟩

/-- With no pointing in flight, and one visit saved at most, that visit ends. -/
theorem State.discarded_saved (idle : s.pen.pointing = none) {x : Option (Nat × PointingKind)}
    (saved : (s.criticalVisit = none ∧ s.ordinaryVisit = x) ∨ (s.ordinaryVisit = none ∧ s.criticalVisit = x)) :
    (s.abandonTarget x).SameLedger s.discarded := by
  have flight : s.discarded = s.discardContexts := by rw [State.discarded, State.flightVisit, idle]; rfl
  have freed : s.SameLedger s.freed := ⟨rfl, rfl, rfl⟩
  rw [flight]
  obtain ⟨none, same⟩ | ⟨none, same⟩ := saved
  · rw [s.discardContexts_ordinary none, same]
    exact freed.abandonTarget rfl x
  · rw [s.discardContexts_critical none, same]
    exact freed.abandonTarget rfl x

end

/-! ### HOLD for both axes (R92, R134, R161) -/

section
variable {s t : State}

/-- `t` is `s` with HOLD selected for both axes: an axis that had it already is as it was, and another is put into HOLD. -/
structure State.Gripped (s t : State) : Prop where
  form : ∃ x y, t = { s with apg := x, dsl := { s.dsl with selected := both .hold }, transmit := y }
  axis : ∀ a, t.axis a = if s.dsl.selected.get a = .hold then s.axis a else (s.axis a).enterHold

theorem State.Gripped.selected (h : s.Gripped t) : t.dsl.selected = both .hold := by
  obtain ⟨_, _, rfl⟩ := h.form
  rfl

/-- One axis of HOLD. -/
def State.gripAxis (s : State) (a : Axis) : State := if s.dsl.selected.get a = .hold then s else s.holdAxis a

theorem State.gripAxis_eq (s : State) (a : Axis) :
    ∃ y z, s.gripAxis a =
      { s with
        apg := { axes := s.apg.axes.set a (if s.dsl.selected.get a = .hold then s.axis a else (s.axis a).enterHold), settle := y }
        dsl := { s.dsl with selected := s.dsl.selected.set a .hold }
        transmit := z } := by
  unfold State.gripAxis
  by_cases hold : s.dsl.selected.get a = .hold
  · have same : s.dsl.selected.set a .hold = s.dsl.selected := by rw [← hold, PerAxis.set_get]
    have kept : s.apg.axes.set a (s.axis a) = s.apg.axes := PerAxis.set_get _ _
    exact ⟨s.apg.settle, s.transmit, by rw [if_pos hold, if_pos hold, same, kept]⟩
  · obtain ⟨sent, held⟩ := s.holdAxis_eq a
    rw [if_neg hold, if_neg hold, held]
    exact ⟨_, _, rfl⟩

theorem State.holdBoth_gripped (s : State) : s.Gripped s.holdBoth := by
  have unfolds : s.holdBoth = (s.gripAxis .h).gripAxis .v := rfl
  obtain ⟨_, _, first⟩ := s.gripAxis_eq .h
  obtain ⟨_, _, second⟩ := (s.gripAxis .h).gripAxis_eq .v
  rw [unfolds, second, first]
  exact ⟨⟨_, _, rfl⟩, fun a => by cases a <;> rfl⟩

/-- In a state that holds, the choice is HOLD for both axes. -/
theorem State.choose_grips (holds : s.dvc.state.holds = true) : s.Gripped s.choose := by
  have one : ∀ (t : State) (a : Axis), t.dvc.state.holds = true → t.chooseAxis false a = t.gripAxis a := fun t a yes => by
    rw [State.chooseAxis, State.wanted_hold (.inr yes), if_pos rfl]
    rfl
  have choice : s.choose = s.holdBoth := by
    rw [State.choose, one s .h holds, one _ .v]
    · rfl
    · obtain ⟨_, _, first⟩ := s.gripAxis_eq .h
      rw [first]
      exact holds
  rw [choice]
  exact s.holdBoth_gripped

/-- Each axis is in HOLD, where its place and its motion agreed before (R92). -/
theorem State.Gripped.held (h : s.Gripped t) (law : ∀ a, s.dsl.selected.get a = .hold → (s.axis a).motion = .held) (a : Axis) :
    (t.axis a).motion = .held ∧ (t.axis a).p = (s.axis a).p ∧ (s.dsl.selected.get a ≠ .hold →
      (t.axis a).s = 0 ∧ (t.axis a).setpoint = none) := by
  rw [h.axis]
  split
  · rename_i hold
    exact ⟨law a hold, rfl, fun no => (no hold).elim⟩
  · exact ⟨rfl, rfl, fun _ => ⟨rfl, rfl⟩⟩

end

/-! ### The end of the pointing in flight -/

section
variable {s : State} {p : Pointing}

/-- An axis stopped under control changes the axes alone. -/
theorem State.stopAfterPointing_frame (s : State) : ∃ y, s.stopAfterPointing = { s with apg := y } := by
  have one : ∀ (t : State) (a : Axis), ∃ y, t.stopIfMoving a .nobody = { t with apg := y } := fun t a => by
    unfold State.stopIfMoving
    split
    · exact ⟨_, rfl⟩
    · exact ⟨t.apg, rfl⟩
  unfold State.stopAfterPointing
  split
  · exact ⟨s.apg, rfl⟩
  · obtain ⟨_, first⟩ := one s .h
    obtain ⟨_, second⟩ := one (s.stopIfMoving .h .nobody) .v
    rw [second, first]
    exact ⟨_, rfl⟩

theorem State.unpointed_abandoned (s : State) :
    s.unpointed .abandoned =
      { s with pen := { s.pen with pointing := none, shot := none }, apg := { s.apg with settle := none } } := by
  simp [State.unpointed]

theorem State.endPointing_eq (pointing : s.pen.pointing = some p) :
    s.endPointing .abandoned =
      ((s.unpointed .abandoned).stopAfterPointing.afterAbandoned p.target p.kind).choose := by
  simp only [State.endPointing, pointing]
  rw [State.unpointed_eq, State.deliverOutcome_abandoned]

theorem State.endPointing_none (idle : s.pen.pointing = none) (o : Verdict) : s.endPointing o = s := by
  simp only [State.endPointing, idle]

/-- The pointing in flight has ended ABANDONED, if there was one: what may differ, and the target table's part. -/
theorem State.endPointing_form (s : State) :
    ∃ es q ns x y z, s.endPointing .abandoned =
        { s with
          entries := es, osc := q, notices := ns, dsl := { s.dsl with selected := x }, apg := y, transmit := z
          pen := if s.pen.pointing.isSome then { s.pen with pointing := none, shot := none } else s.pen }
      ∧ q.mode = s.osc.mode ∧ (s.abandonTarget s.flightVisit).SameLedger (s.endPointing .abandoned) := by
  cases pointing : s.pen.pointing with
  | none =>
    rw [State.endPointing_none pointing, State.flightVisit, pointing]
    exact ⟨s.entries, s.osc, s.notices, s.dsl.selected, s.apg, s.transmit, by simp, rfl, .refl s⟩
  | some p =>
    obtain ⟨y, stopped⟩ := (s.unpointed .abandoned).stopAfterPointing_frame
    have eq := State.endPointing_eq pointing
    rw [stopped, State.unpointed_abandoned] at eq
    dsimp only at eq
    generalize before : ({ s with pen := { s.pen with pointing := none, shot := none }, apg := y } : State) = u at eq
    have ledger : s.SameLedger u := by rw [← before]; exact ⟨rfl, rfl, rfl⟩
    obtain ⟨es, q, ns, form, mode⟩ := u.afterAbandoned_ledgerOnly p.target p.kind
    have chosen := (u.afterAbandoned p.target p.kind).choose_frame
    have drive := (u.afterAbandoned p.target p.kind).choose_driveOnly
    generalize (u.afterAbandoned p.target p.kind).choose = c at eq chosen drive
    have same : (u.afterAbandoned p.target p.kind).SameLedger (s.endPointing .abandoned) := by
      rw [eq, chosen]
      exact ⟨rfl, rfl, rfl⟩
    have dsl : c.dsl = { s.dsl with selected := c.dsl.selected } := by
      have was : (u.afterAbandoned p.target p.kind).dsl = s.dsl := by rw [form, ← before]
      obtain ⟨-, -, -, jog, hold, -, -⟩ := drive
      rw [was] at jog hold
      dsimp only
      rw [← jog, ← hold]
    refine ⟨es, q, ns, c.dsl.selected, c.apg, c.transmit, ?_, mode.trans (by rw [ledger.osc]), ?_⟩
    · rw [← dsl, eq]
      refine chosen.trans ?_
      rw [form, ← before]
      rfl
    · rw [State.flightVisit, pointing, Option.map_some, State.abandonTarget_some]
      exact (ledger.afterAbandoned (by rw [← before]) p.target p.kind).trans same

end

end Sys2Proof.Machine
end

section
/-! SUPPORT. HALT by command and by line (R156, R161). The statement HaltHoldsAndDiscards. -/

namespace Sys2Proof.Machine

open Sys2Proof

/-! ### The passing of time before an event (R175) -/

section
variable {s u : State}

/-- `u` is `s` with time passed and the HALT line perhaps changed: it agrees with `s` in what the end of a diversion reads. -/
structure State.Passed (s u : State) : Prop where
  ledger : s.SameLedger u
  station : u.station = s.station
  dvc : ∃ line, u.dvc = { s.dvc with haltLine := line }
  flight : u.flightVisit = s.flightVisit
  shot : u.pen.shot.isSome = s.pen.shot.isSome
  apg : u.apg = s.apg
  dsl : u.dsl = s.dsl
  reports : u.reports = s.reports

/-- Time goes on by a move of the stamps held. -/
theorem State.advanceTo_moved (s : State) (us : Nat) : ∃ x δ, s.advanceTo us = State.moveTimes { s with stc := x } δ := by
  unfold State.advanceTo State.advanceBy
  dsimp only
  split
  · exact ⟨s.stc, 0, (State.moveTimes_zero s).symm⟩
  · split
    · exact ⟨_, 0, (State.moveTimes_zero _).symm⟩
    · exact ⟨_, _, rfl⟩

theorem State.advanceTo_passed (s : State) (us : Nat) : s.Passed (s.advanceTo us) := by
  obtain ⟨x, δ, eq⟩ := s.advanceTo_moved us
  rw [eq]
  refine ⟨⟨rfl, rfl, rfl⟩, rfl, ⟨s.dvc.haltLine, rfl⟩, ?_, ?_, rfl, rfl, rfl⟩
  · simp [State.flightVisit, State.moveTimes, Function.comp_def]
  · simp [State.moveTimes]

theorem State.frameAt_passed (s : State) (us : Nat) : s.Passed (s.frameAt us) := by
  obtain ⟨ledger, station, dvc, flight, shot, apg, dsl, reports⟩ := s.advanceTo_passed us
  exact ⟨⟨ledger.entries, ledger.osc, ledger.notices⟩, station, dvc, flight, shot, apg, dsl, reports⟩

theorem State.Passed.lined (h : s.Passed u) (line : Bool) : s.Passed (u.setDvc { u.dvc with haltLine := line }) := by
  obtain ⟨ledger, station, ⟨_, dvc⟩, flight, shot, apg, dsl, reports⟩ := h
  refine ⟨⟨ledger.entries, ledger.osc, ledger.notices⟩, station, ⟨line, ?_⟩, flight, shot, apg, dsl, reports⟩
  rw [dvc]
  rfl

theorem State.flightVisit_none : s.flightVisit = none ↔ s.pen.pointing = none := Option.map_eq_none_iff

theorem State.Passed.idle (h : s.Passed u) : u.pen.pointing = none ↔ s.pen.pointing = none := by
  rw [← State.flightVisit_none, h.flight, State.flightVisit_none]

theorem State.Passed.restarting (h : s.Passed u) : u.restarting = s.restarting := by
  obtain ⟨_, dvc⟩ := h.dvc
  rw [State.restarting, State.restarting, dvc]

theorem State.Passed.visits (h : s.Passed u) : u.ordinaryVisit = s.ordinaryVisit ∧ u.criticalVisit = s.criticalVisit := by
  obtain ⟨_, dvc⟩ := h.dvc
  exact ⟨by rw [State.ordinaryVisit, dvc]; rfl, by rw [State.criticalVisit, dvc]; rfl⟩

end

/-! ### What a HALT leaves -/

section
variable {s t : State}

/-- What a HALT leaves of `s`: both axes in HOLD, nothing in hand, and what ends at the target table; in the restart stop, the warm
values with the summary cleared come first. -/
structure State.Halts (s t : State) : Prop where
  base : t.base = s.base
  state : t.dvc.state = .halted
  cause : t.dvc.cause = .halt
  mode : t.dvc.resumeMode = none
  ordinary : t.dvc.ordinary = none
  critical : t.dvc.critical = none
  line : t.dvc.haltLine = s.dvc.haltLine
  pointing : t.pen.pointing = none
  shot : t.pen.shot = none
  jog : t.dsl.jog = .none
  selected : t.dsl.selected = both .hold
  reports : t.reports.queue = s.reports.queue
  axis : ∀ a, (t.axis a).motion = .held ∧ (t.axis a).p = (s.axis a).p ∧
    (s.dsl.selected.get a ≠ .hold → (t.axis a).s = 0 ∧ (t.axis a).setpoint = none)
  ledger : s.restarting = false → s.discarded.SameLedger t
  cleared : s.restarting = true → t.notices = (State.discardContexts { s with notices := clearNotices }).notices

/-- In a state that holds, with HOLD selected, the end of the pointing in flight leaves the axes as they are. -/
theorem State.endPointing_held (holds : s.dvc.state.holds = true) (selected : s.dsl.selected = both .hold) :
    ∃ es q ns y, s.endPointing .abandoned =
      { s with
        entries := es, osc := q, notices := ns, apg := { s.apg with settle := y }
        pen := if s.pen.pointing.isSome then { s.pen with pointing := none, shot := none } else s.pen } := by
  cases pointing : s.pen.pointing with
  | none => exact ⟨s.entries, s.osc, s.notices, s.apg.settle, State.endPointing_none pointing _⟩
  | some p =>
    have stays : (s.unpointed .abandoned).stopAfterPointing = s.unpointed .abandoned := if_pos holds
    obtain ⟨es, q, ns, form, -⟩ := (s.unpointed .abandoned).afterAbandoned_ledgerOnly p.target p.kind
    rw [State.endPointing_eq pointing, stays, form, State.choose_hold (by exact selected), State.unpointed_abandoned]
    exact ⟨es, q, ns, none, rfl⟩

/-- In a state that holds, with HOLD selected, the end of all that is in hand leaves the axes as they are. -/
theorem State.endsHeld (holds : s.dvc.state.holds = true) (selected : s.dsl.selected = both .hold)
    (paired : s.pen.pointing = none → s.pen.shot = none) :
    ∃ es q ns y, (s.endPointing .abandoned).discardContexts =
        { s with
          entries := es, osc := q, notices := ns, apg := { s.apg with settle := y }
          pen := { s.pen with pointing := none, shot := none }, dvc := { s.dvc with ordinary := none, critical := none } }
      ∧ s.discarded.SameLedger (s.endPointing .abandoned).discardContexts := by
  obtain ⟨_, _, _, _, _, _, _, -, ledger⟩ := s.endPointing_form
  obtain ⟨_, _, _, y, form⟩ := State.endPointing_held holds selected
  have pen : (if s.pen.pointing.isSome then { s.pen with pointing := none, shot := none } else s.pen) =
      { s.pen with pointing := none, shot := none } := by
    cases pointing : s.pen.pointing with
    | none => rw [← paired pointing, ← pointing]; exact ite_self _
    | some p => rfl
  rw [pen] at form
  obtain ⟨es, q, ns, discarded, -⟩ := (s.endPointing .abandoned).discardContexts_ledgerOnly
  have dvc : (s.endPointing .abandoned).dvc = (s.abandonTarget s.flightVisit).dvc := by rw [form, State.abandonTarget_dvc]
  have station : (s.endPointing .abandoned).station = (s.abandonTarget s.flightVisit).station := by
    rw [form, State.abandonTarget_station]
  refine ⟨es, q, ns, y, ?_, ledger.discardContexts station (by rw [dvc]) (by rw [dvc])⟩
  rw [discarded, form]
  rfl

/-- A HALT outside the restart stop. -/
theorem State.takeHalt_calm (other : s.dvc.state ≠ .halted) (free : s.dvc.state ≠ .lockout) (calm : s.restarting = false)
    (law : ∀ a, s.dsl.selected.get a = .hold → (s.axis a).motion = .held) (paired : s.pen.pointing = none → s.pen.shot = none) :
    s.Halts s.takeHalt := by
  let w := (s.setJog .none).setDvc { s.dvc with state := .halted, cause := .halt, resumeMode := none }
  have eq : s.takeHalt = (w.choose.endPointing .abandoned).discardContexts := by
    unfold State.takeHalt
    split
    · contradiction
    · contradiction
    · rw [calm]
      rfl
  have grips : w.Gripped w.choose := State.choose_grips rfl
  obtain ⟨x, y, held⟩ := grips.form
  have axes := grips.held law
  obtain ⟨es, q, ns, z, form, ledger⟩ := State.endsHeld (s := w.choose) (by rw [held]; rfl) grips.selected (by rw [held]; exact paired)
  have discarded : s.discarded.SameLedger w.choose.discarded := by
    have before : s.SameLedger w.choose := by rw [held]; exact ⟨rfl, rfl, rfl⟩
    have flight : w.choose.flightVisit = s.flightVisit := by rw [held]; rfl
    have first := before.abandonTarget (by rw [held]; rfl) s.flightVisit
    rw [State.discarded, State.discarded, flight]
    refine first.discardContexts ?_ ?_ ?_
    · rw [State.abandonTarget_station, State.abandonTarget_station, held]; rfl
    · rw [State.abandonTarget_dvc, State.abandonTarget_dvc, held]; rfl
    · rw [State.abandonTarget_dvc, State.abandonTarget_dvc, held]; rfl
  have same := discarded.trans ledger
  rw [eq]
  rw [form, held] at same ⊢
  rw [held] at axes
  exact ⟨rfl, rfl, rfl, rfl, rfl, rfl, rfl, rfl, rfl, rfl, rfl, rfl, axes, fun _ => same, fun going => absurd going (by simp [calm])⟩

/-- The warm values follow what ends at the target table, and HOLD stays selected where it is for both axes. -/
theorem State.warmValues_form (s : State) (raised : Notices) :
    ∃ es q ns, State.discardContexts { s with notices := raised } =
        { s with entries := es, osc := q, notices := ns, dvc := { s.dvc with ordinary := none, critical := none } }
      ∧ s.warmValues raised = (State.warmed { s with entries := es, osc := q } ns).choose := by
  obtain ⟨es, q, ns, discarded, -⟩ := State.discardContexts_ledgerOnly { s with notices := raised }
  refine ⟨es, q, ns, discarded, ?_⟩
  rw [State.warmValues, discarded]
  rfl

/-- A HALT in the restart stop. -/
theorem State.takeHalt_restarting (going : s.restarting = true)
    (law : ∀ a, s.dsl.selected.get a = .hold → (s.axis a).motion = .held) (idle : s.pen.pointing = none) (shot : s.pen.shot = none) :
    s.Halts s.takeHalt := by
  have state : s.dvc.state = .stopping := (of_decide_eq_true going).1
  obtain ⟨x, y, held⟩ := s.holdBoth_gripped.form
  have axes := s.holdBoth_gripped.held law
  obtain ⟨es, q, ns, discarded, warm⟩ := s.holdBoth.warmValues_form clearNotices
  have eq : s.takeHalt =
      ((s.holdBoth.warmValues clearNotices).setDvc
        { (s.holdBoth.warmValues clearNotices).dvc with state := .halted, cause := .halt, resumeMode := none }).choose := by
    unfold State.takeHalt
    rw [state, going]
    rfl
  have ledger : (State.discardContexts { s with notices := clearNotices }).notices = ns := by
    have same : State.SameLedger { s with notices := clearNotices } { s.holdBoth with notices := clearNotices } := by
      rw [held]; exact ⟨rfl, rfl, rfl⟩
    have := (same.discardContexts (by rw [held]) (by rw [held]) (by rw [held])).notices
    rw [← this, discarded]
  rw [State.choose_hold (by rw [held]; rfl)] at warm
  rw [eq, warm, State.choose_hold (by rw [held]; rfl)]
  rw [held] at axes ⊢
  refine ⟨rfl, rfl, rfl, rfl, rfl, rfl, rfl, idle, shot, rfl, rfl, rfl, fun a => ?_, fun calm => ?_, fun _ => ledger.symm⟩
  · have := axes a
    cases a <;> exact this
  · rw [going] at calm
    cases calm

/-- A HALT taken in any DVC state but HALTED and LOCKOUT. -/
theorem State.takeHalt_halts (other : s.dvc.state ≠ .halted) (free : s.dvc.state ≠ .lockout)
    (law : ∀ a, s.dsl.selected.get a = .hold → (s.axis a).motion = .held) (paired : s.pen.pointing = none → s.pen.shot = none)
    (placed : s.restarting = true → s.pen.pointing = none) : s.Halts s.takeHalt := by
  cases going : s.restarting with
  | false => exact State.takeHalt_calm other free going law paired
  | true => exact State.takeHalt_restarting going law (placed going) (paired (placed going))

/-- `t` has the table, the due queue and the notices that the ABANDONED outcome leaves of `s`. -/
def State.EndsAbandoned (s t : State) (n : Nat) (k : PointingKind) : Prop :=
  t.entries = (s.afterAbandoned n k).entries ∧ t.osc = (s.afterAbandoned n k).osc ∧ t.notices = (s.afterAbandoned n k).notices

theorem State.EndsAbandoned.of_ledger {n : Nat} {k : PointingKind} (h : (s.abandonTarget (some (n, k))).SameLedger t) : s.EndsAbandoned t n k := by
  rw [State.abandonTarget_some] at h
  exact ⟨h.entries, h.osc, h.notices⟩

/-- The notices, the table and the due queue after a HALT, as the statement tells them. -/
def State.HaltTells (s t : State) : Prop :=
  (∀ k, k ≠ .suspended →
      t.notices.record k = if s.restarting = true then { pending := false, count := 0, lastTarget := none } else s.notices.record k)
    ∧ (s.pen.pointing = none → (∀ c, s.dvc.ordinary = some c → c.target = none) →
        (∀ r, s.dvc.critical = some r → r.context.target = none) →
        t.notices = (if s.restarting = true then clearNotices else s.notices))
    ∧ (s.dvc.ordinary = none → s.dvc.critical = none → ∀ p, s.pen.pointing = some p → s.EndsAbandoned t p.target p.kind)
    ∧ (s.pen.pointing = none → s.restarting = false → (∀ r, s.dvc.critical = some r → r.context.part = none) →
        ∀ c, s.dvc.ordinary = some c → ∀ n, c.target = some n → ∀ x, c.part = some x → s.EndsAbandoned t n x.kind)
    ∧ (s.pen.pointing = none → s.restarting = false → s.dvc.ordinary = none → ∀ r, s.dvc.critical = some r →
        ∀ n, r.context.target = some n → ∀ x, r.context.part = some x → s.EndsAbandoned t n x.kind)

/-- The visits ended by a HALT stand in the ledger that it leaves. -/
theorem State.Halts.saved {u : State} (h : u.Halts t) (passed : s.Passed u) (calm : s.restarting = false)
    (idle : s.pen.pointing = none) {x : Option (Nat × PointingKind)}
    (saved : (s.criticalVisit = none ∧ s.ordinaryVisit = x) ∨ (s.ordinaryVisit = none ∧ s.criticalVisit = x)) :
    (s.abandonTarget x).SameLedger t := by
  have ends := State.discarded_saved (passed.idle.mpr idle) (x := x) (by rw [passed.visits.1, passed.visits.2]; exact saved)
  exact ((passed.ledger.abandonTarget passed.station x).trans ends).trans (h.ledger (passed.restarting.trans calm))

theorem State.Halts.tells {u : State} (h : u.Halts t) (passed : s.Passed u) (placed : s.pointingPlaced) : s.HaltTells t := by
  have clear : ∀ k, clearNotices.record k = { pending := false, count := 0, lastTarget := none } := fun k => by cases k <;> rfl
  refine ⟨fun k other => ?_, fun idle ordinary critical => ?_, fun ordinary critical p pointing => ?_,
    fun idle calm unrecorded c saved n target x part => ?_, fun idle calm free r saved n target x part => ?_⟩
  · split
    · rename_i going
      rw [h.cleared (passed.restarting.trans going), State.discardContexts_record _ other]
      exact clear k
    · rename_i calm
      rw [(h.ledger (passed.restarting.trans (by simpa using calm))).notices, State.discarded_record _ other, passed.ledger.notices]
  · have unsaved := State.ordinaryVisit_none ordinary
    have unrecorded := State.criticalVisit_none fun r some => .inl (critical r some)
    split
    · rename_i going
      obtain ⟨ordinary', critical'⟩ := passed.visits
      rw [h.cleared (passed.restarting.trans going),
        State.discardContexts_none (by exact ordinary'.trans unsaved) (by exact critical'.trans unrecorded)]
      rfl
    · rename_i calm
      exact (h.saved passed (by simpa using calm) idle (x := none) (.inl ⟨unrecorded, unsaved⟩)).notices
  · have calm : s.restarting = false := by
      obtain run | ⟨-, cause, -⟩ := placed p pointing
      · exact State.restarting_of_state (by simp [run])
      · simp [State.restarting, cause]
    have ends := State.discarded_flight (passed.visits.1.trans (State.ordinaryVisit_none (by simp [ordinary])))
      (passed.visits.2.trans (State.criticalVisit_none (by simp [critical])))
    have flight : s.flightVisit = some (p.target, p.kind) := by rw [State.flightVisit, pointing]; rfl
    rw [passed.flight, flight] at ends
    exact .of_ledger (((passed.ledger.abandonTarget passed.station _).trans ends).trans (h.ledger (passed.restarting.trans calm)))
  · exact .of_ledger (h.saved passed calm idle
      (.inl ⟨State.criticalVisit_none fun r some => .inr (unrecorded r some), State.ordinaryVisit_some saved target part⟩))
  · exact .of_ledger (h.saved passed calm idle
      (.inr ⟨State.ordinaryVisit_none (by simp [free]), State.criticalVisit_some saved target part⟩))

theorem exec_halt {h : Hdr} {x : Answered} (takes : s.takesRequests) (answer : (s.frameAt h.us).takeHaltCommand = x) :
    exec (.halt h) s = .next (x.state.replied h.tag x.code x.body) :=
  exec_request takes rfl (fun _ _ => rfl) answer

/-- A HALT of `s` as time has passed, under the laws of both axes, of shots and of pointings. -/
theorem State.Passed.halts {u : State} (passed : s.Passed u) (other : s.dvc.state ≠ .halted) (free : s.dvc.state ≠ .lockout)
    (law : ∀ a, s.axisHeldLaw a) (shots : s.shotLaw) : u.Halts u.takeHalt := by
  obtain ⟨-, reserved, placed⟩ := shots
  obtain ⟨line, dvc⟩ := passed.dvc
  refine State.takeHalt_halts (by rw [dvc]; exact other) (by rw [dvc]; exact free) (fun a hold => ?_) (fun idle => ?_) fun going => ?_
  · rw [State.axis, passed.apg]
    exact (law a).1.mp (by rw [← passed.dsl]; exact hold)
  · have none : s.pen.shot.isSome = false := by
      by_contra some
      have := reserved ((Bool.not_eq_false _).mp some)
      rw [passed.idle.mp idle] at this
      cases this
    exact Option.isSome_eq_false_iff.mp (passed.shot.trans none) |> Option.isNone_iff_eq_none.mp
  · refine passed.idle.mpr (Option.eq_none_iff_forall_ne_some.mpr fun p pointing => ?_)
    obtain ⟨state, cause⟩ := of_decide_eq_true (passed.restarting.symm.trans going)
    obtain run | ⟨-, no, -⟩ := placed p pointing
    · rw [state] at run
      cases run
    · exact no cause

/-- Outside RUN and STOPPING, what follows an event is the end of a jog and DSL's choice. -/
theorem State.wrapUp_elsewhere (run : s.dvc.state ≠ .run) (stopping : s.dvc.state ≠ .stopping) :
    ∃ x y z, s.wrapUp = { s with dsl := x, apg := y, transmit := z } := by
  have state : s.jogTest.choose.dvc = s.dvc := by rw [State.choose_dvc, State.jogTest_frame]
  have undispatched : s.jogTest.choose.dispatchReady = false := by simp [State.dispatchReady, state, run]
  have eq : s.wrapUp = s.jogTest.choose := by
    rw [State.wrapUp, State.wrapUpWith, State.stopTest, State.stopComplete_of_state (by rw [state]; exact stopping),
      if_neg Bool.false_ne_true, State.examineDispatch, undispatched, if_neg Bool.false_ne_true, State.restarting_of_state stopping]
    rfl
  refine ⟨s.jogTest.choose.dsl, s.jogTest.choose.apg, s.jogTest.choose.transmit, ?_⟩
  rw [eq]
  refine s.jogTest.choose_frame.trans ?_
  generalize s.jogTest.choose = c
  rw [State.jogTest_frame]

/-- The HALT line rises where nothing more of the diversion changes. -/
theorem State.haltLineRises_quiet {us : Nat} (line : s.dvc.haltLine = false)
    (state : s.dvc.state = .halted ∨ s.dvc.state = .lockout) :
    ∃ t : State, exec (.haltLineAsserted us) s = .next t ∧ t.dvc = { s.dvc with haltLine := true }
      ∧ t.base = (s.advanceTo us).base ∧ t.entries = s.entries ∧ t.osc = s.osc ∧ t.notices = s.notices := by
  let u := (s.advanceTo us).setDvc { (s.advanceTo us).dvc with haltLine := true }
  have dvc : u.dvc = { s.dvc with haltLine := true } := by simp [u]
  have noted : u.takeHalt = u := by
    obtain halted | lockout := state
    · simp [State.takeHalt, dvc, halted]
    · simp [State.takeHalt, dvc, lockout]
  have calm : (s.advanceTo us).restarting = false :=
    State.restarting_of_state (by obtain state | state := state <;> simp [state])
  obtain ⟨x, y, z, eq⟩ := State.wrapUp_elsewhere (s := u) (by obtain state | state := state <;> simp [dvc, state])
    (by obtain state | state := state <;> simp [dvc, state])
  have next : exec (.haltLineAsserted us) s = .next { u with dsl := x, apg := y, transmit := z } := by
    refine congrArg Host.Outcome.next ?_
    rw [State.haltLineRises, if_neg (by simp [line]), calm, show ((s.advanceTo us).setDvc _).takeHalt = u from noted, eq]
    rfl
  exact ⟨_, next, dvc, rfl, s.advanceTo_entries us, s.advanceTo_osc us, s.advanceTo_notices us⟩

/-- An OBS frame that may begin at the end of a HALT in the restart stop changes the transmitter alone. -/
theorem State.recordMayGo_frame (s : State) (b : Bool) : ∃ z, s.recordMayGo b = { s with transmit := z } := by
  unfold State.recordMayGo State.beginObs
  repeat' split
  · exact ⟨_, rfl⟩
  · exact ⟨s.transmit, rfl⟩
  · exact ⟨s.transmit, rfl⟩
  · exact ⟨s.transmit, rfl⟩

/-- A rise of the HALT line where it takes a HALT: nothing follows it but a record that may go. -/
theorem exec_haltLineAsserted {us : Nat} (line : s.dvc.haltLine = false) {u : State}
    (noted : (s.advanceTo us).setDvc { (s.advanceTo us).dvc with haltLine := true } = u) (halts : u.Halts u.takeHalt) :
    ∃ t, exec (.haltLineAsserted us) s = .next t ∧ u.Halts t := by
  have quiet : u.takeHalt.wrapUp = u.takeHalt :=
    State.wrapUp_hold halts.selected halts.jog (by rw [halts.state]; simp)
  obtain ⟨z, sent⟩ := u.takeHalt.recordMayGo_frame (s.advanceTo us).restarting
  refine ⟨u.takeHalt.recordMayGo (s.advanceTo us).restarting, ?_, ?_⟩
  · refine congrArg Host.Outcome.next ?_
    rw [State.haltLineRises, if_neg (by simp [line]), noted, quiet]
  · rw [sent]
    exact ⟨halts.base, halts.state, halts.cause, halts.mode, halts.ordinary, halts.critical, halts.line, halts.pointing, halts.shot,
      halts.jog, halts.selected, halts.reports, halts.axis,
      fun calm => (halts.ledger calm).trans ⟨rfl, rfl, rfl⟩, halts.cleared⟩

end

/-- Settles O33: one HALT for the command and the line, under the laws of both axes and of shots, and the cases that change nothing. -/
theorem haltHoldsAndDiscards : Obligations.HaltHoldsAndDiscards := by
  refine ⟨fun s other free law shots => ?_, fun s => ⟨fun h takes halted => ?_, fun us line => ?_, fun us line state => ?_, fun us => ?_⟩⟩
  · have holds : ∀ (u t : State) (line : Bool), s.Passed u → u.dvc.haltLine = line → u.Halts t →
        s.HaltTells t ∧ t.dvc.state = .halted ∧ t.dvc.cause = .halt ∧ t.dvc.resumeMode = none ∧ t.dvc.ordinary = none
          ∧ t.dvc.critical = none ∧ t.dvc.haltLine = line ∧ t.pen.pointing = none ∧ t.pen.shot = none ∧ t.dsl.jog = .none
          ∧ t.dsl.selected = both .hold ∧ t.reports.queue = s.reports.queue
          ∧ ∀ a, (t.axis a).motion = .held ∧ (t.axis a).p = (s.axis a).p ∧ (s.dsl.selected.get a ≠ .hold →
              (t.axis a).s = 0 ∧ (t.axis a).setpoint = none) := by
      intro u t line passed same halts
      refine ⟨halts.tells passed shots.2.2, halts.state, halts.cause, halts.mode, halts.ordinary, halts.critical,
        halts.line.trans same, halts.pointing, halts.shot, halts.jog, halts.selected, halts.reports.trans (by rw [passed.reports]),
        fun a => ?_⟩
      have axis := halts.axis a
      have same : u.axis a = s.axis a := by rw [State.axis, passed.apg]; rfl
      rw [passed.dsl, same] at axis
      exact axis
    refine ⟨fun h takes => ?_, fun us line => ?_⟩
    · have halts := (s.frameAt_passed h.us).halts other free law shots
      have taken : (s.frameAt h.us).takeHaltCommand = State.answerDone (s.frameAt h.us).takeHalt := by
        simp [State.takeHaltCommand, State.frameAt_locked, free]
      exact ⟨_, exec_halt takes taken, halts.base, holds _ _ _ (s.frameAt_passed h.us) (by simp) halts⟩
    · obtain ⟨t, next, halts⟩ := exec_haltLineAsserted (us := us) line rfl
        (((s.advanceTo_passed us).lined true).halts other free law shots)
      exact ⟨t, next, halts.base, holds _ _ _ ((s.advanceTo_passed us).lined true) rfl halts⟩
  · refine exec_halt (x := State.answerDone (s.frameAt h.us)) takes ?_
    simp [State.takeHaltCommand, State.frameAt_locked, State.takeHalt, halted]
  · refine congrArg Host.Outcome.next (if_pos ?_)
    simpa using line
  · exact State.haltLineRises_quiet line state
  · refine congrArg Host.Outcome.next ?_
    rw [← s.advanceTo_dvc us]
    rfl

end Sys2Proof.Machine
end

section
/-! SUPPORT. RESTART: the warm values at once, and the restart stop (R161, R162, R40). The statement RestartStopsAndWarms. -/

namespace Sys2Proof.Machine

open Sys2Proof

/-! ### What a choice keeps -/

section
variable {s : State} {a : Axis}

/-- What a choice at an event makes of one axis: it is as it was, or it enters HOLD. -/
theorem State.choose_axis (s : State) (a : Axis) :
    s.choose.axis a = s.axis a ∨ (s.wantedSource a = .hold ∧ s.choose.axis a = (s.axis a).enterHold) := by
  obtain ⟨u, before, after⟩ := s.chooseAxes_around false a
  have own : (u.chooseAxis false a).axis a = u.axis a
      ∨ (u.wantedSource a = .hold ∧ (u.chooseAxis false a).axis a = (u.axis a).enterHold) := by
    simp only [State.chooseAxis]
    repeat' split
    · exact .inl rfl
    · rename_i want _
      obtain ⟨sent, held⟩ := u.holdAxis_eq a
      rw [held]
      exact .inr ⟨want, by cases a <;> rfl⟩
    · contradiction
    · exact .inl rfl
    · exact .inl rfl
  rw [before.wanted, before.axis] at own
  rw [State.choose, after.axis]
  exact own

/-- An axis at rest stays at rest. -/
theorem State.choose_rest (rest : (s.axis a).inMotion = false) : (s.choose.axis a).inMotion = false := by
  obtain same | ⟨-, held⟩ := s.choose_axis a
  · rw [same, rest]
  · rw [held]
    rfl

/-- Where HOLD is not wanted, the axis is as it was. -/
theorem State.choose_axis_free (free : s.wantedSource a ≠ .hold) : s.choose.axis a = s.axis a :=
  (s.choose_axis a).resolve_right fun h => free h.1

/-- A choice begins no settle test. -/
theorem State.choose_settle (none : s.apg.settle = none) : s.choose.apg.settle = Option.none := by
  have one : ∀ (t : State) (a : Axis), t.apg.settle = Option.none → (t.chooseAxis false a).apg.settle = Option.none := by
    intro t a empty
    simp only [State.chooseAxis]
    repeat' split
    · exact empty
    · obtain ⟨sent, held⟩ := t.holdAxis_eq a
      rw [held]
    · contradiction
    · exact empty
    · exact empty
  exact one _ .v (one s .h none)

end

/-! ### The choice and the tests after the warm values -/

section
variable {s t : State}

/-- What follows the warm values: the drive selector's choices alone. -/
theorem State.warmed_settles (s : State) (ns raised : Notices) :
    ∃ x y z, (s.warmed ns).choose.wrapUpWith raised =
        { s.warmed ns with dsl := { s.dsl with jog := .none, selected := x }, apg := y, transmit := z }
      ∧ y.settle = none ∧ ∀ a, (y.axes.get a).waiting = none := by
  have first := (s.warmed ns).choose_frame
  have drive := (s.warmed ns).choose_driveOnly
  have waits := fun a => (s.warmed ns).choose_waiting a
  have settle := State.choose_settle (s := s.warmed ns) rfl
  generalize (s.warmed ns).choose = w at first drive waits settle
  have again := w.choose_frame
  have drive' := w.choose_driveOnly
  have waits' := fun a => w.choose_waiting a
  have settle' := State.choose_settle settle
  have ended : w.jogTest = w := State.jogTest_same fun z e => by rw [drive.jog] at e; cases e
  have state : w.choose.dvc.state = .run := by rw [State.choose_dvc, first]; rfl
  have undispatched : w.choose.dispatchReady = false :=
    State.dispatchReady_of_stopped (by rw [drive'.mode, drive.mode]; rfl)
  have eq : w.wrapUpWith raised = w.choose := by
    rw [State.wrapUpWith, ended, State.stopTest, State.stopComplete_of_state (by simp [state]), if_neg Bool.false_ne_true,
      State.examineDispatch, undispatched, if_neg Bool.false_ne_true]
  rw [eq]
  generalize w.choose = v at again drive' waits' settle'
  refine ⟨v.dsl.selected, v.apg, v.transmit, ?_, settle', fun a => ?_⟩
  · have dsl : v.dsl = { s.dsl with jog := .none, selected := v.dsl.selected } := by
      have jog := drive'.jog.trans drive.jog
      have hold := drive'.restartHold.trans drive.restartHold
      change _ = Jog.none at jog
      change _ = s.dsl.restartHold at hold
      dsimp only
      rw [← jog, ← hold]
    rw [← dsl]
    refine again.trans ?_
    rw [first]
  · exact ((waits' a).trans (waits a)).trans (by cases a <;> rfl)

end

/-! ### RESTART with both axes at rest -/

section
variable {s u t : State}

/-- The end of a pointing with both axes at rest leaves them at rest. -/
theorem State.endPointing_rest (rest : ∀ a, (s.axis a).inMotion = false) (a : Axis) :
    ((s.endPointing .abandoned).axis a).inMotion = false := by
  cases pointing : s.pen.pointing with
  | none => rw [State.endPointing_none pointing, rest]
  | some p =>
    have stays : (s.unpointed .abandoned).stopAfterPointing = s.unpointed .abandoned := by
      simp [State.stopAfterPointing, State.stopIfMoving, show (s.unpointed .abandoned).axis = s.axis from rfl, rest]
    obtain ⟨_, _, _, form, -⟩ := (s.unpointed .abandoned).afterAbandoned_ledgerOnly p.target p.kind
    rw [State.endPointing_eq pointing, stays]
    refine State.choose_rest ?_
    rw [form]
    exact rest a

/-- What ends before the warm values of a RESTART is what ends of a state with the summary cleared (log entry 37). -/
theorem State.restart_discards (passed : s.Passed u) :
    (State.discarded { s with notices := clearNotices }).SameLedger
      (State.discardContexts { u.restartBegins with notices := u.restartRaises }) := by
  let before : State := { s with notices := clearNotices }
  let begun := u.setJog .none
  let cleared := u.clearSummary.setJog .none
  obtain ⟨_, _, _, _, _, _, form, -, ends⟩ := begun.endPointing_form
  obtain ⟨_, _, _, _, _, _, -, -, raises⟩ := cleared.endPointing_form
  have one : s.SameLedger begun := ⟨passed.ledger.entries, passed.ledger.osc, passed.ledger.notices⟩
  have two : before.SameLedger cleared := ⟨passed.ledger.entries, passed.ledger.osc, rfl⟩
  have flight : begun.flightVisit = s.flightVisit := passed.flight
  have flight' : cleared.flightVisit = s.flightVisit := passed.flight
  rw [flight] at ends
  rw [flight'] at raises
  have real := (one.abandonTarget (by exact passed.station) s.flightVisit).trans ends
  have told := (two.abandonTarget (by exact passed.station) s.flightVisit).trans raises
  obtain ⟨entries, osc⟩ := s.abandonTarget_notices clearNotices s.flightVisit
  have same : (before.abandonTarget before.flightVisit).SameLedger { u.restartBegins with notices := u.restartRaises } :=
    ⟨real.entries.trans entries.symm, real.osc.trans osc.symm, told.notices⟩
  obtain ⟨line, dvc⟩ := passed.dvc
  have dvc' : ({ u.restartBegins with notices := u.restartRaises } : State).dvc = u.dvc := by
    show (begun.endPointing .abandoned).dvc = u.dvc
    rw [form]
    rfl
  refine same.discardContexts ?_ ?_ ?_
  · rw [State.abandonTarget_station]
    show (begun.endPointing .abandoned).station = s.station
    rw [form]
    exact passed.station
  · rw [dvc', dvc, State.abandonTarget_dvc]
  · rw [dvc', dvc, State.abandonTarget_dvc]

/-- What a RESTART with both axes at rest leaves. -/
theorem State.restart_warms (passed : s.Passed u) (rest : ∀ a, (u.axis a).inMotion = false)
    (paired : u.pen.pointing = none → u.pen.shot = none) :
    ∃ es q ns x y z, (u.takeRestart u.restartRaises).wrapUpWith u.restartRaises =
        { State.warmed { u with entries := es, osc := q } ns with
          dsl := { u.dsl with jog := .none, selected := x }, apg := y, transmit := z
          pen := { u.pen with pointing := none, shot := none } }
      ∧ y.settle = none ∧ (∀ a, (y.axes.get a).waiting = none)
      ∧ (State.discarded { s with notices := clearNotices }).SameLedger { u with entries := es, osc := q, notices := ns } := by
  have ledger := State.restart_discards passed
  have still : u.restartBegins.axesStill = true := by
    have at_ := State.endPointing_rest (s := u.setJog .none) rest
    rw [State.axesStill, show u.restartBegins = (u.setJog .none).endPointing .abandoned from rfl, at_, at_]
    rfl
  obtain ⟨_, _, _, _, _, _, form, -, -⟩ := (u.setJog .none).endPointing_form
  obtain ⟨es, q, ns, discarded, warm⟩ := u.restartBegins.warmValues_form u.restartRaises
  rw [State.takeRestart]
  simp only [still, if_true]
  rw [warm]
  obtain ⟨x, y, z, eq, settle, waits⟩ :=
    State.warmed_settles { u.restartBegins with entries := es, osc := q } ns u.restartRaises
  rw [discarded] at ledger
  refine ⟨es, q, ns, x, y, z, ?_, settle, waits, ⟨ledger.entries, ledger.osc, ledger.notices⟩⟩
  rw [eq]
  have begins : u.restartBegins = (u.setJog .none).endPointing .abandoned := rfl
  have pen : (if (u.setJog .none).pen.pointing.isSome then { u.pen with pointing := none, shot := none } else u.pen)
      = { u.pen with pointing := none, shot := none } := by
    cases pointing : u.pen.pointing with
    | none =>
      rw [if_neg (by simp [State.setJog, pointing]), ← pointing, ← paired pointing]
    | some p => rw [if_pos (by simp [State.setJog, pointing])]
  rw [← pen, begins, form]
  rfl

end

/-! ### The restart stop -/

section
variable {r x : AxisRec} {a : Axis} {q : Requester}

/-- `x` is `r` on its way to its stop point, for the requester `q`. -/
def AxisRec.Stopping (a : Axis) (r x : AxisRec) (q : Requester) : Prop :=
  ∃ m, (m = .moving ∨ m = .braking) ∧ x = { r with motion := m, setpoint := some (r.stopPoint a), requester := q }

theorem AxisRec.Stopping.inMotion (h : AxisRec.Stopping a r x q) : x.inMotion = true := by
  obtain ⟨m, rfl | rfl, rfl⟩ := h <;> rfl

/-- A controlled stop of an axis that moves sends it to its stop point (R90). -/
theorem AxisRec.controlledStop_moving (moves : r.inMotion = true) (fast : r.s ≠ 0) (q : Requester) :
    AxisRec.Stopping a r (r.controlledStop a q).axis q := by
  have turns : AxisRec.Stopping a r (r.turnToward a (r.stopPoint a) q) q := by
    unfold AxisRec.turnToward
    split
    · exact ⟨.moving, .inl rfl, rfl⟩
    · exact ⟨.braking, .inr rfl, rfl⟩
  unfold AxisRec.controlledStop
  cases m : r.motion with
  | held => simp [AxisRec.inMotion, m] at moves
  | still => simp [AxisRec.inMotion, m] at moves
  | moving =>
    dsimp only
    rw [if_neg fast]
    exact turns
  | braking => exact turns

/-- A second controlled stop sends it to the same stop point, for its own requester. -/
theorem AxisRec.Stopping.again (h : AxisRec.Stopping a r x q) (fast : r.s ≠ 0) (q' : Requester) :
    AxisRec.Stopping a r (x.controlledStop a q').axis q' := by
  have moves := h.inMotion
  obtain ⟨m, -, rfl⟩ := h
  obtain ⟨m', next, eq⟩ := AxisRec.controlledStop_moving (a := a) moves (by exact fast) q'
  exact ⟨m', next, eq⟩

end

section
variable {s u : State} {a : Axis}

/-- Both axes that are in motion get a controlled stop. -/
def State.stopBoth (s : State) (q : Requester) : State := (s.stopIfMoving .h q).stopIfMoving .v q

theorem State.stopIfMoving_eq (s : State) (a : Axis) (q : Requester) :
    ∃ y, s.stopIfMoving a q =
      { s with
        apg :=
          { axes := s.apg.axes.set a (if (s.axis a).inMotion then ((s.axis a).controlledStop a q).axis else s.axis a), settle := y } } := by
  unfold State.stopIfMoving
  split
  · exact ⟨none, rfl⟩
  · have same : s.apg.axes.set a (s.axis a) = s.apg.axes := PerAxis.set_get _ _
    exact ⟨s.apg.settle, by rw [same]⟩

theorem State.stopBoth_eq (s : State) (q : Requester) :
    (∃ y, s.stopBoth q = { s with apg := y })
      ∧ ∀ a, (s.stopBoth q).axis a = if (s.axis a).inMotion then ((s.axis a).controlledStop a q).axis else s.axis a := by
  obtain ⟨_, first⟩ := s.stopIfMoving_eq .h q
  obtain ⟨_, second⟩ := (s.stopIfMoving .h q).stopIfMoving_eq .v q
  rw [State.stopBoth, second, first]
  exact ⟨⟨_, rfl⟩, fun a => by cases a <;> rfl⟩

/-- HOLD is wanted for neither axis: DVC does not hold, both encoders are seen, and no axis is kept in HOLD (R133). -/
structure State.Unheld (s : State) : Prop where
  free : s.dvc.state.holds = false
  seen : ∀ a, (s.latestRaw a).isSome
  noHold : s.dsl.restartHold = both false

theorem State.Unheld.choose_axis (h : s.Unheld) (a : Axis) : s.choose.axis a = s.axis a :=
  State.choose_axis_free (State.wanted_ne_hold h.free (h.seen a) (by simp [h.noHold]))

theorem State.Unheld.congr {t : State} (h : s.Unheld) (dvc : t.dvc.state.holds = false) (scu : t.scu = s.scu)
    (dsl : t.dsl.restartHold = s.dsl.restartHold) : t.Unheld :=
  ⟨dvc, fun a => by rw [State.latestRaw, scu]; exact h.seen a, dsl.trans h.noHold⟩

/-- The end of a pointing stops each axis in motion for no block (R79). -/
theorem State.Unheld.endPointing_axis (h : s.Unheld) (a : Axis) :
    (s.endPointing .abandoned).axis a = s.axis a
      ∨ ((s.axis a).inMotion = true ∧ (s.endPointing .abandoned).axis a = ((s.axis a).controlledStop a .nobody).axis) := by
  cases pointing : s.pen.pointing with
  | none => exact .inl (by rw [State.endPointing_none pointing])
  | some p =>
    have stops : (s.unpointed .abandoned).stopAfterPointing = (s.unpointed .abandoned).stopBoth .nobody :=
      if_neg (by rw [show (s.unpointed .abandoned).dvc = s.dvc from rfl, h.free]; simp)
    obtain ⟨⟨y, frame⟩, axes⟩ := (s.unpointed .abandoned).stopBoth_eq .nobody
    have axis := axes a
    rw [frame] at stops axis
    obtain ⟨es, q, ns, form, -⟩ := (s.unpointed .abandoned).stopAfterPointing.afterAbandoned_ledgerOnly p.target p.kind
    rw [stops] at form
    have free : State.Unheld { s.unpointed .abandoned with entries := es, osc := q, notices := ns, apg := y } :=
      h.congr h.free rfl rfl
    rw [State.endPointing_eq pointing, stops, form, free.choose_axis]
    rw [State.axis] at axis ⊢
    rw [axis]
    by_cases moves : ((s.unpointed .abandoned).axis a).inMotion = true
    · exact .inr ⟨moves, if_pos moves⟩
    · exact .inl (if_neg moves)

/-- A stop that goes on: what follows is the choice alone. -/
theorem State.Unheld.stopGoesOn (h : s.Unheld) (state : s.dvc.state = .stopping) (jog : s.dsl.jog = .none)
    (moves : ∃ a, (s.axis a).inMotion = true) (raised : Notices) : s.wrapUpWith raised = s.choose := by
  have ended : s.jogTest = s := State.jogTest_same fun z e => by rw [jog] at e; cases e
  have motion : s.choose.axesStill = false := by
    obtain ⟨a, moving⟩ := moves
    exact State.axesStill_false.mpr ⟨a, by rw [h.choose_axis]; exact moving⟩
  have undispatched : s.choose.dispatchReady = false := by simp [State.dispatchReady, State.choose_dvc, state]
  rw [State.wrapUpWith, ended, State.stopTest, State.stopComplete, motion, Bool.and_false, Bool.false_and, if_neg Bool.false_ne_true,
    State.examineDispatch, undispatched, if_neg Bool.false_ne_true]

/-- What a RESTART with an axis in motion leaves: the restart stop. -/
theorem State.restart_stops (unheld : u.Unheld) (moves : ∃ a, (u.axis a).inMotion = true ∧ (u.axis a).s ≠ 0) (raised : Notices) :
    ∃ es q ns d y z, (u.takeRestart raised).wrapUpWith raised =
        { u with
          entries := es, osc := q, notices := ns, dsl := d, apg := y, transmit := z
          pen := if u.pen.pointing.isSome then { u.pen with pointing := none, shot := none } else u.pen
          dvc := { u.dvc with state := .stopping, cause := .restart, resumeMode := none, restartTimer := some 0 } }
      ∧ d.jog = .none
      ∧ ∀ a, (u.axis a).inMotion = true → (u.axis a).s ≠ 0 → AxisRec.Stopping a (u.axis a) (y.axes.get a) .diversion := by
  let begun := u.setJog .none
  have free : begun.Unheld := unheld.congr unheld.free rfl rfl
  obtain ⟨es, q, ns, x, y, z, form, -, -⟩ := begun.endPointing_form
  have turned : ∀ a, (u.axis a).inMotion = true → (u.axis a).s ≠ 0 → ((begun.endPointing .abandoned).axis a).inMotion = true
      ∧ AxisRec.Stopping a (u.axis a) (((begun.endPointing .abandoned).axis a).controlledStop a .diversion).axis .diversion := by
    intro a moving fast
    obtain same | ⟨-, stops⟩ := free.endPointing_axis a
    · rw [same]
      exact ⟨moving, AxisRec.controlledStop_moving moving fast .diversion⟩
    · have turn := AxisRec.controlledStop_moving (a := a) moving fast .nobody
      rw [stops]
      exact ⟨turn.inMotion, turn.again fast .diversion⟩
  have going : (begun.endPointing .abandoned).axesStill = false := by
    obtain ⟨a, moving, fast⟩ := moves
    exact State.axesStill_false.mpr ⟨a, (turned a moving fast).1⟩
  let halting := (begun.endPointing .abandoned).setDvc
    { (begun.endPointing .abandoned).dvc with state := .stopping, cause := .restart, resumeMode := none, restartTimer := some 0 }
  have eq : u.takeRestart raised = halting.stopBoth .diversion := by
    show (if (begun.endPointing .abandoned).axesStill then _ else _) = _
    rw [going]
    rfl
  obtain ⟨⟨y', frame⟩, axes⟩ := halting.stopBoth_eq .diversion
  have stops : ∀ a, (u.axis a).inMotion = true → (u.axis a).s ≠ 0 →
      AxisRec.Stopping a (u.axis a) ((halting.stopBoth .diversion).axis a) .diversion := fun a moving fast => by
    rw [axes]
    exact (if_pos (turned a moving fast).1).symm ▸ (turned a moving fast).2
  have stopFree : (halting.stopBoth .diversion).Unheld := by
    rw [frame]
    refine free.congr rfl ?_ ?_
    · show (begun.endPointing .abandoned).scu = _
      rw [form]
    · show (begun.endPointing .abandoned).dsl.restartHold = _
      rw [form]
  have jog : (halting.stopBoth .diversion).dsl.jog = .none := by
    rw [frame]
    show (begun.endPointing .abandoned).dsl.jog = _
    rw [form]
    rfl
  have last := stopFree.stopGoesOn (by rw [frame]; rfl) jog
    (by obtain ⟨a, moving, fast⟩ := moves; exact ⟨a, (stops a moving fast).inMotion⟩) raised
  refine ⟨es, q, ns, (halting.stopBoth .diversion).choose.dsl, (halting.stopBoth .diversion).choose.apg,
    (halting.stopBoth .diversion).choose.transmit, ?_, ?_, fun a moving fast => ?_⟩
  · rw [eq, last]
    refine (State.choose_frame _).trans ?_
    generalize (halting.stopBoth .diversion).choose = c
    rw [frame]
    simp only [halting, State.setDvc, form]
    rfl
  · exact (State.choose_driveOnly _).jog.trans jog
  · have kept := stopFree.choose_axis a
    rw [State.axis] at kept
    rw [kept]
    exact stops a moving fast

end

section
variable {s : State} {h : Hdr}

theorem exec_restart {x : Answered} (takes : s.takesRequests) (answer : (s.frameAt h.us).takeRestartCommand = x) :
    exec (.restart h) s = .next (x.state.replied h.tag x.code x.body) :=
  exec_request takes rfl (fun _ _ => rfl) answer

theorem State.takeRestartCommand_taken (free : s.dvc.state ≠ .lockout) (calm : s.restarting = false) :
    s.takeRestartCommand = State.answerDone ((s.takeRestart s.restartRaises).wrapUpWith s.restartRaises) := by
  simp [State.takeRestartCommand, State.locked, free, calm]

theorem State.takeRestartCommand_again (going : s.restarting = true) : s.takeRestartCommand = s.answerDone := by
  have state : s.dvc.state = .stopping := (of_decide_eq_true going).1
  simp [State.takeRestartCommand, State.locked, state, going]

/-- The passing of time leaves the shot numbers and the late answers. -/
theorem State.frameAt_counts (s : State) (us : Nat) :
    (s.frameAt us).pen.nextShotId = s.pen.nextShotId ∧ (s.frameAt us).pen.lateRanges = s.pen.lateRanges := by
  obtain ⟨x, δ, eq⟩ := s.advanceTo_moved us
  rw [State.frameAt, eq]
  exact ⟨rfl, rfl⟩

theorem State.frameAt_seen (s : State) (us : Nat) (a : Axis) : (s.frameAt us).latestRaw a = s.latestRaw a := by
  obtain ⟨x, δ, eq⟩ := s.advanceTo_moved us
  rw [State.frameAt, eq]
  exact State.latestRaw_moveTimes { s with stc := x } δ a

/-- The warm values leave no entry under way (R40). -/
theorem Entry.warm_rests (e : Entry) : e.warm.state ≠ .due ∧ e.warm.state ≠ .active ∧ e.warm.state ≠ .backoff := by
  cases state : e.state <;> simp [Entry.warm, state]

theorem clearNotices_record (k : NoticeKind) : clearNotices.record k = { pending := false, count := 0, lastTarget := none } := by
  cases k <;> rfl

/-- Time passes before a pointing without its shot as before one with none. -/
theorem State.Passed.paired {u : State} (passed : s.Passed u) (reserved : s.shotReserved) (idle : u.pen.pointing = none) :
    u.pen.shot = none := by
  have none : s.pen.shot.isSome = false := by
    by_contra some
    have := reserved ((Bool.not_eq_false _).mp some)
    rw [passed.idle.mp idle] at this
    cases this
  exact Option.isNone_iff_eq_none.mp (Option.isSome_eq_false_iff.mp (passed.shot.trans none))

end

/-- Settles O37: the warm values after what ends, told from the summary cleared, and the restart stop by its stop points. -/
theorem restartStopsAndWarms : Obligations.RestartStopsAndWarms := by
  refine ⟨fun s h takes free calm reserved rest => ?_, fun s h takes => ⟨fun going => ?_, fun free calm runs seen noHold moves => ?_⟩⟩
  · have passed := s.frameAt_passed h.us
    have taken := State.takeRestartCommand_taken (s := s.frameAt h.us) (by simpa using free) (passed.restarting.trans calm)
    obtain ⟨es, q, ns, x, y, z, eq, settle, waits, ledger⟩ := State.restart_warms passed (fun a => by simpa [State.axis] using rest a)
      (passed.paired reserved)
    obtain ⟨entries, osc, notices⟩ := ledger
    obtain ⟨nextShot, late⟩ := s.frameAt_counts h.us
    have ready : q.detectorReady = s.osc.detectorReady := by
      rw [show q = _ from osc, State.discarded_detectorReady]
    have length : es.length = s.entries.length := by
      have := congrArg Sizes.entries
        ((State.discardContexts_sizes _).trans (State.abandonTarget_sizes { s with notices := clearNotices } s.flightVisit))
      rw [show es = _ from entries]
      exact this
    have warm : Entry.warm = _ := funext Entry.warm_eq
    have told : ∀ {w n k}, Entry.warm = w → (State.abandonTarget { s with notices := clearNotices } (some (n, k))).SameLedger
          (State.discarded { s with notices := clearNotices }) →
        es.map Entry.warm = (State.afterAbandoned { s with notices := clearNotices } n k).entries.map w
          ∧ ns = (State.afterAbandoned { s with notices := clearNotices } n k).notices := fun equal same => by
      subst equal
      rw [State.abandonTarget_some] at same
      exact ⟨congrArg (List.map Entry.warm) (entries.trans same.entries), notices.trans same.notices⟩
    rw [eq] at taken
    refine ⟨_, exec_restart takes taken, rfl, rfl, rfl, rfl, rfl, rfl, rfl, rfl, rfl, rfl, ?_, ?_, ?_, rfl, rfl, rfl, rfl, ready, rfl, rfl,
      nextShot, late, rfl, rfl, ?_, ?_, rfl, ?_, rfl, settle, waits, (List.length_map _).trans length, fun k other => ?_,
      fun idle ordinary critical => ?_, fun ordinary critical p pointing => ?_, fun idle unrecorded c saved n target part carried => ?_,
      fun idle free r saved n target part carried => ?_, fun e mem => ?_⟩
    · exact (congrArg Dvc.report (s.frameAt_dvc h.us) :)
    · exact (congrArg Dvc.silenceAge (s.frameAt_dvc h.us) :)
    · exact (congrArg Dvc.lockoutFaults (s.frameAt_dvc h.us) :)
    · exact (congrArg Reports.queue (s.frameAt_reports h.us) :)
    · exact (congrArg Reports.nextSequence (s.frameAt_reports h.us) :)
    · exact (congrArg (fun x : Sdu => x.groups.map fun g : DerateGroup => { g with active := false }) (s.frameAt_sdu h.us) :)
    · have told : ns = (State.discarded { s with notices := clearNotices }).notices := notices
      have record : ns.record k = { pending := false, count := 0, lastTarget := none } := by
        rw [told, State.discarded_record _ other]
        exact clearNotices_record k
      exact record
    · have same := State.discarded_saved (s := { s with notices := clearNotices }) idle (x := none)
        (.inl ⟨State.criticalVisit_none fun r some => .inl (critical r some), State.ordinaryVisit_none ordinary⟩)
      exact ⟨(congrArg (List.map Entry.warm) (entries.trans same.entries)).trans (congrArg (List.map · s.entries) warm),
        notices.trans same.notices⟩
    · have flight : State.flightVisit { s with notices := clearNotices } = some (p.target, p.kind) := by
        rw [State.flightVisit, pointing]
        rfl
      refine told warm (flight ▸ State.discarded_flight (s := { s with notices := clearNotices }) ?_ ?_)
      · exact State.ordinaryVisit_none (by simp [ordinary])
      · exact State.criticalVisit_none (by simp [critical])
    · exact told warm (State.discarded_saved (s := { s with notices := clearNotices }) idle
        (.inl ⟨State.criticalVisit_none fun r some => .inr (unrecorded r some), State.ordinaryVisit_some saved target carried⟩))
    · exact told warm (State.discarded_saved (s := { s with notices := clearNotices }) idle
        (.inr ⟨State.ordinaryVisit_none (by simp [free]), State.criticalVisit_some saved target carried⟩))
    · obtain ⟨e', -, rfl⟩ := List.mem_map.mp mem
      exact e'.warm_rests
  · exact exec_restart (x := State.answerDone (s.frameAt h.us)) takes
      (State.takeRestartCommand_again ((s.frameAt_passed h.us).restarting.trans going))
  · have passed := s.frameAt_passed h.us
    have taken := State.takeRestartCommand_taken (s := s.frameAt h.us) (by simpa using free) (passed.restarting.trans calm)
    have axis : ∀ a, (s.frameAt h.us).axis a = s.axis a := fun a => by rw [State.axis, passed.apg]; rfl
    obtain ⟨es, q, ns, d, y, z, eq, jog, stops⟩ := State.restart_stops (u := s.frameAt h.us)
      ⟨by simpa using runs, fun a => by rw [s.frameAt_seen]; exact seen a, by simpa using noHold⟩ (by simpa [axis] using moves)
      (s.frameAt h.us).restartRaises
    rw [eq] at taken
    refine ⟨_, exec_restart takes taken, rfl, rfl, rfl, rfl, ?_, fun some => ?_, jog, fun a moving fast => ?_, s.frameAt_reports _,
      s.frameAt_station _⟩
    · dsimp only [State.answerDone]
      split
      · rfl
      · rename_i none
        simpa using none
    · have flying : (s.frameAt h.us).pen.pointing.isSome = true :=
        Option.isSome_iff_ne_none.mpr fun none => some (passed.idle.mp none)
      dsimp only [State.answerDone]
      rw [if_pos flying]
    · obtain ⟨m, -, turned⟩ := stops a (by rw [axis]; exact moving) (by rw [axis]; exact fast)
      rw [axis] at turned
      dsimp only [State.answerDone, State.axis]
      rw [turned]
      exact ⟨rfl, rfl, rfl⟩

end Sys2Proof.Machine
end

section
/-! SUPPORT. A fault event by the states of DVC (R153 to R155, R161), with the temperature that its frame brings (R143 to R145). The
statement FaultsLeadToCriticalOrLockout. -/

namespace Sys2Proof.Machine

open Sys2Proof

/-! ### CRITICAL and LOCKOUT as they are entered -/

section
variable {s t : State}

/-- The record of a fault event: the pointing in flight with its shot withdrawn, or in HELD the target held, and the state before
(R148, R154). -/
def State.faultRecord (s : State) (cause : Cause) : CriticalRecord :=
  { context :=
      { target := s.faultTarget,
        part :=
          s.pen.pointing.map fun p => Pointing.part { p with attempts := p.attempts - (if s.pen.shot = none then 0 else 1) },
        cause := cause, recoverable := true, savedAt := s.stc.siteTime },
    priorState := s.dvc.state, priorCause := s.dvc.cause, priorResume := s.dvc.resumeMode, cleared := false }

/-- The shot in hand withdrawn. -/
theorem State.withdrawShot_eq (s : State) :
    s.withdrawShot =
      { s with
        pen :=
          { s.pen with
            shot := none
            pointing := s.pen.pointing.map fun p => { p with attempts := p.attempts - (if s.pen.shot = none then 0 else 1) } } } := by
  cases shot : s.pen.shot with
  | none =>
    have idle : s.withdrawShot = s := by simp [State.withdrawShot, State.shotInHand, shot]
    have pen : s.pen = { s.pen with shot := none } := by rw [← shot]
    have same : s = { s with pen := { s.pen with shot := none } } := congrArg (fun y => ({ s with pen := y } : State)) pen
    simpa [idle] using same
  | some x => simp [State.withdrawShot, State.shotInHand, shot, State.setShot, State.setPointing]

/-- `t` is `s` diverted by a fault, with both axes in HOLD and no pointing and no jog, and DVC and the notices as given. -/
structure State.Faulted (s : State) (d : Dvc) (ns : Notices) (t : State) : Prop where
  form : ∃ es q a x z, t =
    { s with
      entries := es, osc := q, notices := ns, apg := a, transmit := x, pen := z, dvc := d
      dsl := { s.dsl with jog := .none, selected := both .hold } }
  pointing : t.pen.pointing = none
  axis : ∀ b, t.axis b = if s.dsl.selected.get b = .hold then s.axis b else (s.axis b).enterHold

/-- DVC in CRITICAL with the record of the fault (R154). -/
def State.criticalDvc (s : State) (cause : Cause) : Dvc :=
  { s.dvc with
    state := .critical, cause := cause, resumeMode := none, fresh := both false, critical := some (s.faultRecord cause) }

theorem State.enterCritical_faulted (s : State) (cause : Cause) :
    s.Faulted (s.criticalDvc cause) (s.notices.raise .driveFault s.faultTarget) (s.enterCritical cause)
      ∧ (s.enterCritical cause).entries = s.entries ∧ (s.enterCritical cause).osc = s.osc
      ∧ (s.enterCritical cause).pen.shot = none := by
  let w : State :=
    { s with
      dsl := { s.dsl with jog := .none }, pen := { s.pen with pointing := none, shot := none }
      apg := { s.apg with settle := none }, dvc := s.criticalDvc cause }
  have grips : w.Gripped w.choose := State.choose_grips rfl
  have eq : s.enterCritical cause = w.choose.raise .driveFault s.faultTarget := by
    unfold State.enterCritical
    rw [State.withdrawShot_eq]
    cases pointing : s.pen.pointing <;>
      simp only [State.setJog, pointing, Option.map_none, Option.map_some, w, State.criticalDvc, State.faultRecord, State.faultTarget] <;>
      rfl
  obtain ⟨x, y, held⟩ := grips.form
  have axes := grips.axis
  rw [eq]
  rw [held] at axes ⊢
  exact ⟨⟨⟨s.entries, s.osc, x, y, _, rfl⟩, rfl, axes⟩, rfl, rfl, rfl⟩

/-- DVC in LOCKOUT (R155). -/
def Dvc.lockedOut (d : Dvc) (cause : Cause) : Dvc := { d with state := .lockout, cause := cause, resumeMode := none }

theorem State.enterLockout_faulted (s : State) (cause : Cause) :
    s.Faulted (s.dvc.lockedOut cause) ((s.abandonTarget s.flightVisit).notices.raise .lockout none) (s.enterLockout cause)
      ∧ (s.enterLockout cause).entries = (s.abandonTarget s.flightVisit).entries
      ∧ (s.enterLockout cause).osc = (s.abandonTarget s.flightVisit).osc := by
  let w := (s.setJog .none).setDvc (s.dvc.lockedOut cause)
  have grips : w.Gripped w.choose := State.choose_grips rfl
  have eq : s.enterLockout cause = (w.choose.endPointing .abandoned).raise .lockout none := rfl
  obtain ⟨x, y, held⟩ := grips.form
  have axes := grips.axis
  obtain ⟨es, q, ns, c, form⟩ := State.endPointing_held (s := w.choose) (by rw [held]; rfl) grips.selected
  obtain ⟨_, _, _, _, _, _, -, -, ended⟩ := w.choose.endPointing_form
  have before : s.SameLedger w.choose := by rw [held]; exact ⟨rfl, rfl, rfl⟩
  have flight : w.choose.flightVisit = s.flightVisit := by rw [held]; rfl
  have none : (w.choose.endPointing .abandoned).pen.pointing = none := by
    rw [form]
    cases pointing : w.choose.pen.pointing with
    | none => exact pointing
    | some p => rfl
  have station : w.choose.station = s.station := by rw [held]; rfl
  rw [flight] at ended
  obtain ⟨entries, osc, notices⟩ := (before.abandonTarget station s.flightVisit).trans ended
  rw [form] at entries osc notices none
  rw [eq, form]
  rw [held] at axes none ⊢
  exact ⟨⟨⟨es, q, { axes := x.axes, settle := c }, y, _, by rw [← notices]; rfl⟩, none, axes⟩, entries, osc⟩

end

/-! ### A fault event by the states of DVC -/

section
variable {s : State} {a : Axis} {cause : Cause} {raised : Notices}

theorem State.takeFault_elsewhere (critical : s.dvc.state ≠ .critical) (lockout : s.dvc.state ≠ .lockout)
    (calm : s.restarting = false) : s.takeFault a cause raised = s.firstFault cause := by
  unfold State.takeFault
  split
  · contradiction
  · contradiction
  · rw [calm, if_neg Bool.false_ne_true]

theorem State.takeFault_restarting (going : s.restarting = true) :
    s.takeFault a cause raised = (s.holdBoth.warmValues raised).firstFault cause := by
  have state : s.dvc.state = .stopping := (of_decide_eq_true going).1
  simp only [State.takeFault, state, going, if_true]

theorem State.takeFault_known (state : s.dvc.state = .critical) {r : CriticalRecord} (record : s.dvc.critical = some r)
    (known : s.dvc.cause.axis = some a ∧ r.cleared = false) : s.takeFault a cause raised = s := by
  simp only [State.takeFault, state]
  exact if_pos (by simpa [record] using known)

theorem State.takeFault_again (state : s.dvc.state = .critical) {r : CriticalRecord} (record : s.dvc.critical = some r)
    (other : ¬(s.dvc.cause.axis = some a ∧ r.cleared = false)) : s.takeFault a cause raised = s.enterLockout cause := by
  simp only [State.takeFault, state]
  exact if_neg (by simpa [record] using other)

end

/-! ### The temperature of the frame, and the event's end -/

section
variable {s t : State}

/-- `t` is `s` after SDU's part of an event: a DERATE notice is raised where the selected fraction changes (R145). -/
def State.Sensed (s t : State) : Prop :=
  ∃ x ns, t = { s with sdu := x, notices := ns }
    ∧ ns =
        if (selectedFraction s.sdu.groups).1 * (selectedFraction x.groups).2
            = (selectedFraction x.groups).1 * (selectedFraction s.sdu.groups).2 then s.notices
        else s.notices.raise .derate none

theorem State.Sensed.refl (s : State) : s.Sensed s := ⟨s.sdu, s.notices, rfl, (if_pos rfl).symm⟩

theorem State.driveTempArrives_sensed (s : State) (a : Axis) (temp : Int) : s.Sensed (s.driveTempArrives a temp) := by
  let x : Sdu :=
    { s.sdu with
      driveTemp := s.sdu.driveTemp.set a (reported temp)
      groups := s.sdu.groups.map fun g : DerateGroup => g.offer (driveSource a) temp }
  have arrives : s.driveTempArrives a temp = s.noticeFraction { s with sdu := x } := rfl
  refine ⟨x, _, ?_, rfl⟩
  rw [arrives, State.noticeFraction, sameFraction]
  by_cases same : (selectedFraction s.sdu.groups).1 * (selectedFraction x.groups).2
      = (selectedFraction x.groups).1 * (selectedFraction s.sdu.groups).2
  · rw [if_pos same, if_pos (decide_eq_true same)]
  · rw [if_neg same, if_neg (by simpa using same)]
    rfl

/-- With HOLD selected and no jog, nothing follows SDU's part outside a stop. -/
theorem State.Sensed.wrapUp (h : s.Sensed t) (selected : s.dsl.selected = both .hold) (jog : s.dsl.jog = .none)
    (state : s.dvc.state ≠ .stopping) : t.wrapUp = t := by
  obtain ⟨x, ns, rfl, -⟩ := h
  exact State.wrapUp_hold selected jog state

end

/-! ### What a fault event leaves -/

section
variable {u t : State} {cause : Cause} {report : PerAxis DriveReport} {ages : PerAxis Nat}

/-- The drive reports and the silence ages of DVC replaced. -/
def State.watched (u : State) (report : PerAxis DriveReport) (ages : PerAxis Nat) : State :=
  u.setDvc { u.dvc with report := report, silenceAge := ages }

/-- The notices `ns`, and DERATE with them where the event has changed the selected fraction (R145). -/
def State.Tells (u t : State) (ns : Notices) : Prop :=
  t.notices =
    if (selectedFraction u.sdu.groups).1 * (selectedFraction t.sdu.groups).2
        = (selectedFraction t.sdu.groups).1 * (selectedFraction u.sdu.groups).2 then ns
    else ns.raise .derate none

/-- Both axes in HOLD, no jog, and the places as they were. -/
def State.HeldFrom (u t : State) : Prop :=
  t.dsl.jog = .none ∧ t.dsl.selected = both .hold
    ∧ ∀ b, (t.axis b).motion = .held ∧ (t.axis b).p = (u.axis b).p
        ∧ (u.dsl.selected.get b ≠ .hold → (t.axis b).s = 0 ∧ (t.axis b).setpoint = none)

/-- What a fault event with critical_enable on leaves of `u` (R154). -/
def State.DivertedCritical (u t : State) (cause : Cause) : Prop :=
  t.dvc.state = .critical ∧ t.dvc.cause = cause ∧ t.dvc.resumeMode = none ∧ t.dvc.ordinary = u.dvc.ordinary
    ∧ t.dvc.critical = some (u.faultRecord cause) ∧ t.dvc.fresh = both false ∧ t.pen.pointing = none ∧ t.pen.shot = none
    ∧ u.HeldFrom t ∧ t.entries = u.entries ∧ t.osc = u.osc ∧ t.reports = u.reports
    ∧ u.Tells t (u.notices.raise .driveFault u.faultTarget)

/-- The pointing in flight ended ABANDONED at the table. -/
def State.flightEnded (u : State) : State :=
  match u.pen.pointing with
  | some p => u.afterAbandoned p.target p.kind
  | none => u

theorem State.flightEnded_eq (u : State) : u.flightEnded = u.abandonTarget u.flightVisit := by
  unfold State.flightEnded State.flightVisit
  cases u.pen.pointing with
  | none => rfl
  | some p => exact (State.abandonTarget_some _ _ _).symm

/-- What a fault event that leads to LOCKOUT leaves of `u` (R155). -/
def State.DivertedLockout (u t : State) (cause : Cause) : Prop :=
  t.dvc.state = .lockout ∧ t.dvc.cause = cause ∧ t.dvc.resumeMode = none ∧ t.dvc.ordinary = u.dvc.ordinary
    ∧ t.dvc.critical = u.dvc.critical ∧ t.pen.pointing = none ∧ u.HeldFrom t ∧ t.reports = u.reports
    ∧ t.entries = u.flightEnded.entries ∧ t.osc = u.flightEnded.osc ∧ u.Tells t (u.flightEnded.notices.raise .lockout none)

theorem State.Faulted.heldFrom {d : Dvc} {ns : Notices} (h : u.Faulted d ns t)
    (law : ∀ a, u.dsl.selected.get a = .hold → (u.axis a).motion = .held) : u.HeldFrom t := by
  obtain ⟨_, _, _, _, _, form⟩ := h.form
  have axis := h.axis
  refine ⟨by rw [form], by rw [form], fun b => ?_⟩
  rw [axis b]
  split
  · rename_i hold
    exact ⟨law b hold, rfl, fun no => (no hold).elim⟩
  · exact ⟨rfl, rfl, fun _ => ⟨rfl, rfl⟩⟩

theorem State.enterCritical_diverts (law : ∀ a, u.dsl.selected.get a = .hold → (u.axis a).motion = .held)
    (sensed : ((u.watched report ages).enterCritical cause).Sensed t) :
    u.DivertedCritical t cause ∧ t.dvc.report = report ∧ t.dvc.silenceAge = ages ∧ t.wrapUp = t := by
  obtain ⟨faulted, entries, osc, shot⟩ := (u.watched report ages).enterCritical_faulted cause
  have held : u.HeldFrom ((u.watched report ages).enterCritical cause) := faulted.heldFrom law
  have pointing := faulted.pointing
  obtain ⟨es, q, a, x, z, form⟩ := faulted.form
  rw [form] at sensed entries osc shot held pointing
  have done := sensed.wrapUp rfl rfl (by simp [State.criticalDvc])
  obtain ⟨y, ns, rfl, told⟩ := sensed
  exact ⟨⟨rfl, rfl, rfl, rfl, rfl, rfl, pointing, shot, held, entries, osc, rfl, told⟩, rfl, rfl, done⟩

theorem State.enterLockout_diverts (law : ∀ a, u.dsl.selected.get a = .hold → (u.axis a).motion = .held)
    (sensed : ((u.watched report ages).enterLockout cause).Sensed t) :
    u.DivertedLockout t cause ∧ t.dvc.report = report ∧ t.dvc.silenceAge = ages ∧ t.wrapUp = t := by
  obtain ⟨faulted, entries, osc⟩ := (u.watched report ages).enterLockout_faulted cause
  have held : u.HeldFrom ((u.watched report ages).enterLockout cause) := faulted.heldFrom law
  have pointing := faulted.pointing
  obtain ⟨es, q, a, x, z, form⟩ := faulted.form
  have same : u.SameLedger (u.watched report ages) := ⟨rfl, rfl, rfl⟩
  have ended := same.abandonTarget rfl u.flightVisit
  rw [← u.flightEnded_eq] at ended
  rw [form] at sensed entries osc held pointing
  have done := sensed.wrapUp rfl rfl (by simp [Dvc.lockedOut])
  obtain ⟨y, ns, rfl, told⟩ := sensed
  refine ⟨⟨rfl, rfl, rfl, rfl, rfl, pointing, held, rfl, entries.trans ended.entries, osc.trans ended.osc, ?_⟩, rfl, rfl, done⟩
  rw [← ended.notices]
  exact told

/-- In CRITICAL a fault event that is known already changes no more than the report. -/
theorem State.knownFault_keeps (state : u.dvc.state = .critical) (selected : u.dsl.selected = both .hold) (jog : u.dsl.jog = .none)
    (sensed : (u.watched report ages).Sensed t) :
    t.dvc = { u.dvc with report := report, silenceAge := ages } ∧ u.Tells t u.notices ∧ t.wrapUp = t := by
  have stays : (u.watched report ages).dvc.state = .critical := state
  have done := sensed.wrapUp selected jog (by simp [stays])
  obtain ⟨x, ns, rfl, told⟩ := sensed
  exact ⟨rfl, told, done⟩

/-- A first fault event, with SDU's part of its frame. -/
theorem State.firstFault_diverts (law : ∀ a, u.dsl.selected.get a = .hold → (u.axis a).motion = .held)
    (sensed : ((u.watched report ages).firstFault cause).Sensed t) :
    (u.station.criticalEnable = true → u.DivertedCritical t cause)
      ∧ (u.station.criticalEnable = false → u.DivertedLockout t cause)
      ∧ t.dvc.report = report ∧ t.dvc.silenceAge = ages ∧ t.wrapUp = t := by
  have station : (u.watched report ages).station = u.station := rfl
  rw [State.firstFault, station] at sensed
  cases enable : u.station.criticalEnable with
  | true =>
    rw [enable, if_pos rfl] at sensed
    obtain ⟨diverted, done⟩ := State.enterCritical_diverts law sensed
    exact ⟨fun _ => diverted, fun no => absurd no (by decide), done⟩
  | false =>
    rw [enable, if_neg Bool.false_ne_true] at sensed
    obtain ⟨diverted, done⟩ := State.enterLockout_diverts law sensed
    exact ⟨fun no => absurd no (by decide), fun _ => diverted, done⟩

/-- What a fault event in the restart stop leaves of `u`: the warm values, and then the fault as in RUN with no pointing (R161). -/
def State.DivertedWarm (u t : State) (cause : Cause) : Prop :=
  t.osc.mode = .stopped ∧ t.osc.queue = [] ∧ t.pen.pointing = none ∧ u.HeldFrom t
    ∧ t.dvc.cause = cause ∧ t.dvc.ordinary = none ∧ t.dvc.restartTimer = none ∧ t.dvc.level = .level
    ∧ (∀ e ∈ t.entries, e.state ≠ .due ∧ e.state ≠ .active ∧ e.state ≠ .backoff)
    ∧ (u.station.criticalEnable = true →
        t.dvc.state = .critical
          ∧ t.dvc.critical =
              some
                { context := { target := none, part := none, cause := cause, recoverable := true, savedAt := u.stc.siteTime },
                  priorState := .run, priorCause := .none, priorResume := none, cleared := false }
          ∧ t.notices.record .driveFault = { pending := true, count := 1, lastTarget := none })
    ∧ (u.station.criticalEnable = false →
        t.dvc.state = .lockout ∧ t.dvc.critical = none
          ∧ t.notices.record .lockout = { pending := true, count := 1, lastTarget := none })

/-- A notice raised in a cleared summary, with SDU's part of the event after it. -/
theorem State.Sensed.record {r : State} (sensed : r.Sensed t) {ns : Notices} {k : NoticeKind} (raised : r.notices = ns.raise k none)
    (whole : ns.records.length = 16) (clear : ns.record k = { pending := false, count := 0, lastTarget := none })
    (other : k ≠ .derate) : t.notices.record k = { pending := true, count := 1, lastTarget := none } := by
  have place : k.place ≠ NoticeKind.derate.place := by cases k <;> simp_all [NoticeKind.place]
  have one : r.notices.record k = { pending := true, count := 1, lastTarget := none } := by
    rw [raised, Notices.record_raise_same _ _ _ whole, clear]
    rfl
  obtain ⟨x, _, rfl, rfl⟩ := sensed
  dsimp only
  split
  · exact one
  · rw [Notices.record_raise_other _ _ place, one]

/-- DVC at the warm values (R162). -/
def Dvc.warm (d : Dvc) : Dvc :=
  { d with
    state := .run, cause := .none, resumeMode := none, ordinary := none, critical := none, restartTimer := none,
    level := .level, beyond := 0, within := 0 }

/-- `t` is `s` at the warm values with HOLD selected for both axes, as a fault in the restart stop finds it (R161, R162). -/
structure State.WarmHeld (s t : State) : Prop where
  mode : t.osc.mode = .stopped
  queue : t.osc.queue = []
  pen : t.pen = s.pen
  station : t.station = s.station
  stc : t.stc = s.stc
  dvc : t.dvc = s.dvc.warm
  selected : t.dsl.selected = both .hold
  axis : ∀ a, (t.axis a).motion = .held ∧ (t.axis a).p = (s.axis a).p
    ∧ (s.dsl.selected.get a ≠ .hold → (t.axis a).s = 0 ∧ (t.axis a).setpoint = none)
  rests : ∀ e ∈ t.entries, e.state ≠ .due ∧ e.state ≠ .active ∧ e.state ≠ .backoff
  whole : t.notices.records.length = 16
  clear : ∀ k, k ≠ .suspended → t.notices.record k = { pending := false, count := 0, lastTarget := none }

theorem State.holdBoth_warms {s : State} (law : ∀ a, s.dsl.selected.get a = .hold → (s.axis a).motion = .held) :
    s.WarmHeld (s.holdBoth.warmValues clearNotices) := by
  have axes := s.holdBoth_gripped.held law
  obtain ⟨x, y, held⟩ := s.holdBoth_gripped.form
  obtain ⟨es, q, ns, discarded, warm⟩ := s.holdBoth.warmValues_form clearNotices
  have length : ns.records.length = 16 := by
    have := congrArg Sizes.records (State.discardContexts_sizes { s.holdBoth with notices := clearNotices })
    rw [discarded] at this
    exact this
  have record : ∀ k, k ≠ .suspended → ns.record k = { pending := false, count := 0, lastTarget := none } := fun k other => by
    have := State.discardContexts_record { s.holdBoth with notices := clearNotices } other
    rw [discarded] at this
    exact this.trans (clearNotices_record k)
  rw [State.choose_hold (by rw [held]; rfl)] at warm
  rw [warm]
  rw [held] at axes ⊢
  refine ⟨rfl, rfl, rfl, rfl, rfl, rfl, rfl, fun a => ?_, fun e mem => ?_, length, record⟩
  · have axis := axes a
    cases a <;> exact axis
  · obtain ⟨e', -, rfl⟩ := List.mem_map.mp mem
    exact e'.warm_rests

/-- A fault that finds the warm values just applied. -/
theorem State.WarmHeld.faulted {w r : State} {d : Dvc} {ns : Notices} (h : (u.watched report ages).WarmHeld w)
    (faulted : w.Faulted d ns r) (sensed : r.Sensed t) (entries : r.entries = w.entries) (osc : r.osc = w.osc)
    (free : d.state ≠ .stopping) :
    t.osc.mode = .stopped ∧ t.osc.queue = [] ∧ t.pen.pointing = none ∧ u.HeldFrom t ∧ t.dvc = d
      ∧ (∀ e ∈ t.entries, e.state ≠ .due ∧ e.state ≠ .active ∧ e.state ≠ .backoff) ∧ t.wrapUp = t := by
  obtain ⟨_, _, _, _, _, form⟩ := faulted.form
  have axis : ∀ b, r.axis b = w.axis b := fun b => by rw [faulted.axis, h.selected, if_pos (by cases b <;> rfl)]
  have held : u.HeldFrom r := ⟨by rw [form], by rw [form], fun b => by rw [axis]; exact h.axis b⟩
  have pointing := faulted.pointing
  have done := sensed.wrapUp (by rw [form]) (by rw [form]) (by rw [form]; exact free)
  have dvc : r.dvc = d := by rw [form]
  have rests := h.rests
  rw [← entries] at rests
  obtain ⟨_, _, rfl, -⟩ := sensed
  exact ⟨(congrArg Osc.mode osc).trans h.mode, (congrArg Osc.queue osc).trans h.queue, pointing, held, dvc, rests, done⟩

theorem State.restart_diverts (law : ∀ a, u.dsl.selected.get a = .hold → (u.axis a).motion = .held) (idle : u.pen.pointing = none)
    (sensed : (((u.watched report ages).holdBoth.warmValues clearNotices).firstFault cause).Sensed t) :
    u.DivertedWarm t cause ∧ t.dvc.report = report ∧ t.dvc.silenceAge = ages ∧ t.wrapUp = t := by
  have warm := State.holdBoth_warms (s := u.watched report ages) law
  generalize (u.watched report ages).holdBoth.warmValues clearNotices = w at warm sensed
  have pointing : w.pen.pointing = none := by rw [warm.pen]; exact idle
  have station : w.station = u.station := warm.station
  rw [State.firstFault, station] at sensed
  cases enable : u.station.criticalEnable with
  | true =>
    rw [enable, if_pos rfl] at sensed
    obtain ⟨faulted, entries, osc, -⟩ := w.enterCritical_faulted cause
    have target : w.faultTarget = none := by rw [State.faultTarget, pointing, warm.dvc]; rfl
    have raised : (w.enterCritical cause).notices = w.notices.raise .driveFault none := by
      obtain ⟨_, _, _, _, _, form⟩ := faulted.form
      rw [form, target]
    have told := sensed.record raised warm.whole (warm.clear .driveFault (by decide)) (by decide)
    obtain ⟨mode, queue, ended, held, dvc, rests, done⟩ := warm.faulted faulted sensed entries osc (by simp [State.criticalDvc])
    rw [State.criticalDvc, State.faultRecord, target, pointing, warm.dvc, warm.stc] at dvc
    refine ⟨⟨mode, queue, ended, held, ?_⟩, ?_⟩
    · rw [dvc]
      exact ⟨rfl, rfl, rfl, rfl, rests, fun _ => ⟨rfl, rfl, told⟩, fun no => absurd (enable.symm.trans no) (by decide)⟩
    · rw [dvc]
      exact ⟨rfl, rfl, done⟩
  | false =>
    rw [enable, if_neg Bool.false_ne_true] at sensed
    obtain ⟨faulted, entries, osc⟩ := w.enterLockout_faulted cause
    have flight : w.abandonTarget w.flightVisit = w := by rw [State.flightVisit, pointing]; rfl
    rw [flight] at faulted entries osc
    have raised : (w.enterLockout cause).notices = w.notices.raise .lockout none := by
      obtain ⟨_, _, _, _, _, form⟩ := faulted.form
      rw [form]
    have told := sensed.record raised warm.whole (warm.clear .lockout (by decide)) (by decide)
    obtain ⟨mode, queue, ended, held, dvc, rests, done⟩ := warm.faulted faulted sensed entries osc (by simp [Dvc.lockedOut])
    rw [warm.dvc] at dvc
    refine ⟨⟨mode, queue, ended, held, ?_⟩, ?_⟩
    · rw [dvc]
      exact ⟨rfl, rfl, rfl, rfl, rests, fun no => absurd (enable.symm.trans no) (by decide), fun _ => ⟨rfl, rfl, told⟩⟩
    · rw [dvc]
      exact ⟨rfl, rfl, done⟩

end

/-! ### The two events -/

section
variable {s u t : State} {a : Axis}

/-- A DRIVE_STATUS frame with a fault not yet reported, where nothing follows what it makes of the state. -/
theorem exec_driveFault {us : Nat} {c : DriveFault} {temp : Int}
    (seen : u = { s.advanceTo us with link := { (s.advanceTo us).link with rxAxis := [] } })
    (new : u.dvc.report.get a ≠ .fault c) {r : State}
    (taken : (u.watched (u.dvc.report.set a (.fault c)) u.dvc.silenceAge).takeFault a (.drive a c) clearNotices = r)
    (done : (r.driveTempArrives a temp).wrapUp = r.driveTempArrives a temp) :
    exec (.driveStatusFrame us a (.fault c) temp) s = .next (r.driveTempArrives a temp) := by
  have unfolds : exec (.driveStatusFrame us a (.fault c) temp) s = .next (u.statusArrives a (.fault c) temp) := by
    rw [seen]
    rfl
  have status : u.reportStatus a (.fault c) = r := (if_neg new).trans taken
  rw [unfolds, State.statusArrives, status, done]

/-- ENCODER_SILENCE of an axis not held, where nothing follows what it makes of the state. -/
theorem exec_encoderSilence (free : (s.axis a).motion ≠ .held) (new : ∀ f, s.dvc.report.get a ≠ .fault f) {r : State}
    (taken : (s.watched s.dvc.report (s.dvc.silenceAge.set a 0)).takeFault a (.silence a) clearNotices = r)
    (done : r.wrapUp = r) : exec (.encoderSilence a) s = .next r := by
  have unfaulty : ((s.setSilence a 0).dvc.report.get a).faulty = false := by
    refine (Bool.not_eq_true _).mp fun faulty => ?_
    obtain ⟨f, known⟩ := (DriveReport.faulty_iff _).mp faulty
    exact new f known
  have silent : s.encoderSilent a clearNotices = r := by
    rw [State.encoderSilent, unfaulty, if_neg Bool.false_ne_true]
    exact taken
  have unfolds : exec (.encoderSilence a) s = .next (s.encoderFallsSilent a) := rfl
  rw [unfolds, State.encoderFallsSilent, if_neg free, silent, done]

end

/-- Settles O48: a fault event by DVC's state, then the temperature of its frame, and nothing more at the event's end. -/
theorem faultsLeadToCriticalOrLockout : Obligations.FaultsLeadToCriticalOrLockout := by
  refine ⟨fun s us a c temp => ?_, fun s us a c temp => ?_⟩
  · intro u
    refine ⟨fun law new ⟨critical, lockout, calm⟩ => ?_, fun law new state selected idle jog r record => ?_, fun held => ?_,
      fun free law new ⟨critical, lockout, calm⟩ => ?_⟩
    · obtain ⟨crit, lock, report, -, done⟩ := State.firstFault_diverts (fun a => (law a).1.mp) (State.driveTempArrives_sensed _ a temp)
      exact ⟨_, exec_driveFault rfl new (State.takeFault_elsewhere critical lockout calm) done, report, crit, lock⟩
    · have critical : (u.watched (u.dvc.report.set a (.fault c)) u.dvc.silenceAge).dvc.state = .critical := state
      by_cases known : u.dvc.cause.axis = some a ∧ r.cleared = false
      · obtain ⟨dvc, told, done⟩ :=
          State.knownFault_keeps state selected jog (State.driveTempArrives_sensed _ a temp)
        have report := congrArg Dvc.report dvc
        exact ⟨_, exec_driveFault rfl new (State.takeFault_known critical record known) done, report,
          fun _ => ⟨dvc.trans (by rw [report]), told⟩, fun other => absurd known other⟩
      · have taken := State.takeFault_again (cause := .drive a c) (raised := clearNotices) critical record known
        obtain ⟨lock, report, -, done⟩ :=
          State.enterLockout_diverts (fun a => (law a).1.mp) (State.driveTempArrives_sensed _ a temp)
        exact ⟨_, exec_driveFault rfl new taken done, report, fun same => absurd same known, fun _ => lock⟩
    · exact congrArg _ (if_pos held)
    · obtain ⟨crit, lock, -, age, done⟩ := State.firstFault_diverts (fun a => (law a).1.mp) (State.Sensed.refl _)
      exact ⟨_, exec_encoderSilence free new (State.takeFault_elsewhere critical lockout calm) done, age, crit, lock⟩
  · intro u
    refine ⟨fun law going idle new => ?_, fun law going idle free new => ?_⟩
    · have warms : (u.watched (u.dvc.report.set a (.fault c)) u.dvc.silenceAge).restarting = true := going
      have taken := State.takeFault_restarting (a := a) (cause := .drive a c) (raised := clearNotices) warms
      obtain ⟨⟨mode, queue, pointing, ⟨jog, selected, axes⟩, rest⟩, report, -, done⟩ :=
        State.restart_diverts (fun a => (law a).1.mp) idle (State.driveTempArrives_sensed _ a temp)
      exact ⟨_, exec_driveFault rfl new taken done, report, mode, queue, pointing, jog, selected, axes, rest⟩
    · have warms : (s.watched s.dvc.report (s.dvc.silenceAge.set a 0)).restarting = true := going
      have taken := State.takeFault_restarting (a := a) (cause := .silence a) (raised := clearNotices) warms
      obtain ⟨⟨mode, queue, pointing, ⟨jog, selected, axes⟩, rest⟩, -, age, done⟩ :=
        State.restart_diverts (fun a => (law a).1.mp) idle (State.Sensed.refl _)
      exact ⟨_, exec_encoderSilence free new taken done, age, mode, queue, pointing, jog, selected, axes, rest⟩

end Sys2Proof.Machine
end

section
/-! SUPPORT. Fields as bytes (R183) and the bodies of the queries that only read (R39, R58, R163, R171, R180). The statement
QueryBodiesSayTheState. -/

namespace Sys2Proof.Machine

open Sys2Proof

/-! ### Numbers in bytes -/

/-- A slice of a word is that slice of the number it stands for. -/
theorem extractLsb'_ofNat {v w i : Nat} (fits : i + w ≤ v) (x : Nat) :
    (BitVec.ofNat v x).extractLsb' i w = BitVec.ofNat w (x / 2 ^ i) := by
  refine BitVec.eq_of_getLsbD_eq fun k lt => ?_
  have inside : i + k < v := by omega
  simp only [BitVec.getLsbD_extractLsb', BitVec.getLsbD_ofNat, Nat.testBit_div_two_pow, lt, inside, decide_true, Bool.true_and,
    Nat.add_comm]

theorem natBytes_add (m : Nat) : ∀ n x : Nat, natBytes (m + n) x = natBytes m (x / 256 ^ n) ++ natBytes n x
  | 0, x => by simp [natBytes]
  | n + 1, x => by
    have quotient : x / 256 / 256 ^ n = x / 256 ^ (n + 1) := by rw [Nat.div_div_eq_div_mul, pow_succ, Nat.mul_comm]
    rw [← Nat.add_assoc, natBytes, natBytes_add m n, natBytes, quotient, List.append_assoc]

theorem natBytes_one (x : Nat) : natBytes 1 x = [BitVec.ofNat 8 x] := rfl

theorem natBytes_two (x : Nat) : natBytes 2 x = bytes2 (BitVec.ofNat 16 x) := by
  rw [bytes2, extractLsb'_ofNat (by decide), extractLsb'_ofNat (by decide), Nat.pow_zero, Nat.div_one]
  rfl

theorem natBytes_three (x : Nat) : natBytes 3 x = bytes3 (BitVec.ofNat 24 x) := by
  rw [bytes3, extractLsb'_ofNat (by decide), extractLsb'_ofNat (by decide), Nat.pow_zero, Nat.div_one, ← natBytes_two,
    natBytes_add 1 2]
  rfl

theorem natBytes_four (x : Nat) : natBytes 4 x = bytes4 (BitVec.ofNat 32 x) := by
  rw [bytes4, extractLsb'_ofNat (by decide), extractLsb'_ofNat (by decide), Nat.pow_zero, Nat.div_one, ← natBytes_two,
    ← natBytes_two, natBytes_add 2 2]
  rfl

theorem natBytes_six (x : Nat) : natBytes 6 x = bytes6 (BitVec.ofNat 48 x) := by
  rw [bytes6, extractLsb'_ofNat (by decide), extractLsb'_ofNat (by decide), Nat.pow_zero, Nat.div_one, ← natBytes_three,
    ← natBytes_three, natBytes_add 3 3]
  rfl

theorem putNat_fits {n x : Nat} (fits : x < 256 ^ n) : putNat n x = natBytes n x := if_pos fits

/-- A number held as an integer, in an unsigned field that it fits. -/
theorem putUInt_fits {n : Nat} {x : Int} (pos : 0 ≤ x) (fits : x < 256 ^ n) : putUInt n x = natBytes n x.toNat := by
  have small : x.toNat < 256 ^ n := by
    zify
    rwa [Int.toNat_of_nonneg pos]
  rw [putUInt, if_pos pos, putNat_fits small]

theorem putAngle_eq (x : Int) : putAngle x = putUInt 3 x := rfl

theorem ofNat_toNat_of_nonneg (w : Nat) {x : Int} (pos : 0 ≤ x) : BitVec.ofNat w x.toNat = BitVec.ofInt w x := by
  rw [← BitVec.ofInt_natCast, Int.toNat_of_nonneg pos]

/-- The residue that a signed field holds is the word of the number. -/
theorem ofNat_residue (w : Nat) (x : Int) : BitVec.ofNat w (x % 2 ^ w).toNat = BitVec.ofInt w x := by
  refine BitVec.eq_of_toNat_eq ?_
  have pos : 0 ≤ x % 2 ^ w := Int.emod_nonneg _ (by positivity)
  have fits : (x % 2 ^ w).toNat < 2 ^ w := by
    zify
    rw [Int.toNat_of_nonneg pos]
    exact Int.emod_lt_of_pos _ (by positivity)
  rw [BitVec.toNat_ofNat, BitVec.toNat_ofInt, Nat.mod_eq_of_lt fits]
  norm_cast

theorem putInt_fits {n : Nat} {x : Int} (low : -(256 ^ n : Int) ≤ 2 * x) (high : 2 * x < (256 ^ n : Int)) :
    putInt n x = natBytes n (x % (256 ^ n : Int)).toNat := if_pos ⟨low, high⟩

/-! ### Optional fields and lists -/

/-- An optional field, from the bytes of what is present. -/
def optionalBytes (x : Option (List Byte)) : List Byte :=
  match x with
  | none => [0]
  | some bs => 1 :: bs

theorem putOption_eq {α : Type} (f : α → List Byte) (x : Option α) : putOption f x = optionalBytes (x.map f) := by
  cases x <;> rfl

/-- The sectors of an axis by their numbers. -/
theorem sectorBytes_eq : ∀ (n : Nat) (xs : List (Option Int)) (ys : List Slot), xs.length = n → ys.length = n →
    sectorBytes xs ys =
      (List.range n).flatMap fun k => optionalBytes ((xs.getD k none).map (putInt 2)) ++ (ys.getD k .blank).bytes
  | 0, [], [], _, _ => rfl
  | n + 1, x :: xs, y :: ys, lx, ly => by
    rw [sectorBytes, sectorBytes_eq n xs ys (Nat.succ.inj lx) (Nat.succ.inj ly), putOption_eq, List.range_succ_eq_map,
      List.flatMap_cons, List.flatMap_map]
    rfl

/-- The deferred entries by their numbers. -/
theorem deferredEntries_eq : ∀ (n : Nat) (es : List Entry),
    deferredEntries n es =
      ((List.range es.length).filter fun k =>
        decide ((es.getD k emptyEntry).state = .due) && (es.getD k emptyEntry).deferred).map (n + ·)
  | _, [] => rfl
  | n, e :: es => by
    rw [deferredEntries, deferredEntries_eq (n + 1) es, List.length_cons, List.range_succ_eq_map, List.filter_cons,
      List.filter_map, List.getD_cons_zero]
    have shift : (n + 1 + ·) = (n + ·) ∘ Nat.succ := funext fun k => by simp; omega
    by_cases due : e.state = .due ∧ e.deferred
    · rw [if_pos due, if_pos (by simpa using due), List.map_cons, List.map_map, shift]
      rfl
    · rw [if_neg due, if_neg (by simpa using due), List.map_map, shift]
      rfl

/-! ### The parts of a body -/

/-- A yes/no field. -/
def flagByte (b : Bool) : Byte := if b then 1 else 0

theorem putBool_eq (b : Bool) : putBool b = [flagByte b] := rfl

/-- Two bytes, and three, that stand together in a body. -/
theorem append_two (bs : List Byte) (x y : Byte) : bs ++ [x] ++ [y] = bs ++ [x, y] := List.append_assoc ..

theorem append_three (bs : List Byte) (x y z : Byte) : bs ++ [x] ++ [y] ++ [z] = bs ++ [x, y, z] := by
  rw [append_two, List.append_assoc]
  rfl

/-- The pointing part of a context, field by field. -/
def PointingPart.fields (p : PointingPart) : List Byte :=
  [p.kind.code, p.phase.code] ++ putNat 1 p.searchLeg ++ putNat 1 p.legsCompleted ++ putInt 4 p.ox ++ putInt 4 p.oy
    ++ putNat 1 p.attempts ++ putNat 2 p.followCount ++ optionalBytes (p.dwell.map fun x => putNat 4 x)
    ++ definitionBytes p.frozenCopy

theorem PointingPart.bytes_eq : PointingPart.bytes = PointingPart.fields := by
  funext p
  rw [PointingPart.bytes, putOption_eq]
  rfl

/-- A context, field by field: its target, and with it the pointing part where there is one. -/
def State.contextFields (s : State) (c : Context) : List Byte :=
  optionalBytes (c.target.map fun n => putNat 1 n ++ optionalBytes (c.part.map PointingPart.fields)) ++ c.cause.bytes
    ++ [flagByte c.recoverable] ++ putNat 6 c.savedAt
    ++ [flagByte ((c.target.map fun n => (s.entry n).pendingDef.isSome).getD false)]

theorem State.contextBytes_eq (s : State) : s.contextBytes = s.contextFields := by
  funext c
  rw [State.contextBytes, State.contextFields, ← PointingPart.bytes_eq, ← putOption_eq PointingPart.bytes]
  cases c.target <;> rfl

/-- The critical record, field by field. -/
def State.recordFields (s : State) (c : CriticalRecord) : List Byte :=
  s.contextFields c.context ++ [c.priorState.code] ++ c.priorCause.bytes ++ optionalBytes (c.priorResume.map fun m => [m.code])
    ++ [flagByte c.cleared]

theorem State.criticalBytes_eq (s : State) : s.criticalBytes = s.recordFields := by
  funext c
  rw [State.criticalBytes, State.contextBytes_eq, putOption_eq]
  rfl

/-! ### The bodies -/

section
variable (s : State) (us : Nat)

theorem State.reserved_eq : s.reserved = if s.pen.pointing.any (·.reservation) then 1 else 0 := by
  rw [State.reserved]
  cases s.pen.pointing <;> rfl

/-- What STATUS shows of the pointing in flight and of the link is the same at a frame's stamp. -/
theorem State.frameAt_shown :
    ((s.frameAt us).pen.pointing.map fun p => p.phase.code) = (s.pen.pointing.map fun p => p.phase.code)
      ∧ (s.frameAt us).pen.pointing.map (·.target) = s.pen.pointing.map (·.target)
      ∧ (s.frameAt us).reserved = s.reserved ∧ (s.frameAt us).link.errAxis = s.link.errAxis
      ∧ (s.frameAt us).link.errSensor = s.link.errSensor ∧ (s.frameAt us).link.errController = s.link.errController := by
  obtain ⟨x, δ, eq⟩ := s.advanceTo_moved us
  rw [State.frameAt, eq, State.reserved, State.reserved]
  cases pointing : s.pen.pointing <;> simp [State.moveTimes, State.huntController, pointing]

theorem State.frameAt_effectiveSpeed (a : Axis) : (s.frameAt us).effectiveSpeed a = s.effectiveSpeed a := by
  rw [State.effectiveSpeed, State.frameAt_sdu, State.frameAt_station, State.effectiveSpeed]

/-- STATUS at a frame's stamp. -/
theorem State.frameAt_statusBody :
    (s.frameAt us).statusBody =
      [s.osc.mode.code, s.dvc.state.code, (s.pen.pointing.map fun p => p.phase.code).getD 0]
        ++ optionalBytes (s.pen.pointing.map fun p => putNat 1 p.target) ++ putNat 1 s.osc.queue.length
        ++ putNat 1 s.reports.queue.length ++ putNat 1 s.reserved ++ putNat 2 (s.effectiveSpeed .h)
        ++ putNat 2 (s.effectiveSpeed .v) ++ [flagByte s.osc.suspect, flagByte s.osc.detectorReady, flagByte s.aru.tiltStale]
        ++ putNat 1 s.scs.guard ++ optionalBytes (s.scs.burn.map fun b => putNat 2 b.timer) ++ putNat 2 s.link.errAxis
        ++ putNat 2 s.link.errSensor ++ putNat 2 s.link.errController ++ putNat 1 s.pen.lateRanges
        ++ putNat 1 s.dvc.lockoutFaults ++ putNat 6 (s.frameAt us).stc.siteTime := by
  obtain ⟨phase, target, reserved, axis, sensor, controller⟩ := s.frameAt_shown us
  simp only [State.statusBody, phase, target, reserved, axis, sensor, controller, State.frameAt_effectiveSpeed, State.frameAt_osc,
    State.frameAt_dvc, State.frameAt_reports, State.frameAt_aru, State.frameAt_scs, (s.frameAt_counts us).2, putOption_eq,
    Option.map_map, putBool_eq, append_three]
  rfl

/-- TARGET at a frame's stamp. -/
theorem State.frameAt_targetBody (n : Nat) :
    (s.frameAt us).targetBody n =
      putNat 1 n ++ definitionBytes (s.entry n).definition ++ [(s.entry n).state.code] ++ putNat 4 (s.entry n).countdown
        ++ putNat 1 (s.entry n).misses ++ putNat 1 (s.entry n).overruns
        ++ optionalBytes ((s.entry n).retry.map fun x => putNat 4 x)
        ++ [flagByte (s.entry n).deferred, flagByte (s.engaged n), flagByte (s.entry n).pendingDef.isSome]
        ++ optionalBytes ((s.entry n).lastOutcome.map fun o => [o.code])
        ++ optionalBytes ((s.entry n).lastSummary.map Summary.bytes) := by
  simp only [State.targetBody, State.frameAt_entry, State.frameAt_engaged, putOption_eq, putBool_eq, append_three]

/-- CONTEXT at a frame's stamp. -/
theorem State.frameAt_contextBody :
    (s.frameAt us).contextBody =
      [s.dvc.state.code] ++ s.dvc.cause.bytes ++ optionalBytes (s.dvc.resumeMode.map fun m => [m.code])
        ++ optionalBytes (s.dvc.restartTimer.map fun x => putNat 2 x) ++ [flagByte s.dvc.haltLine, s.dvc.level.code]
        ++ putNat 1 s.dvc.beyond ++ putNat 1 s.dvc.within ++ s.dvc.report.h.bytes ++ s.dvc.report.v.bytes
        ++ optionalBytes (s.dvc.ordinary.map s.contextFields) ++ optionalBytes (s.dvc.critical.map s.recordFields) := by
  have contexts : (s.frameAt us).contextFields = s.contextFields := by
    funext c
    simp only [State.contextFields, State.frameAt_entry]
  have records : (s.frameAt us).recordFields = s.recordFields := by
    funext c
    rw [State.recordFields, contexts, State.recordFields]
  simp only [State.contextBody, State.contextBytes_eq, State.criticalBytes_eq, contexts, records, State.frameAt_dvc, putOption_eq,
    putBool_eq, append_two]

/-- SECTOR at a frame's stamp. -/
theorem State.frameAt_sectorBody (a : Axis) (soft : (s.scs.soft.get a).length = 32) (slots : (s.scs.slots.get a).length = 32)
    {sectors : List Nat} (numbers : sectors = List.range 32) :
    (s.frameAt us).sectorBody a =
      [axisCode a]
        ++ (sectors.flatMap fun n =>
            optionalBytes (((s.scs.soft.get a).getD n none).map fun x => putInt 2 x) ++ ((s.scs.slots.get a).getD n .blank).bytes)
        ++ putNat 1 s.scs.guard
        ++ optionalBytes
            (s.scs.burn.map fun b => [axisCode b.axis] ++ putNat 1 b.sector ++ putInt 2 b.value ++ putNat 2 b.timer) := by
  rw [State.sectorBody, State.frameAt_scs, sectorBytes_eq 32 _ _ soft slots, putOption_eq, numbers]

/-- QUEUE at a frame's stamp. -/
theorem State.frameAt_queueBody {deferred : List Nat}
    (numbers : deferred =
      (List.range s.entries.length).filter fun n => decide ((s.entry n).state = .due) && (s.entry n).deferred) :
    (s.frameAt us).queueBody =
      [s.osc.mode.code] ++ putNat 2 s.osc.counter ++ putNat 1 s.osc.queue.length
        ++ (s.osc.queue.flatMap fun x => putNat 1 (x.priority * 64 + x.target) ++ putNat 2 x.seq)
        ++ putNat 1 deferred.length ++ deferred.flatMap fun n => putNat 1 n := by
  have entries : deferredEntries 0 s.entries = deferred := by
    rw [deferredEntries_eq, numbers]
    simp only [Nat.zero_add, List.map_id']
    rfl
  rw [State.queueBody, State.frameAt_osc, State.frameAt_entries, putList, putList, entries, ← List.append_assoc, ← List.append_assoc]
  rfl

end

/-- A query that is answered with a body (R174, R176). -/
theorem exec_query {s : State} {i : Instr} {h : Hdr} {bs : List Byte} (takes : s.takesRequests) (hdr : Instr.hdr i = h)
    (arm : exec i s = .next (s.submit (Instr.hdr i).us (.request i))) (plain : ∀ locked progress, nextGuard locked progress i = 0)
    (answer : (s.frameAt h.us).perform i = (s.frameAt h.us).answerBody bs) :
    exec i s = .next ((s.frameAt h.us).replied h.tag .done bs) := by
  subst hdr
  exact exec_request takes arm plain answer

/-- A query that draws RANGE. -/
theorem exec_query_range {s : State} {i : Instr} {h : Hdr} (takes : s.takesRequests) (hdr : Instr.hdr i = h)
    (arm : exec i s = .next (s.submit (Instr.hdr i).us (.request i))) (plain : ∀ locked progress, nextGuard locked progress i = 0)
    (answer : (s.frameAt h.us).perform i = (s.frameAt h.us).refuse .range) :
    exec i s = .next ((s.frameAt h.us).replied h.tag .range []) := by
  subst hdr
  exact exec_request takes arm plain answer

theorem axisOfCode_above {n : Nat} (high : 1 < n) : axisOfCode n = none := by
  match n, high with
  | n + 2, _ => rfl

theorem axisOfCode_axisCode (a : Axis) : axisOfCode (axisCode a).toNat = some a := by cases a <;> rfl

theorem OperatingMode.code_eq (m : OperatingMode) : m.code = if m = .running then 1 else 0 := by cases m <;> rfl

/-- Settles O17: the codes and the bytes of a number once, and each body from the fields of the state. -/
theorem queryBodiesSayTheState : Obligations.QueryBodiesSayTheState := by
  refine ⟨⟨rfl, rfl, rfl, rfl, rfl, rfl, rfl, rfl, rfl, rfl, rfl, rfl, rfl, rfl⟩,
    fun x => ⟨fun fits => ?_, fun fits => ?_, fun fits => ?_, fun fits => ?_⟩,
    fun x => ⟨fun pos fits => ?_, fun pos fits => ?_, fun pos fits => ?_, fun low high => ?_, fun low high => ?_⟩, fun s h takes => ?_⟩
  · rw [putNat_fits (by simpa using fits), natBytes_one]
  · rw [putNat_fits (by simpa using fits), natBytes_two]
  · rw [putNat_fits (by simpa using fits), natBytes_four]
  · rw [putNat_fits (by simpa using fits), natBytes_six]
  · rw [putUInt_fits pos (by simpa using fits), natBytes_two, ofNat_toNat_of_nonneg _ pos]
  · rw [putAngle_eq, putUInt_fits pos (by simpa using fits), natBytes_three, ofNat_toNat_of_nonneg _ pos]
  · rw [putUInt_fits pos (by simpa using fits), natBytes_four, ofNat_toNat_of_nonneg _ pos]
  · rw [putInt_fits (by omega) (by omega), natBytes_two]
    exact congrArg bytes2 (ofNat_residue 16 x)
  · rw [putInt_fits (by omega) (by omega), natBytes_four]
    exact congrArg bytes4 (ofNat_residue 32 x)
  · refine ⟨?_, fun n high => exec_query_range takes rfl rfl (fun _ _ => rfl) (if_pos high), fun n low => ?_, ?_, fun axis high => ?_,
      fun a soft slots => ?_, ?_⟩
    · have body := s.frameAt_statusBody h.us
      rw [OperatingMode.code_eq, State.reserved_eq] at body
      exact exec_query takes rfl rfl (fun _ _ => rfl) (congrArg (s.frameAt h.us).answerBody body)
    · have answer : (s.frameAt h.us).takeQueryTarget n = _ := if_neg (by omega)
      rw [State.frameAt_targetBody] at answer
      exact exec_query takes rfl rfl (fun _ _ => rfl) answer
    · exact exec_query takes rfl rfl (fun _ _ => rfl) (congrArg (s.frameAt h.us).answerBody (s.frameAt_contextBody h.us))
    · have answer : (s.frameAt h.us).takeQuerySector axis = (s.frameAt h.us).refuse .range := by
        rw [State.takeQuerySector, axisOfCode_above high]
      exact exec_query_range takes rfl rfl (fun _ _ => rfl) answer
    · have answer : (s.frameAt h.us).takeQuerySector (axisCode a).toNat =
          (s.frameAt h.us).answerBody ((s.frameAt h.us).sectorBody a) := by
        rw [State.takeQuerySector, axisOfCode_axisCode]
      generalize sectors : List.range 32 = ns
      rw [s.frameAt_sectorBody h.us a soft slots sectors.symm] at answer
      exact exec_query takes rfl rfl (fun _ _ => rfl) answer
    · have body := s.frameAt_queueBody h.us rfl
      rw [OperatingMode.code_eq] at body
      exact exec_query takes rfl rfl (fun _ _ => rfl) (congrArg (s.frameAt h.us).answerBody body)

end Sys2Proof.Machine
end

section
/-! SUPPORT. The keys that an enqueue gives (R45), and the renumbering as a numbering of the distinct sequence values by their places
(R47). The statement EnqueueKeysAndRenumbers. -/

namespace Sys2Proof.Machine

open Sys2Proof

/-! ### Places of distinct values in ascending order -/

theorem distinct_nodup (l : List Nat) : (distinct l).Nodup := by
  induction l with
  | nil => exact List.nodup_nil
  | cons x xs ih =>
    unfold distinct
    split
    · exact ih
    · exact List.nodup_cons.mpr ⟨‹_›, ih⟩

theorem below_lt_iff {vals : List Nat} {j k : Nat} (mem : j ∈ vals) : below vals j < below vals k ↔ j < k := by
  refine ⟨fun lt => ?_, fun lt => below_lt lt mem⟩
  by_contra ge
  exact absurd (below_le vals (Nat.not_lt.mp ge)) (Nat.not_le.mpr lt)

/-- Every value has fewer values below it than there are in all: it is not below itself. -/
theorem below_lt_length {vals : List Nat} {k : Nat} (mem : k ∈ vals) : below vals k < vals.length := by
  have strict := below_lt (Nat.lt_succ_self k) mem
  exact strict.trans_le (List.length_filter_le _ _)

/-- The places of distinct values are all the numbers below their count. -/
theorem exists_below_eq {vals : List Nat} (once : vals.Nodup) {k : Nat} (inside : k < vals.length) :
    ∃ x ∈ vals, below vals x = k := by
  have apart : (vals.map (below vals)).Nodup := by
    refine once.map_on fun x hx y hy same => ?_
    have up := below_lt_iff (k := y) hx
    have down := below_lt_iff (k := x) hy
    omega
  have places : vals.map (below vals) ⊆ List.range vals.length := by
    intro n hn
    obtain ⟨x, hx, rfl⟩ := List.mem_map.mp hn
    exact List.mem_range.mpr (below_lt_length hx)
  have all : (vals.map (below vals)).Perm (List.range vals.length) :=
    (apart.subperm places).perm_of_length_le (by simp)
  exact List.mem_map.mp (all.mem_iff.mpr (List.mem_range.mpr inside))

/-! ### The keys of an enqueue (R45, R47) -/

/-- A number handed, with the keys that an enqueue gives it. -/
def State.handed (s : State) (n : Nat) : QueueItem :=
  { target := n, priority := (s.entry n).definition.priority, seq := s.osc.counter }

/-- The due queue with the numbers handed in their places, before any renumbering. -/
def State.keyed (s : State) (nums : List Nat) : List QueueItem := insertAll s.handed nums s.osc.queue

theorem State.keyed_perm (s : State) (nums : List Nat) : (s.keyed nums).Perm (nums.map s.handed ++ s.osc.queue) :=
  insertAll_perm _ _ _

/-- The sequence values queued, each once. -/
def State.keyValues (s : State) (nums : List Nat) : List Nat := distinct ((s.keyed nums).map (·.seq))

theorem State.mem_keyValues {s : State} {nums : List Nat} {x : QueueItem} (mem : x ∈ nums.map s.handed ++ s.osc.queue) :
    x.seq ∈ s.keyValues nums :=
  (mem_distinct _ _).mpr (List.mem_map_of_mem ((s.keyed_perm nums).mem_iff.mpr mem))

/-- A queued item with its sequence value replaced by its place. -/
def QueueItem.renumbered (vals : List Nat) (x : QueueItem) : QueueItem := { x with seq := below vals x.seq }

theorem State.enqueue_below {s : State} {nums : List Nat} (given : nums ≠ []) (room : s.osc.counter < 65535) :
    s.enqueue nums = s.setOsc { s.osc with queue := s.keyed nums, counter := s.osc.counter + 1 } :=
  (if_neg given).trans (if_pos room)

theorem State.enqueue_full {s : State} {nums : List Nat} (given : nums ≠ []) (full : 65535 ≤ s.osc.counter) :
    s.enqueue nums =
      s.setOsc
        { s.osc with
          queue := (s.keyed nums).map (QueueItem.renumbered (s.keyValues nums)), counter := (s.keyValues nums).length } :=
  (if_neg given).trans (if_neg (Nat.not_lt.mpr full))

/-- The sequence values after the renumbering are the numbers below the counter. -/
theorem State.renumbered_seq (s : State) (nums : List Nat) (k : Nat) :
    (∃ x ∈ (s.keyed nums).map (QueueItem.renumbered (s.keyValues nums)), x.seq = k) ↔ k < (s.keyValues nums).length := by
  constructor
  · rintro ⟨x, mem, rfl⟩
    obtain ⟨y, hy, rfl⟩ := List.mem_map.mp mem
    exact below_lt_length ((mem_distinct _ _).mpr (List.mem_map_of_mem hy))
  · intro inside
    obtain ⟨v, hv, place⟩ := exists_below_eq (distinct_nodup _) inside
    obtain ⟨y, hy, rfl⟩ := List.mem_map.mp ((mem_distinct _ _).mp hv)
    exact ⟨_, List.mem_map_of_mem hy, place⟩

/-- Settles O30: the keys as they are given, and the renumbering by places, which are monotone and onto. -/
theorem enqueueKeysAndRenumbers : Obligations.EnqueueKeysAndRenumbers := by
  intro s nums given
  refine ⟨fun room => ?_, fun full => ?_, fun ordered => State.enqueue_ordered ordered nums, s.enqueue_mode nums, ?_, ?_⟩
  · rw [State.enqueue_below given room]
    exact ⟨s.keyed_perm nums, rfl⟩
  · rw [State.enqueue_full given full]
    refine ⟨below (s.keyValues nums), (s.keyed_perm nums).map _, fun x hx y _ => below_lt_iff (State.mem_keyValues hx),
      fun x mem => (s.renumbered_seq nums x.seq).mp ⟨x, mem, rfl⟩, fun k => (s.renumbered_seq nums k).mpr⟩
  all_goals
    obtain room | full := Nat.lt_or_ge s.osc.counter 65535
    · rw [State.enqueue_below given room]
      rfl
    · rw [State.enqueue_full given full]
      rfl

end Sys2Proof.Machine
end

section
/-! SUPPORT. A pair of setpoints handed to both axes for the pointing engine (R62, R66, R88), the conditions of a dispatch (R49) and
the pointing it begins (R50, R51, R60). The statements DispatchTakesTheHead and StartAndStopSetTheMode. -/

namespace Sys2Proof.Machine

open Sys2Proof

/-! ### Both axes given a target (R62, R66) -/

/-- A setpoint handed to an axis that is not HELD is taken at once (R88). -/
theorem AxisRec.retarget_takes {r : AxisRec} (free : r.motion ≠ .held) (a : Axis) (sp : Int) (q : Requester) :
    (r.retarget a sp q).axis.setpoint = some sp ∧ (r.retarget a sp q).axis.requester = q := by
  have start : (r.startToward a sp q).axis.setpoint = some sp ∧ (r.startToward a sp q).axis.requester = q := by
    simp only [AxisRec.startToward]
    split <;> exact ⟨rfl, rfl⟩
  cases m : r.motion with
  | held => exact absurd m free
  | still => simpa only [AxisRec.retarget, m] using start
  | moving =>
    simp only [AxisRec.retarget, m]
    split
    · exact start
    · exact ⟨rfl, rfl⟩
  | braking =>
    simp only [AxisRec.retarget, m]
    exact ⟨rfl, rfl⟩

/-- `q` is what setpoints handed for the record `p` leave of it: where both axes arrive at once it has entered SETTLE, and only the
settle timer and the marks of arrival may differ besides. -/
structure Pointing.Sent (p q : Pointing) : Prop where
  phase : q.phase = p.phase ∨ q.phase = .settle
  timer : q.settleTimer = p.settleTimer ∨ q.settleTimer = 0
  same : ∃ arrived, q = { p with phase := q.phase, settleTimer := q.settleTimer, arrived := arrived }

theorem Pointing.Sent.reached {p q : Pointing} (h : p.Sent q) (a : Axis) (r : Bool) : p.Sent (q.reached a r) := by
  obtain ⟨phase, timer, x, same⟩ := h
  unfold Pointing.reached
  split
  · unfold Pointing.arrivesAt
    dsimp only
    split
    · exact ⟨.inr rfl, .inr rfl, _, by rw [same]⟩
    · exact ⟨phase, timer, _, by rw [same]⟩
  · exact ⟨phase, timer, x, same⟩

/-- A record with the LIMITED indication of an inverse reduction for its target joined to its own (R62). -/
def State.limitedFor (s : State) (p : Pointing) : Pointing :=
  { p with limited := p.limited || (inverseReduction s p.frozenCopy.hz p.frozenCopy.v p.ox p.oy).limited }

/-- An axis retargeted to a record's target and offset (R62, R66). -/
def State.sentAxis (s : State) (p : Pointing) (a : Axis) : AxisRec :=
  ((s.axis a).retarget a
    (match a with
    | .h => (inverseReduction s p.frozenCopy.hz p.frozenCopy.v p.ox p.oy).h
    | .v => (inverseReduction s p.frozenCopy.hz p.frozenCopy.v p.ox p.oy).v)
    .pointing).axis

/-- Both axes retargeted to a record's target and offset (R62, R66). -/
def State.sentAxes (s : State) (p : Pointing) : PerAxis AxisRec := { h := s.sentAxis p .h, v := s.sentAxis p .v }

/-- What setpoints handed to both axes leave: the record, and both axes retargeted. -/
theorem State.pointAxes_eq (s : State) (p : Pointing) :
    ∃ q y, (s.limitedFor p).Sent q ∧
      s.pointAxes p = { s with pen := { s.pen with pointing := some q }, apg := { axes := s.sentAxes p, settle := y } } := by
  have start : (s.limitedFor p).Sent { s.limitedFor p with arrived := both false } := ⟨.inl rfl, .inl rfl, _, rfl⟩
  obtain ⟨r, y, first⟩ := State.retarget_pointing
    (s := s.setPointing (some { s.limitedFor p with arrived := both false })) rfl .h
    (inverseReduction s p.frozenCopy.hz p.frozenCopy.v p.ox p.oy).h
  obtain ⟨r', y', second⟩ := State.retarget_pointing (s := State.retarget _ .h _ .pointing)
    (congrArg (fun t : State => t.pen.pointing) first) .v (inverseReduction s p.frozenCopy.hz p.frozenCopy.v p.ox p.oy).v
  refine ⟨_, y', (start.reached .h r).reached .v r', second.trans ?_⟩
  rw [first]
  rfl

/-- While a pointing stands and nothing selects HOLD, the choice is AIM for both axes (R133). -/
theorem State.choose_aim {s : State} {p : Pointing} (free : s.dvc.state.holds = false) (seen : ∀ a, (s.latestRaw a).isSome)
    (noHold : s.dsl.restartHold = both false) (pointing : s.pen.pointing = some p)
    (unheld : ∀ a, s.dsl.selected.get a ≠ .hold) : s.choose = { s with dsl := { s.dsl with selected := both .aim } } := by
  have wanted : ∀ a, s.wantedSource a = .aim := fun a => by
    have some : (s.latestRaw a).isNone = false := by simpa using seen a
    simp [State.wantedSource, free, some, noHold, State.busy, pointing]
  rw [State.choose, State.chooseAxes_settled (State.settled_of_unheld free seen noHold unheld), State.chosen, wanted, wanted]
  rfl

/-! ### A dispatch (R49 to R51, R60) -/

/-- The conditions of R49. -/
def State.MayDispatch (s : State) : Prop :=
  s.osc.mode = .running ∧ s.dvc.state = .run ∧ s.pen.pointing = none ∧ s.scs.burn = none ∧ s.dsl.jog = .none
    ∧ s.dsl.selected = both .park ∧ s.osc.detectorReady = true ∧ s.reports.queue.length < 32 ∧ s.osc.queue ≠ []

theorem State.dispatchReady_iff {s : State} : s.dispatchReady = true ↔ s.MayDispatch := by
  have room : s.pen.pointing = none → s.occupancy = s.reports.queue.length := fun none => by
    simp [State.occupancy, State.reserved, none]
  have count : Config.reportSlots = 32 := rfl
  simp only [State.dispatchReady, State.MayDispatch, State.busy, ← State.bothParked_iff, Bool.and_eq_true, decide_eq_true_eq,
    Bool.not_eq_true', Option.isSome_eq_false_iff, Option.isNone_iff_eq_none, List.isEmpty_eq_false_iff, and_assoc, count]
  refine and_congr_right fun _ => and_congr_right fun _ => and_congr_right fun none => ?_
  rw [room none]

/-- Some condition of R49 fails. -/
theorem State.not_mayDispatch_iff {s : State} :
    ¬s.MayDispatch ↔
      s.osc.mode ≠ .running ∨ s.dvc.state ≠ .run ∨ s.pen.pointing ≠ none ∨ s.scs.burn ≠ none ∨ s.dsl.jog ≠ .none
        ∨ s.dsl.selected ≠ both .park ∨ s.osc.detectorReady = false ∨ 32 ≤ s.reports.queue.length ∨ s.osc.queue = [] := by
  simp only [State.MayDispatch, not_and_or, Bool.not_eq_true, Nat.not_lt, Decidable.not_not, ne_eq]

theorem State.examineDispatch_off {s : State} (no : ¬s.MayDispatch) : s.examineDispatch = s :=
  if_neg fun ready => no (State.dispatchReady_iff.mp ready)

theorem State.examineDispatch_on {s : State} (may : s.MayDispatch) : s.examineDispatch = s.dispatchHead :=
  if_pos (State.dispatchReady_iff.mpr may)

/-- A part of an entry that a replacement keeps reads as before. -/
theorem State.setEntry_keeps {α : Type} (f : Entry → α) {s : State} {n : Nat} {e : Entry} (same : f e = f (s.entry n)) :
    f ((s.setEntry n e).entry n) = f (s.entry n) := by
  obtain inside | out := Nat.lt_or_ge n s.entries.length
  · rw [State.entry, State.setEntry_entries, getD_set inside, if_pos rfl, same]
  · rw [State.entry_of_le (by simpa using out), State.entry_of_le out]

/-- The head out of the queue, and its entry ACTIVE. -/
def State.headTaken (s : State) (x : QueueItem) (rest : List QueueItem) : State :=
  { s with
    osc := { s.osc with queue := rest }
    entries := s.entries.set x.target { s.entry x.target with state := .active } }

/-- A dispatch begins a pointing at the head of the queue with a copy of its entry's definition, and makes its choice. -/
theorem State.dispatchHead_eq {s : State} {x : QueueItem} {rest : List QueueItem} (queue : s.osc.queue = x :: rest) :
    s.dispatchHead =
      (State.pointAxes { s.headTaken x rest with squ := zeroSqu, pen := { s.pen with retriesClosed := false } }
        (newPointing x.target .scheduled (s.entry x.target).definition)).choose := by
  have copy : ((s.headTaken x rest).entry x.target).definition = (s.entry x.target).definition :=
    State.setEntry_keeps (s := s.setOsc { s.osc with queue := rest }) Entry.definition rfl
  rw [← copy]
  simp only [State.dispatchHead, queue]
  rfl

/-- A dispatch leaves a pointing in flight. -/
theorem State.dispatchHead_flies {s : State} (some : s.osc.queue ≠ []) : s.dispatchHead.pen.pointing ≠ none := by
  obtain ⟨x, rest, queue⟩ := List.exists_cons_of_ne_nil some
  obtain ⟨q, y, -, eq⟩ :=
    State.pointAxes_eq { s.headTaken x rest with squ := zeroSqu, pen := { s.pen with retriesClosed := false } }
      (newPointing x.target .scheduled (s.entry x.target).definition)
  rw [State.dispatchHead_eq queue, State.choose_frame, eq]
  exact Option.some_ne_none q

/-- Settles O26: the conditions of R49 as one, and the dispatch as setpoints handed for a new record. -/
theorem dispatchTakesTheHead : Obligations.DispatchTakesTheHead := by
  refine ⟨fun s fails => ?_, fun s x rest queue mode run pointing burn jog parked ready room still seen noHold => ?_⟩
  · refine congrArg Host.Outcome.next (State.examineDispatch_off (State.not_mayDispatch_iff.mpr ?_))
    exact fails.imp_left fun stopped => by simp [stopped]
  · have may : s.MayDispatch := ⟨mode, run, pointing, burn, jog, parked, ready, room, by simp [queue]⟩
    obtain ⟨q, y, sent, eq⟩ :=
      State.pointAxes_eq { s.headTaken x rest with squ := zeroSqu, pen := { s.pen with retriesClosed := false } }
        (newPointing x.target .scheduled (s.entry x.target).definition)
    have choice := State.choose_aim (s := State.pointAxes _ _) (p := q) (by rw [eq]; simp [State.headTaken, run, DvcState.holds])
      (by rw [eq]; exact seen) (by rw [eq]; exact noHold) (by rw [eq]) (by rw [eq]; simp [State.headTaken, parked])
    have next : exec .dispatch s = .next _ := congrArg Host.Outcome.next
      (((State.examineDispatch_on may).trans (State.dispatchHead_eq queue)).trans choice)
    rw [eq] at next
    have free : ∀ a, (s.axis a).motion ≠ .held := fun a => by simp [still a]
    obtain ⟨phase, timer, arrived, same⟩ := sent
    have timed : q.settleTimer = 0 := timer.elim id id
    have takes := fun a sp => AxisRec.retarget_takes (free a) a sp .pointing
    have turns := fun a sp => AxisRec.retarget_turns (free a) a sp .pointing
    refine ⟨_, q, next, rfl, rfl, rfl, rfl, rfl, ?_⟩
    generalize q.phase = phaseOf at *
    generalize q.settleTimer = timerOf at *
    subst same
    exact ⟨rfl, rfl, phase, rfl, rfl, rfl, rfl, rfl, rfl, rfl, rfl, timed, rfl, rfl, rfl, rfl, rfl, rfl, rfl, rfl, (takes .h _).1,
      (takes .v _).1, fun a => by cases a <;> exact (takes _ _).2, fun a => by cases a <;> exact (turns _ _).position, rfl, rfl, rfl,
      rfl, rfl, rfl, rfl, rfl⟩

/-! ### START and STOP (R42, R43) -/

theorem exec_start {s : State} {h : Hdr} {x : Answered} (takes : s.takesRequests) (answer : (s.frameAt h.us).takeStart = x) :
    exec (.start h) s = .next (x.state.replied h.tag x.code x.body) :=
  exec_request takes rfl (fun _ _ => rfl) answer

theorem exec_stop {s : State} {h : Hdr} {x : Answered} (takes : s.takesRequests) (answer : (s.frameAt h.us).takeStop = x) :
    exec (.stop h) s = .next (x.state.replied h.tag x.code x.body) :=
  exec_request takes rfl (fun _ _ => rfl) answer

theorem State.takeStart_unlocked {s : State} (free : s.dvc.state ≠ .lockout) :
    s.takeStart = State.answerDone (s.setOsc { s.osc with mode := .running }).examineDispatch := by
  simp [State.takeStart, State.locked, free]

theorem State.takeStop_eq (s : State) :
    s.takeStop =
      if s.dvc.state = .lockout then s.refuse .lockout else State.answerDone (s.setOsc { s.osc with mode := .stopped }) := by
  simp [State.takeStop, State.locked]

/-- A frame that arrives neither begins nor ends a pointing. -/
theorem State.frameAt_idle (s : State) (us : Nat) : (s.frameAt us).pen.pointing = none ↔ s.pen.pointing = none := by
  have busy : (s.frameAt us).pen.pointing.isSome = s.pen.pointing.isSome := s.frameAt_busy us
  rw [← Option.isSome_eq_false_iff.trans Option.isNone_iff_eq_none, busy, Option.isSome_eq_false_iff, Option.isNone_iff_eq_none]

/-- The conditions of R49 after a START's mode change, on the state before the frame. -/
theorem State.started_mayDispatch_iff {s : State} {us : Nat} :
    ((s.frameAt us).setOsc { (s.frameAt us).osc with mode := .running }).MayDispatch ↔
      (s.setOsc { s.osc with mode := .running }).MayDispatch := by
  simp [State.MayDispatch, State.frameAt_idle]

/-- Settles O25: what a START examines is what DISPATCH examines. -/
theorem startAndStopSetTheMode : Obligations.StartAndStopSetTheMode := by
  refine ⟨fun s h takes => ⟨fun locked => ?_, fun free => ?_⟩, fun s h takes free => ?_⟩
  · refine exec_stop takes (x := (s.frameAt h.us).refuse .lockout) ((s.frameAt h.us).takeStop_eq.trans (if_pos ?_))
    rw [State.frameAt_dvc, locked]
  · have answer := (s.frameAt h.us).takeStop_eq.trans (if_neg (by rwa [State.frameAt_dvc]))
    rw [State.frameAt_osc] at answer
    exact exec_stop takes answer
  · have answer := State.takeStart_unlocked (s := s.frameAt h.us) (by rwa [State.frameAt_dvc])
    have may := State.started_mayDispatch_iff (s := s) (us := h.us)
    rw [State.frameAt_osc] at answer may
    refine ⟨fun fails => ?_, fun run idle burn jog parked ready room queue => ?_⟩
    · rw [State.examineDispatch_off (mt may.mp (State.not_mayDispatch_iff.mpr (.inr fails)))] at answer
      exact exec_start takes answer
    · have may := may.mpr ⟨rfl, run, idle, burn, jog, parked, ready, room, queue⟩
      refine ⟨_, congrArg Host.Outcome.next (State.examineDispatch_on may), ?_, ?_⟩
      · exact State.dispatchHead_flies (s := (s.frameAt h.us).setOsc { s.osc with mode := .running }) queue
      · rw [State.examineDispatch_on may] at answer
        exact exec_start takes answer

end Sys2Proof.Machine
end

section
/-! SUPPORT. What a SPOT frame leaves while its pointing goes on, or ends, before the target is centred (R61, R65 to R68, R71, R80,
R105 to R109). The statement SpotFramesBeforeTheLock. -/

namespace Sys2Proof.Machine

open Sys2Proof

/-! ### A frozen pointing in a stop that goes on (R80, R150) -/

theorem State.Frozen.congr {s t : State} {p q : Pointing} (h : s.Frozen p) (dvc : t.dvc = s.dvc) (pen : t.pen.pointing = some q)
    (frozen : q.frozen = true) (dsl : t.dsl = s.dsl) (apg : t.apg = s.apg) (scu : t.scu = s.scu) : t.Frozen q where
  stopping := by rw [dvc]; exact h.stopping
  cause := by rw [dvc]; exact h.cause
  pointing := pen
  frozen := frozen
  noJog := by rw [dsl]; exact h.noJog
  aimed := by rw [dsl]; exact h.aimed
  noHold := by rw [dsl]; exact h.noHold
  stops := fun a => by simpa only [State.axis, apg] using h.stops a
  seen := fun a => by simpa only [State.latestRaw, scu] using h.seen a

theorem State.Frozen.choose {s : State} {p : Pointing} (h : s.Frozen p) : s.choose = s := by
  rw [State.choose_aim (by rw [h.stopping]; rfl) h.seen h.noHold h.pointing (by simp [h.aimed]), ← h.aimed]

theorem State.Frozen.going {s : State} {p : Pointing} (h : s.Frozen p) : s.restarting = false := by
  obtain cause | cause := h.cause <;> simp [State.restarting, cause]

theorem State.stopWaits_iff {s : State} : s.stopWaits ↔ ¬(s.axesStill = true ∧ s.pen.shot = none) := by
  have moving : (∃ a, (s.axis a).inMotion = true) ↔ ¬s.axesStill = true := by
    simp only [State.axesStill, Bool.and_eq_true, Bool.not_eq_true', not_and_or, Bool.not_eq_false]
    exact ⟨fun ⟨a, moves⟩ => by cases a; exacts [.inl moves, .inr moves], fun x => x.elim (⟨_, ·⟩) (⟨_, ·⟩)⟩
  rw [State.stopWaits, moving, not_and_or]

/-- While a stop waits, nothing follows an event that leaves its frozen pointing. -/
theorem State.Frozen.wrapUp_waits {s : State} {p : Pointing} (h : s.Frozen p) (waits : s.stopWaits) : s.wrapUp = s := by
  refine State.wrapUp_same (by simp [h.noJog]) h.choose h.going ?_ (by simp [State.dispatchReady, h.stopping])
  rw [← Bool.not_eq_true]
  intro complete
  simp only [State.stopComplete, State.shotInHand, Bool.and_eq_true, Bool.not_eq_true', Option.isSome_eq_false_iff,
    Option.isNone_iff_eq_none] at complete
  exact State.stopWaits_iff.mp waits ⟨complete.1.2, complete.2⟩

/-! ### What a frame leaves (R53, R61) -/

/-- A record whose detector has been heard (R61). -/
def Pointing.heard (p : Pointing) : Pointing := { p with silence := 0 }

/-- The part after a frame, while its pointing goes on: the detector ready, this record and these counters of SQU. -/
def State.spotted (u : State) (q : Pointing) (c : Squ) : State :=
  { u with osc := { u.osc with detectorReady := true }, pen := { u.pen with pointing := some q }, squ := c }

/-- `q` is `p` in all that the end of its pointing reads. -/
structure Pointing.EndsAs (p q : Pointing) : Prop where
  target : q.target = p.target
  kind : q.kind = p.kind
  copy : q.frozenCopy = p.frozenCopy
  count : q.followCount = p.followCount
  frozen : q.frozen = p.frozen

theorem Pointing.EndsAs.softened {p q : Pointing} (h : p.EndsAs q) (o : Verdict) : softened q o = softened p o := by
  simp only [Machine.softened, h.copy, h.count]

theorem Pointing.EndsAs.afterEnd {p q : Pointing} (h : p.EndsAs q) (s : State) (o : Verdict) :
    s.afterEnd q o = s.afterEnd p o := by
  rw [State.afterEnd, State.afterEnd, h.target, h.kind]

/-- R77 for the outcomes that a frame brings. -/
theorem softened_of_frame {p : Pointing} {o : Verdict} (h : o = .crowded ∨ o = .obscured) :
    softened p o = if p.frozenCopy.kind = .track ∧ 1 ≤ p.followCount then .partialDone else o := by
  unfold softened
  split
  · obtain rfl | rfl := h <;> rfl
  · rfl

section
variable {u : State} {p q : Pointing} {c : Squ} {time : Int} {spots : List Spot} {r : SpotResult}

theorem State.InFlight.spotted (h : u.InFlight p) (live : q.frozen = false) : (u.spotted q c).InFlight q :=
  h.congr rfl rfl rfl live h.free rfl h.seen

theorem State.InFlight.spotted_wrapUp (h : u.InFlight p) (live : q.frozen = false) :
    (u.spotted q c).wrapUp = u.spotted q c :=
  (h.spotted live).wrapUp

/-- A frame that ends the pointing. -/
theorem State.MayEnd.spotted_fails (h : u.MayEnd p) (same : p.EndsAs q) (o : Verdict) :
    ((u.spotted q c).failPointing o).wrapUp = (u.spotted q c).afterEnd p (softened p o) := by
  have ends : (u.spotted q c).MayEnd q :=
    ⟨h.flight.spotted (same.frozen.trans h.flight.live), h.still, by rw [same.target]; exact h.unpended⟩
  rw [ends.failPointing, same.softened, (ends.rests _).wrapUp, same.afterEnd]

/-- Which frames a pointing that is not frozen takes (R61). -/
theorem Pointing.takes_iff (live : p.frozen = false) :
    p.takes time = true ↔
      ((p.phase = .acquire ∨ p.phase = .look) ∧ ∃ x, p.settleTime = some x ∧ x < time)
        ∨ p.phase = .locking ∨ p.phase = .centre ∨ p.phase = .measure ∨ p.phase = .follow := by
  have late : (p.settleTime.map fun t => decide (t < time)).getD false = true ↔ ∃ x, p.settleTime = some x ∧ x < time := by
    cases p.settleTime <;> simp
  cases phase : p.phase <;> simp [Pointing.takes, live, phase, late]

/-- A frame finds a pointing: it is set aside but for the silence count, or taken by the phase (R61). -/
theorem State.spotArrives_eq (pointing : u.pen.pointing = some p) (time : Int) (spots : List Spot) :
    u.spotArrives time spots =
      if p.takes time = true then
        (u.spotted (p.heard.sighted u.station.n.aimTol (spotResult p.frozenCopy u.station.n.ambig spots))
            (u.squ.seen (spotResult p.frozenCopy u.station.n.ambig spots) time)).frameTaken
          (p.heard.sighted u.station.n.aimTol (spotResult p.frozenCopy u.station.n.ambig spots))
          (spotResult p.frozenCopy u.station.n.ambig spots)
      else u.spotted p.heard u.squ := by
  simp only [State.spotArrives, State.setOsc_pen, pointing]
  rfl

theorem State.spotArrives_aside (pointing : u.pen.pointing = some p) (no : ¬p.takes time = true) :
    u.spotArrives time spots = u.spotted p.heard u.squ :=
  (State.spotArrives_eq pointing time spots).trans (if_neg no)

/-- A frame taken before CENTRE leaves on aim as it is (R61). -/
theorem State.spotArrives_early (pointing : u.pen.pointing = some p) (takes : p.takes time = true)
    (early : p.phase = .acquire ∨ p.phase = .look ∨ p.phase = .locking)
    (result : spotResult p.frozenCopy u.station.n.ambig spots = r) :
    u.spotArrives time spots = (u.spotted p.heard (u.squ.seen r time)).frameTaken p.heard r := by
  have same : p.heard.sighted u.station.n.aimTol r = p.heard := by
    have phase : p.heard.phase = p.phase := rfl
    obtain early | early | early := early <;> simp [Pointing.sighted, phase, early]
  rw [State.spotArrives_eq pointing, if_pos takes, result, same]

/-! ### What the phases before CENTRE make of a frame (R65 to R68, R71) -/

theorem State.InFlight.spotted_lockAt (h : u.InFlight p) (live : q.frozen = false) (x : Pointing) (count : Nat) (o : Offset) :
    ((u.spotted x c).lockAt q count o).wrapUp = (u.spotted x c).lockAt q count o := by
  unfold State.lockAt
  dsimp only
  split
  · exact h.spotted_wrapUp (q := { q with phase := .centre, onAim := false }) live
  · exact h.spotted_wrapUp (q := { q with phase := .locking }) live

/-- An empty frame counts, and at acq_frames search leg 1 begins (R65). -/
theorem State.spotted_acquireEmpty (x q : Pointing) (count : Nat) :
    (u.spotted x c).acquireEmpty q count =
      if count = u.station.n.acqFrames then (u.spotted x { c with acquire := count }).startLeg q 1
      else u.spotted { q with phase := .acquire } { c with acquire := count } := rfl

/-- A leg has found nothing: the search is exhausted, or the next leg begins (R67). -/
theorem State.spotted_legEmpty (x q : Pointing) (leg : Nat) :
    (u.spotted x c).legEmpty q leg =
      if u.station.n.searchLegs ≤ leg then (u.spotted { q with legsCompleted := leg } c).failPointing .obscured
      else (u.spotted { q with legsCompleted := leg } c).startLeg { q with legsCompleted := leg } (leg + 1) := rfl

/-- A record on its way to a search leg (R66). -/
def Pointing.onLeg (p : Pointing) (k : Nat) : Pointing :=
  { p with
    phase := .searchMove, searchLeg := k, ox := (searchOffset p.frozenCopy.w k).dx, oy := (searchOffset p.frozenCopy.w k).dy }

/-- `t` is `u` with search leg `k` begun by its record `q`: the legs done, both axes on their way, and these counters of SQU. -/
def State.LegBegun (u : State) (p : Pointing) (k done : Nat) (c : Squ) (t : State) (q : Pointing) : Prop :=
  let o := searchOffset p.frozenCopy.w k
  let sp := inverseReduction u p.frozenCopy.hz p.frozenCopy.v o.dx o.dy
  t.pen.pointing = some q ∧ q.searchLeg = k ∧ q.legsCompleted = done
    ∧ q.ox = o.dx ∧ q.oy = o.dy ∧ (q.phase = .searchMove ∨ q.phase = .settle) ∧ q.limited = (p.limited || sp.limited)
    ∧ (t.axis .h).setpoint = some sp.h ∧ (t.axis .v).setpoint = some sp.v ∧ (∀ a, (t.axis a).requester = .pointing)
    ∧ (∀ a, (t.axis a).p = (u.axis a).p) ∧ t.squ = c ∧ t.osc = { u.osc with detectorReady := true } ∧ t.entries = u.entries
    ∧ t.dvc = u.dvc ∧ t.reports = u.reports ∧ t.notices = u.notices

/-- A search leg that begins while the pointing goes on. -/
theorem State.InFlight.legBegun (h : u.InFlight p) (x : Pointing) (done k : Nat) (same : q = { p.heard with legsCompleted := done }) :
    ∃ t z, ((u.spotted x c).startLeg q k).wrapUp = t ∧ u.LegBegun p k done c t z := by
  subst same
  obtain ⟨z, y, sent, eq⟩ := (u.spotted x c).pointAxes_eq (Pointing.onLeg { p.heard with legsCompleted := done } k)
  obtain ⟨phase, -, arrived, same⟩ := sent
  have takes := fun a sp => AxisRec.retarget_takes (h.free a) a sp .pointing
  have turns := fun a sp => AxisRec.retarget_turns (h.free a) a sp .pointing
  have flight : ((u.spotted x c).pointAxes (Pointing.onLeg { p.heard with legsCompleted := done } k)).InFlight z := by
    rw [eq]
    exact h.congr rfl rfl rfl (by rw [same]; exact h.live) (fun a => by cases a <;> exact (turns _ _).free) rfl h.seen
  refine ⟨_, z, flight.wrapUp, ?_⟩
  rw [eq]
  generalize z.phase = phaseOf at *
  generalize z.settleTimer = timerOf at *
  subst same
  exact ⟨rfl, rfl, rfl, rfl, rfl, phase, rfl, (takes .h _).1, (takes .v _).1, fun a => by cases a <;> exact (takes _ _).2,
    fun a => by cases a <;> exact (turns _ _).position, rfl, rfl, rfl, rfl, rfl, rfl⟩

theorem State.frameTaken_acquire (s : State) (phase : p.phase = .acquire) (r : SpotResult) :
    s.frameTaken p r = s.frameAcquire p r := by rw [State.frameTaken, phase]

theorem State.frameTaken_look (s : State) (phase : p.phase = .look) (r : SpotResult) : s.frameTaken p r = s.frameLook p r := by
  rw [State.frameTaken, phase]

theorem State.frameTaken_locking (s : State) (phase : p.phase = .locking) (r : SpotResult) :
    s.frameTaken p r = s.frameLocking p r := by rw [State.frameTaken, phase]

/-- A pointing in ACQUIRE or LOOK takes a frame captured later than the settle time (R61). -/
theorem Pointing.takes_looking (live : p.frozen = false) (looks : p.phase = .acquire ∨ p.phase = .look)
    (late : ∃ x, p.settleTime = some x ∧ x < time) : p.takes time = true :=
  (Pointing.takes_iff live).mpr (.inl ⟨looks, late⟩)

/-- The phases on the way take no frame, and ACQUIRE and LOOK none captured up to the settle time (R61). -/
theorem Pointing.not_takes (live : p.frozen = false)
    (waits : p.phase = .slew ∨ p.phase = .settle ∨ p.phase = .searchMove
      ∨ (p.phase = .acquire ∨ p.phase = .look) ∧ ¬∃ x, p.settleTime = some x ∧ x < time) : ¬p.takes time = true := by
  rw [Pointing.takes_iff live]
  obtain phase | phase | phase | ⟨phase | phase, early⟩ := waits <;> simp [phase]
  all_goals simpa using early

theorem State.InFlight.spot_acquire (h : u.InFlight p) (phase : p.phase = .acquire)
    (late : ∃ x, p.settleTime = some x ∧ x < time) (result : spotResult p.frozenCopy u.station.n.ambig spots = r) :
    u.spotArrives time spots = (u.spotted p.heard (u.squ.seen r time)).frameAcquire p.heard r := by
  rw [State.spotArrives_early h.pointing (Pointing.takes_looking h.live (.inl phase) late) (.inl phase) result]
  exact State.frameTaken_acquire (p := p.heard) _ phase r

theorem State.InFlight.spot_look (h : u.InFlight p) (phase : p.phase = .look)
    (late : ∃ x, p.settleTime = some x ∧ x < time) (result : spotResult p.frozenCopy u.station.n.ambig spots = r) :
    u.spotArrives time spots = (u.spotted p.heard (u.squ.seen r time)).frameLook p.heard r := by
  rw [State.spotArrives_early h.pointing (Pointing.takes_looking h.live (.inr phase) late) (.inr (.inl phase)) result]
  exact State.frameTaken_look (p := p.heard) _ phase r

theorem State.InFlight.spot_locking (h : u.InFlight p) (phase : p.phase = .locking)
    (result : spotResult p.frozenCopy u.station.n.ambig spots = r) :
    u.spotArrives time spots = (u.spotted p.heard (u.squ.seen r time)).frameLocking p.heard r := by
  rw [State.spotArrives_early h.pointing ((Pointing.takes_iff h.live).mpr (.inr (.inl phase))) (.inr (.inr phase)) result]
  exact State.frameTaken_locking (p := p.heard) _ phase r

/-- An ambiguous frame that is taken before CENTRE counts: at ambig_limit the pointing fails, and short of it a lock in progress is
lost (R71, R107, R109). -/
theorem State.InFlight.spot_ambiguous (h : u.InFlight p)
    (takes : (p.phase = .acquire ∨ p.phase = .look) ∧ (∃ x, p.settleTime = some x ∧ x < time) ∨ p.phase = .locking)
    (result : spotResult p.frozenCopy u.station.n.ambig spots = .ambiguous) :
    u.spotArrives time spots =
      if u.squ.ambiguity + 1 = u.station.n.ambigLimit then
        (u.spotted p.heard { u.squ with ambiguity := u.squ.ambiguity + 1 }).failPointing .crowded
      else
        u.spotted p.heard
          { u.squ with ambiguity := u.squ.ambiguity + 1, lock := if p.phase = .locking then 0 else u.squ.lock } := by
  obtain ⟨phase | phase, late⟩ | phase := takes
  · rw [h.spot_acquire phase late result, if_neg (show ¬p.phase = .locking by simp [phase])]
    rfl
  · rw [h.spot_look phase late result, if_neg (show ¬p.phase = .locking by simp [phase])]
    rfl
  · rw [h.spot_locking phase result, if_pos phase]
    rfl

theorem State.InFlight.spot_acquire_empty (h : u.InFlight p) (phase : p.phase = .acquire)
    (late : ∃ x, p.settleTime = some x ∧ x < time)
    (result : spotResult p.frozenCopy u.station.n.ambig spots = .noCandidate) :
    u.spotArrives time spots =
      if u.squ.acquire + 1 = u.station.n.acqFrames then
        (u.spotted p.heard { u.squ with acquire := u.squ.acquire + 1 }).startLeg p.heard 1
      else u.spotted p.heard { u.squ with acquire := u.squ.acquire + 1 } := by
  have stays : ({ p.heard with phase := .acquire } : Pointing) = p.heard := by rw [← phase]; rfl
  rw [h.spot_acquire phase late result]
  refine (State.spotted_acquireEmpty _ _ _).trans ?_
  rw [stays]
  rfl

theorem State.InFlight.spot_look_empty (h : u.InFlight p) (phase : p.phase = .look)
    (late : ∃ x, p.settleTime = some x ∧ x < time)
    (result : spotResult p.frozenCopy u.station.n.ambig spots = .noCandidate) :
    u.spotArrives time spots = (u.spotted p.heard u.squ).legEmpty p.heard p.searchLeg :=
  h.spot_look phase late result

theorem withinTol_iff {limit x : Int} : withinTol limit x = true ↔ -limit ≤ x ∧ x ≤ limit := decide_eq_true_iff

/-- The lock test (R107) on a candidate and the one before it. -/
theorem Offset.consistent_iff (tol : Int) (o x : Offset) :
    o.consistent tol x = true ↔
      -tol ≤ o.dx - x.dx ∧ o.dx - x.dx ≤ tol ∧ -tol ≤ o.dy - x.dy ∧ o.dy - x.dy ≤ tol := by
  simp only [Offset.consistent, Bool.and_eq_true, withinTol_iff, and_assoc]

/-- The candidate goes on with the lock in progress: one is counted, and it is consistent with the candidate before (R107). -/
def Squ.locksOn (c : Squ) (tol : Int) (o : Offset) : Bool :=
  decide (c.lock ≠ 0) && (c.previous.map fun x => o.consistent tol x).getD false

theorem State.InFlight.spot_locks (h : u.InFlight p) (phase : p.phase = .locking) {o : Offset}
    (result : spotResult p.frozenCopy u.station.n.ambig spots = .chosen o) :
    u.spotArrives time spots =
      (u.spotted p.heard (u.squ.seen (.chosen o) time)).lockAt p.heard
        (if u.squ.locksOn u.station.n.lockTol o = true then u.squ.lock + 1 else 1) o := by
  rw [h.spot_locking phase result]
  refine congrArg (fun n => State.lockAt _ p.heard n o) (if_congr ?_ rfl rfl)
  rw [Squ.locksOn, Bool.and_eq_true, decide_eq_true_eq]
  rfl

/-- An empty frame in LOCKING unlocks: back to ACQUIRE, or on from the leg where the lock began (R68). -/
theorem State.InFlight.spot_unlocks_acquire (h : u.InFlight p) (phase : p.phase = .locking)
    (result : spotResult p.frozenCopy u.station.n.ambig spots = .noCandidate) (source : p.source = .acquire) :
    u.spotArrives time spots = (u.spotted p.heard { u.squ with lock := 0 }).acquireEmpty p.heard 1 := by
  have source : p.heard.source = .acquire := source
  rw [h.spot_locking phase result, State.frameLocking, source]
  rfl

theorem State.InFlight.spot_unlocks_search (h : u.InFlight p) (phase : p.phase = .locking)
    (result : spotResult p.frozenCopy u.station.n.ambig spots = .noCandidate) {k : Nat} (source : p.source = .search k) :
    u.spotArrives time spots = (u.spotted p.heard { u.squ with lock := 0 }).legEmpty p.heard k := by
  have source : p.heard.source = .search k := source
  rw [h.spot_locking phase result, State.frameLocking, source]
  rfl

theorem Squ.locksOn_iff (c : Squ) (tol : Int) (o : Offset) :
    c.locksOn tol o = true ↔
      c.lock ≠ 0 ∧ ∃ x, c.previous = some x
        ∧ -tol ≤ o.dx - x.dx ∧ o.dx - x.dx ≤ tol ∧ -tol ≤ o.dy - x.dy ∧ o.dy - x.dy ≤ tol := by
  rw [Squ.locksOn, Bool.and_eq_true, decide_eq_true_eq]
  cases c.previous <;> simp [Offset.consistent_iff]

end

/-- A SPOT frame, as its time of arrival and what follows it. -/
theorem exec_spotFrame (s : State) (us age : Nat) (spots : List Spot) :
    exec (.spotFrame us age spots) s =
      .next
        (((s.advanceTo us).huntSensor).spotArrives (((s.advanceTo us).huntSensor).captureTime age) spots).wrapUp := rfl

/-- Settles O49: what a frame comes to in each phase, and then that the pointing goes on, begins a leg or ends. -/
theorem spotFramesBeforeTheLock : Obligations.SpotFramesBeforeTheLock := by
  refine ⟨fun s us age spots => ?_, fun s us age spots p => ?_, fun s us age spots p => ?_⟩
  · intro u rest
    have arrives : u.spotArrives (u.captureTime age) spots = u.setOsc { u.osc with detectorReady := true } := by
      simp only [State.spotArrives, State.setOsc_pen, rest.noPointing]
    have after := rest.congr (t := u.setOsc { u.osc with detectorReady := true }) rfl rfl rfl rfl rfl rfl rfl
    exact (exec_spotFrame s us age spots).trans (congrArg _ ((congrArg State.wrapUp arrives).trans after.wrapUp))
  · intro u frozen waits
    have arrives : u.spotArrives (u.captureTime age) spots = u.spotted p.heard u.squ :=
      State.spotArrives_aside frozen.pointing (by simp [Pointing.takes, frozen.frozen])
    have after := frozen.congr (t := u.spotted p.heard u.squ) rfl rfl frozen.frozen rfl rfl rfl
    exact (exec_spotFrame s us age spots).trans (congrArg _ ((congrArg State.wrapUp arrives).trans (after.wrapUp_waits waits)))
  intro u time ready frame flight n r w late looks soft locks leg
  have goes : ∀ q c, q.frozen = false → u.spotArrives time spots = u.spotted q c → exec frame s = .next (u.spotted q c) :=
    fun q c live eq => congrArg Host.Outcome.next ((congrArg State.wrapUp eq).trans (flight.spotted_wrapUp live))
  have ends : u.MayEnd p → ∀ q c o, p.EndsAs q → (o = .crowded ∨ o = .obscured) →
      u.spotArrives time spots = (u.spotted q c).failPointing o → exec frame s = .next ((u.spotted q c).afterEnd p (soft o)) :=
    fun may q c o same named eq => by
      rw [show soft o = softened p o from (softened_of_frame named).symm]
      exact congrArg Host.Outcome.next ((congrArg State.wrapUp eq).trans (may.spotted_fails same o))
  have holds : ∀ x c q count o, q.frozen = false → u.spotArrives time spots = (u.spotted x c).lockAt q count o →
      exec frame s = .next ((u.spotted x c).lockAt q count o) :=
    fun x c q count o live eq =>
      congrArg Host.Outcome.next ((congrArg State.wrapUp eq).trans (flight.spotted_lockAt live x count o))
  have legs : ∀ x c k done, u.spotArrives time spots = (u.spotted x c).startLeg { p.heard with legsCompleted := done } k →
      leg k done c := fun x c k done eq => by
    obtain ⟨t, q, next, begun⟩ := flight.legBegun x done k rfl
    exact ⟨t, q, congrArg Host.Outcome.next ((congrArg State.wrapUp eq).trans next), begun⟩
  have same : p.EndsAs p.heard := ⟨rfl, rfl, rfl, rfl, rfl⟩
  refine ⟨fun waits => ?_, fun looks late o chosen => ?_, fun looks late result short => ?_,
    fun takes result limit may => ?_, fun phase late result short => ?_, fun phase late result limit => ?_,
    fun phase late result more => ?_, fun phase late result last may => ?_, fun phase o chosen => ⟨?_, ?_⟩,
    fun phase result short => ?_, fun phase result source many => ?_, fun phase result source one => ?_,
    fun phase result source more => ?_, fun phase result source last may => ?_⟩
  · exact goes _ _ flight.live (State.spotArrives_aside flight.pointing (Pointing.not_takes flight.live waits))
  · obtain phase | phase := looks
    · rw [if_pos phase]
      exact holds _ _ { p.heard with source := .acquire } _ _ flight.live (flight.spot_acquire phase late chosen)
    · rw [if_neg (by simp [phase])]
      exact holds _ _ { p.heard with source := .search p.searchLeg } _ _ flight.live (flight.spot_look phase late chosen)
  · have eq := (flight.spot_ambiguous (.inl ⟨looks, late⟩) result).trans (if_neg short)
    rw [if_neg (by obtain phase | phase := looks <;> simp [phase])] at eq
    exact goes p.heard _ flight.live eq
  · exact ends may p.heard _ _ same (.inl rfl) ((flight.spot_ambiguous takes result).trans (if_pos limit))
  · exact goes p.heard _ flight.live ((flight.spot_acquire_empty phase late result).trans (if_neg short))
  · exact legs _ _ 1 p.legsCompleted ((flight.spot_acquire_empty phase late result).trans (if_pos limit))
  · have eq := (flight.spot_look_empty phase late result).trans (State.spotted_legEmpty _ _ _)
    exact legs _ _ _ _ (eq.trans (if_neg (Nat.not_le.mpr more)))
  · have eq := (flight.spot_look_empty phase late result).trans (State.spotted_legEmpty _ _ _)
    exact ends may { p.heard with legsCompleted := p.searchLeg } _ _ ⟨rfl, rfl, rfl, rfl, rfl⟩ (.inr rfl) (eq.trans (if_pos last))
  · intro x previous counted left right down up
    have eq := flight.spot_locks (time := time) phase chosen
    rw [if_pos ((u.squ.locksOn_iff _ _).mpr ⟨counted, x, previous, left, right, down, up⟩)] at eq
    exact holds _ _ p.heard _ _ flight.live eq
  · intro fresh
    have eq := flight.spot_locks (time := time) phase chosen
    have no : ¬u.squ.locksOn n.lockTol o = true := by
      rw [Squ.locksOn_iff]
      rintro ⟨counted, x, previous, near⟩
      obtain none | apart := fresh
      · exact counted none
      · have := apart x previous
        omega
    rw [if_neg no] at eq
    exact holds _ _ p.heard _ _ flight.live eq
  · have eq := (flight.spot_ambiguous (time := time) (.inr phase) result).trans (if_neg short)
    rw [if_pos phase] at eq
    exact goes p.heard _ flight.live eq
  · have eq := (flight.spot_unlocks_acquire (time := time) phase result source).trans (State.spotted_acquireEmpty _ _ _)
    exact goes { p.heard with phase := .acquire } _ flight.live (eq.trans (if_neg (Ne.symm many)))
  · have eq := (flight.spot_unlocks_acquire (time := time) phase result source).trans (State.spotted_acquireEmpty _ _ _)
    exact legs _ _ 1 p.legsCompleted (eq.trans (if_pos one.symm))
  · have eq := (flight.spot_unlocks_search (time := time) phase result source).trans (State.spotted_legEmpty _ _ _)
    exact legs _ _ _ _ (eq.trans (if_neg (Nat.not_le.mpr more)))
  · have eq := (flight.spot_unlocks_search (time := time) phase result source).trans (State.spotted_legEmpty _ _ _)
    exact ends may { p.heard with legsCompleted := p.searchLeg } _ _ ⟨rfl, rfl, rfl, rfl, rfl⟩ (.inr rfl) (eq.trans (if_pos last))

end Sys2Proof.Machine
end

section
/-! SUPPORT. The end of an event in a PAUSE stop with no shot in hand, and the end of a frozen pointing there (R79, R80, R149, R150). -/

namespace Sys2Proof.Machine

open Sys2Proof

/-! ### A PAUSE stop with no shot in hand (R150) -/

/-- A PAUSE stop with no shot in hand, whose sources are chosen and where no settle test is left without its pointing. -/
structure State.PauseStop (s : State) : Prop where
  stopping : s.dvc.state = .stopping
  cause : s.dvc.cause = .pause
  noShot : s.pen.shot = none
  noSettle : s.pen.pointing = none → s.apg.settle = none
  noJog : s.dsl.jog = .none
  noHold : s.dsl.restartHold = both false
  seen : ∀ a, (s.latestRaw a).isSome
  chosen : ∀ a, s.wantedSource a = s.dsl.selected.get a

section
variable {s : State} {p q : Pointing}

theorem State.PauseStop.unheld (h : s.PauseStop) (a : Axis) : s.dsl.selected.get a ≠ .hold := by
  rw [← h.chosen a]
  exact State.wanted_ne_hold (by rw [h.stopping]; rfl) (h.seen a) (by simp [h.noHold])

theorem State.PauseStop.going (h : s.PauseStop) : s.restarting = false := by simp [State.restarting, h.cause]

theorem State.PauseStop.stopComplete (h : s.PauseStop) : s.stopComplete = s.axesStill := by
  simp [State.stopComplete, State.shotInHand, h.stopping, h.noShot]

theorem State.axesStill_iff : s.axesStill = true ↔ ¬((s.axis .h).inMotion = true ∨ (s.axis .v).inMotion = true) := by
  simp [State.axesStill]

/-- The completion test of a PAUSE stop: it enters HELD where both axes have come to rest (R150, R81). -/
theorem State.PauseStop.stopTest (h : s.PauseStop) (raised : Notices) : s.stopTest raised = s.pauseEnds := by
  by_cases moves : (s.axis .h).inMotion = true ∨ (s.axis .v).inMotion = true
  · have open_ : ¬s.stopComplete = true := by rwa [h.stopComplete, State.axesStill_iff, not_not]
    rw [State.stopTest, if_neg open_, State.pauseEnds, if_pos moves]
  · have complete : s.stopComplete = true := by rwa [h.stopComplete, State.axesStill_iff]
    have rest : ∀ a, (s.axis a).inMotion = false := fun a => by
      obtain ⟨restH, restV⟩ := not_or.mp moves
      cases a
      exacts [Bool.eq_false_iff.mpr restH, Bool.eq_false_iff.mpr restV]
    have holds : s.stopTest raised =
        ((s.setPointing none).setSettle none).enterHeld (s.pen.pointing.map (·.target)) (s.pen.pointing.map (·.part))
          s.dvc.cause := by
      rw [State.stopTest, if_pos complete, if_neg (by simp [h.cause])]
      cases pointing : s.pen.pointing with
      | some p => rfl
      | none =>
        have same : (s.setPointing none).setSettle none = s := by
          rw [← pointing, ← h.noSettle pointing]
          rfl
        rw [same]
        rfl
    rw [holds, State.pauseEnds, if_neg moves, h.cause]
    have park := State.choose_park
      (s := ((s.setPointing none).setSettle none).setDvc
        { s.dvc with
          state := .held, cause := .pause, resumeMode := some .command,
          ordinary :=
            some
              { target := s.pen.pointing.map (·.target), part := s.pen.pointing.map (·.part), cause := .pause,
                recoverable := true, savedAt := s.stc.siteTime } })
      rfl h.seen h.noHold rfl h.noJog rest h.unheld
    refine (congrArg State.autoResumeTest park).trans ((if_neg (by simp)).trans ?_)
    rw [← h.cause]
    rfl

theorem State.pauseEnds_idle (h : s.PauseStop) : s.pauseEnds.dispatchReady = false := by
  have state : s.pauseEnds.dvc.state ≠ .run := by
    unfold State.pauseEnds
    split
    · simp [h.stopping]
    · simp
  simp [State.dispatchReady, state]

/-- What ends an event in a PAUSE stop with no shot in hand is its completion test. -/
theorem State.PauseStop.wrapUp (h : s.PauseStop) : s.wrapUp = s.pauseEnds := by
  have jog : s.jogTest = s := by rw [State.jogTest, h.noJog]
  rw [State.wrapUp, State.wrapUpWith, jog, State.choose_same h.chosen, h.stopTest, State.examineDispatch,
    State.pauseEnds_idle h, if_neg Bool.false_ne_true, h.going]
  rfl

theorem State.Frozen.wanted (h : s.Frozen p) (a : Axis) : s.wantedSource a = .aim := by
  have some : (s.latestRaw a).isNone = false := by simpa using h.seen a
  simp [State.wantedSource, h.stopping, DvcState.holds, some, h.noHold, State.busy, h.pointing]

theorem State.Frozen.pauseStop (h : s.Frozen p) (cause : s.dvc.cause = .pause) (noShot : s.pen.shot = none) : s.PauseStop where
  stopping := h.stopping
  cause := cause
  noShot := noShot
  noSettle := fun none => by rw [h.pointing] at none; cases none
  noJog := h.noJog
  noHold := h.noHold
  seen := h.seen
  chosen := fun a => by rw [h.wanted, h.aimed, PerAxis.get_both]

/-! ### The end of a frozen pointing in a PAUSE stop (R79, R80) -/

/-- An axis that a pointing leaves as it ends: stopped under control for no block where it is in motion (R79). -/
def State.leftAxis (s : State) (a : Axis) : AxisRec :=
  if (s.axis a).inMotion = true then ((s.axis a).controlledStop a .nobody).axis else s.axis a

/-- The source of an axis that a pointing leaves as it ends (R133). -/
def State.leftSource (s : State) (a : Axis) : Source := if (s.leftAxis a).inMotion = true then .aim else .park

/-- A controlled stop of an axis in motion is for the block that orders it (R90). -/
theorem AxisRec.controlledStop_requester {r : AxisRec} (moves : r.inMotion = true) (a : Axis) (q : Requester) :
    (r.controlledStop a q).axis.requester = q := by
  cases m : r.motion with
  | held => simp [AxisRec.inMotion, m] at moves
  | still => simp [AxisRec.inMotion, m] at moves
  | moving =>
    simp only [AxisRec.controlledStop, m]
    split <;> rfl
  | braking => simp only [AxisRec.controlledStop, m]; rfl

theorem State.leftAxis_nobody (a : Axis) (moves : (s.leftAxis a).inMotion = true) : (s.leftAxis a).requester = .nobody := by
  unfold State.leftAxis at *
  split
  · exact AxisRec.controlledStop_requester ‹_› a _
  · rename_i rest
    rw [if_neg rest] at moves
    exact absurd moves rest

/-- With no settle test in progress, a stop of an axis in motion changes that axis alone. -/
theorem State.stopIfMoving_untested (none : s.apg.settle = none) (a : Axis) :
    s.stopIfMoving a .nobody = s.setAxis a (s.leftAxis a) := by
  unfold State.stopIfMoving State.leftAxis
  split
  · rw [State.stopAxis, State.setSettle, State.setAxis_apg, ← none]
    rfl
  · rw [State.setAxis, State.axis, PerAxis.set_get]

theorem State.stopAfterPointing_untested (free : s.dvc.state.holds = false) (none : s.apg.settle = none) :
    s.stopAfterPointing = { s with apg := { s.apg with axes := { h := s.leftAxis .h, v := s.leftAxis .v } } } := by
  have second := State.stopIfMoving_untested (s := s.setAxis .h (s.leftAxis .h)) none .v
  rw [State.stopAfterPointing, free, if_neg Bool.false_ne_true, State.stopIfMoving_untested none, second]
  rfl

/-- A part without its pointing, both axes left as it ended. -/
def State.left (s : State) : State :=
  { s with
    pen := { s.pen with pointing := none, shot := none }
    apg := { axes := { h := s.leftAxis .h, v := s.leftAxis .v }, settle := none } }

theorem State.left_axis (s : State) (a : Axis) : s.left.axis a = s.leftAxis a := by cases a <;> rfl

/-- An axis left by a frozen pointing has AIM until it is at rest, and PARK then (R133). -/
theorem State.Frozen.left_wanted (h : s.Frozen p) (es : List Entry) (o : Osc) (ns : Notices) {d : Dsl}
    (jog : d.jog = s.dsl.jog) (hold : d.restartHold = s.dsl.restartHold) (a : Axis) :
    State.wantedSource { s.left with entries := es, osc := o, notices := ns, dsl := d } a = s.leftSource a := by
  generalize view : ({ s.left with entries := es, osc := o, notices := ns, dsl := d } : State) = t
  have free : t.dvc.state.holds = false := by rw [← view]; exact congrArg DvcState.holds h.stopping
  have seen : (t.latestRaw a).isSome := by rw [← view]; exact h.seen a
  have noHold : t.dsl.restartHold.get a = false := by rw [← view]; simp [hold, h.noHold]
  have noJog : t.dsl.jog = .none := by rw [← view]; exact jog.trans h.noJog
  have idle : t.pen.pointing = none := by rw [← view]; rfl
  have axis : t.axis a = s.leftAxis a := by rw [← view]; exact s.left_axis a
  unfold State.leftSource
  split
  · rename_i moves
    have some : (t.latestRaw a).isNone = false := by simpa using seen
    simp [State.wantedSource, free, some, noHold, State.busy, idle, axis, AxisRec.movingFor, moves, s.leftAxis_nobody a moves]
  · rename_i rest
    exact State.wanted_park free seen noHold idle noJog (by rw [axis]; exact Bool.eq_false_iff.mpr rest)

/-- The end of a frozen pointing, and the end of its event: the outcome, and then the completion test of the stop (R79, R150). -/
theorem State.Frozen.endPointing (h : s.Frozen p) (cause : s.dvc.cause = .pause)
    (unpended : (s.entry p.target).pendingDef = none) {o : Verdict} (heard : o ≠ .nosensor) :
    (s.endPointing o).wrapUp = s.afterFrozenEnd p o := by
  have free : s.dvc.state.holds = false := by rw [h.stopping]; rfl
  have ready : s.unpointed o = { s with pen := { s.pen with pointing := none, shot := none }, apg := { s.apg with settle := none } } := by
    simp [State.unpointed, heard]
  have stop : (s.unpointed o).stopAfterPointing = s.left := by
    rw [ready]
    exact State.stopAfterPointing_untested free rfl
  have deliver : s.left.deliverOutcome p.target p.kind o = s.left.afterOutcome p.target p.kind o :=
    State.deliverOutcome_eq (s := s.left) unpended p.kind o
  obtain ⟨es, q, ns, form, -⟩ := s.left.afterOutcome_ledgerOnly p.target p.kind o
  have wanted : ∀ a, (s.left.afterOutcome p.target p.kind o).wantedSource a = s.leftSource a := fun a => by
    rw [form]
    exact h.left_wanted es q ns (d := s.dsl) rfl rfl a
  have choice : (s.left.afterOutcome p.target p.kind o).choose
      = State.afterOutcome { s.left with dsl := { s.dsl with selected := { h := s.leftSource .h, v := s.leftSource .v } } }
          p.target p.kind o := by
    have settled : ∀ a, (s.left.afterOutcome p.target p.kind o).wantedSource a = .hold ↔
        (s.left.afterOutcome p.target p.kind o).dsl.selected.get a = .hold := fun a => by
      rw [wanted, form]
      exact iff_of_false (by unfold State.leftSource; split <;> simp) (by simp [State.left, h.aimed])
    rw [State.choose, State.chooseAxes_settled settled, State.chosen, wanted, wanted,
      State.afterOutcome_dsl s.left { s.dsl with selected := _ }, form]
    rfl
  have ended : s.endPointing o = State.afterOutcome
      { s.left with dsl := { s.dsl with selected := { h := s.leftSource .h, v := s.leftSource .v } } } p.target p.kind o := by
    simp only [State.endPointing, h.pointing]
    rw [State.unpointed_eq, stop, deliver, choice]
  have stops : (s.endPointing o).PauseStop := by
    rw [ended, State.afterOutcome_dsl s.left { s.dsl with selected := _ }, form]
    refine ⟨h.stopping, cause, rfl, fun _ => rfl, h.noJog, h.noHold, h.seen, fun a => ?_⟩
    refine (h.left_wanted es q ns (d := { s.dsl with selected := _ }) rfl rfl a).trans ?_
    cases a <;> rfl
  rw [stops.wrapUp, ended]
  rfl

end

end Sys2Proof.Machine
end

section
/-! SUPPORT. The record that a complete capture makes (R54, R127 to R129, R131), and how its pointing goes on or ends (R73 to R76, R80).
The statement CapturesMakeRecords. -/

namespace Sys2Proof.Machine

open Sys2Proof

section
variable {s : State} {p q : Pointing} {c : Capture} {hd : Heading} {x : Option Shot} {o : Verdict}

/-! ### The end of a pointing, by its target and kind (R79) -/

/-- The end of a pointing in flight, whatever else its record holds and whatever shot was in hand. -/
theorem State.MayEnd.endsAs (h : s.MayEnd p) (target : q.target = p.target) (kind : q.kind = p.kind) (live : q.frozen = p.frozen)
    (x : Option Shot) (o : Verdict) : (((s.setShot x).setPointing (some q)).endPointing o).wrapUp = s.afterEnd p o := by
  have ends : ((s.setShot x).setPointing (some q)).MayEnd q :=
    ⟨h.flight.congr rfl rfl rfl (live.trans h.flight.live) h.flight.free rfl h.flight.seen, h.still, by
      rw [target]; exact h.unpended⟩
  rw [ends.endPointing, (ends.rests o).wrapUp, State.afterEnd, State.afterEnd, target, kind]
  rfl

/-- The end of a frozen pointing in a PAUSE stop, whatever else its record holds and whatever shot was in hand. -/
theorem State.Frozen.endsAs (h : s.Frozen p) (cause : s.dvc.cause = .pause) (unpended : (s.entry p.target).pendingDef = none)
    (target : q.target = p.target) (kind : q.kind = p.kind) (frozen : q.frozen = p.frozen) (x : Option Shot)
    (heard : o ≠ .nosensor) : (((s.setShot x).setPointing (some q)).endPointing o).wrapUp = s.afterFrozenEnd p o := by
  have held : ((s.setShot x).setPointing (some q)).Frozen q := h.congr rfl rfl (frozen.trans h.frozen) rfl rfl rfl
  rw [held.endPointing cause (by rw [target]; exact unpended) heard, State.afterFrozenEnd, State.afterFrozenEnd, target, kind]
  rfl

/-! ### The failures of a shot (R76, R80, R121) -/

/-- A failure reported for a shot: DONE after a dwell that has run out, unless the pointing is frozen, and otherwise the outcome. -/
theorem State.shotFails_eq (pointing : s.pen.pointing = some p) (o : Verdict) :
    s.shotFails o =
      ((s.setShot none).setPointing (some p)).endPointing
        (if (p.phase = .follow ∧ p.dwell = some 0) ∧ p.frozen = false then .done else softened p o) := by
  have same : (s.setShot none).setPointing (some p) = s.setShot none := by rw [← pointing]; rfl
  have runOut : (p.dwellOver && !p.frozen) = true ↔ (p.phase = .follow ∧ p.dwell = some 0) ∧ p.frozen = false := by
    simp [Pointing.dwellOver]
  simp only [State.shotFails, pointing, runOut, State.failPointing, State.setShot_pen, same]
  split <;> rfl

/-- R77 leaves MISMATCH as it is. -/
theorem softened_mismatch (p : Pointing) : softened p .mismatch = .mismatch := by
  unfold softened
  split <;> rfl

/-! ### The record of a capture (R54, R127 to R129, R131) -/

/-- The deviations of a CONTROL record are out of tolerance (R54). -/
def State.offTolerance (s : State) (p : Pointing) (hd : Heading) : Bool :=
  let dHz := wrapDiff hd.hz p.frozenCopy.hz
  let dV := hd.v - p.frozenCopy.v
  decide
    (dHz < -s.station.n.controlTol ∨ s.station.n.controlTol < dHz ∨ dV < -s.station.n.controlTol
      ∨ s.station.n.controlTol < dV)

/-- The part after the station-suspect test of a record: a CONTROL record makes station-suspect follow its deviations (R54). -/
def State.suspectJudged (s : State) (p : Pointing) (hd : Heading) : State :=
  if p.frozenCopy.kind = .control ∧ s.offTolerance p hd ≠ s.osc.suspect then
    State.raise { s with osc := { s.osc with suspect := s.offTolerance p hd } } .stationDrift (some p.target)
  else s

theorem State.offTolerance_eq (s : State) (p : Pointing) (hd : Heading) (distance : Int) :
    (deviationsOf p.frozenCopy hd distance).within s.station.n.controlTol = !s.offTolerance p hd := by
  rw [Bool.eq_iff_iff, Bool.not_eq_true', State.offTolerance, decide_eq_false_iff_not]
  simp only [Deviations.within, deviationsOf, Bool.and_eq_true, withinTol_iff]
  omega

theorem State.suspectTest_eq (s : State) (p : Pointing) (hd : Heading) (distance : Int) :
    (if p.frozenCopy.kind = .control then s.suspectTest p.target (deviationsOf p.frozenCopy hd distance) else s)
      = s.suspectJudged p hd := by
  unfold State.suspectJudged State.suspectTest
  rw [State.offTolerance_eq]
  cases suspect : s.osc.suspect <;> cases s.offTolerance p hd <;> by_cases kind : p.frozenCopy.kind = .control <;>
    simp [kind, State.setOsc]

/-- The record's entry into the queue, its OBS frame where it may begin, and the entry's summary (R128, R131): what the making of a
record leaves of the part outside the pointing engine. -/
def State.recorded (s : State) (p : Pointing) (c : Capture) (hd : Heading) : State :=
  let r := s.recordOf p c hd (if p.frozenCopy.kind = .control then s.offTolerance p hd else s.osc.suspect)
  let queue := s.reports.queue ++ [r]
  let goes := s.transmit.controller = none ∧ s.requests.replies = [] ∧ (s.suspectJudged p hd).notices.alertWaits = false
  { s.suspectJudged p hd with
    reports := { s.reports with queue := queue, nextSequence := (s.reports.nextSequence + 1) % 65536 }
    transmit := if goes then { s.transmit with controller := queue.head?.map .obs } else s.transmit
    entries :=
      s.entries.set p.target
        { s.entry p.target with
          lastSummary := some { siteTime := r.siteTime, hz := hd.hz, v := hd.v, distance := r.distance } } }

/-- The station-suspect test changes station-suspect and the notices alone. -/
theorem State.suspectJudged_form (s : State) (p : Pointing) (hd : Heading) :
    ∃ ns, s.suspectJudged p hd =
      { s with
        osc := { s.osc with suspect := if p.frozenCopy.kind = .control then s.offTolerance p hd else s.osc.suspect }
        notices := ns } := by
  unfold State.suspectJudged
  split
  · rename_i moves
    rw [if_pos moves.1]
    exact ⟨_, rfl⟩
  · rename_i stays
    have same : (if p.frozenCopy.kind = .control then s.offTolerance p hd else s.osc.suspect) = s.osc.suspect := by
      split
      · by_contra other
        exact stays ⟨‹_›, other⟩
      · rfl
    rw [same]
    exact ⟨s.notices, rfl⟩

/-- The OBS frame of the oldest record begins where the transmitter is free and neither a REPLY nor an ALERT waits (R131). -/
theorem State.beginObs_eq {t : State} (some : t.reports.queue ≠ []) :
    t.beginObs =
      { t with
        transmit :=
          if t.transmit.controller = none ∧ t.requests.replies = [] ∧ t.notices.alertWaits = false then
            { t.transmit with controller := t.reports.queue.head?.map .obs }
          else t.transmit } := by
  obtain ⟨r, rest, queue⟩ := List.exists_cons_of_ne_nil some
  have may : t.mayBegin .obs = true ↔
      t.transmit.controller = none ∧ t.requests.replies = [] ∧ t.notices.alertWaits = false := by
    simp only [State.mayBegin, State.firstSource, queue, Bool.and_eq_true, Option.isNone_iff_eq_none, decide_eq_true_eq]
    refine and_congr_right fun _ => ?_
    cases t.requests.replies <;> cases t.notices.alertWaits <;> simp
  simp only [State.beginObs, queue, may]
  split <;> rfl

/-- A record made is the part with it recorded, and the pointing engine's own act on it (R128, R73). -/
theorem State.makeRecord_eq (s : State) (p : Pointing) (c : Capture) (hd : Heading) :
    s.makeRecord p c hd = ((s.recorded p c hd).setShot none).recordMade p := by
  unfold State.makeRecord
  dsimp only
  rw [State.suspectTest_eq, State.beginObs_eq (by simp)]
  unfold State.recorded
  obtain ⟨ns, form⟩ := s.suspectJudged_form p hd
  rw [form]
  rfl

/-- The making of a record leaves the pointing engine, the axes, the drive selector, the histories and DVC as they are. -/
theorem State.recorded_form (s : State) (p : Pointing) (c : Capture) (hd : Heading) :
    ∃ b ns reports transmit e, e.pendingDef = (s.entry p.target).pendingDef ∧
      s.recorded p c hd =
        { s with
          osc := { s.osc with suspect := b }, notices := ns, reports := reports, transmit := transmit,
          entries := s.entries.set p.target e } := by
  obtain ⟨ns, form⟩ := s.suspectJudged_form p hd
  unfold State.recorded
  rw [form]
  refine ⟨_, _, _, _, _, ?_, rfl⟩
  rfl

theorem State.recorded_pendingDef (s : State) (p : Pointing) (c : Capture) (hd : Heading) :
    ((s.recorded p c hd).entry p.target).pendingDef = (s.entry p.target).pendingDef := by
  obtain ⟨_, _, _, _, e, kept, form⟩ := s.recorded_form p c hd
  rw [form]
  exact State.setEntry_keeps (s := s) Entry.pendingDef kept

theorem State.InFlight.recorded (h : s.InFlight p) (c : Capture) (hd : Heading) : (s.recorded p c hd).InFlight p := by
  obtain ⟨_, _, _, _, _, -, form⟩ := s.recorded_form p c hd
  rw [form]
  exact h.congr rfl rfl h.pointing h.live h.free rfl h.seen

theorem State.MayEnd.recorded (h : s.MayEnd p) (c : Capture) (hd : Heading) : (s.recorded p c hd).MayEnd p where
  flight := h.flight.recorded c hd
  still := by
    obtain ⟨_, _, _, _, _, -, form⟩ := s.recorded_form p c hd
    rw [form]
    exact h.still
  unpended := (s.recorded_pendingDef p c hd).trans h.unpended

theorem State.Frozen.recorded (h : s.Frozen p) (c : Capture) (hd : Heading) : (s.recorded p c hd).Frozen p := by
  obtain ⟨_, _, _, _, _, -, form⟩ := s.recorded_form p c hd
  rw [form]
  exact h.congr rfl h.pointing h.frozen rfl rfl rfl

theorem State.recorded_dvc (s : State) (p : Pointing) (c : Capture) (hd : Heading) : (s.recorded p c hd).dvc = s.dvc := by
  obtain ⟨_, _, _, _, _, -, form⟩ := s.recorded_form p c hd
  rw [form]

theorem State.recorded_pen (s : State) (p : Pointing) (c : Capture) (hd : Heading) : (s.recorded p c hd).pen = s.pen := by
  obtain ⟨_, _, _, _, _, -, form⟩ := s.recorded_form p c hd
  rw [form]

theorem State.recorded_station (s : State) (p : Pointing) (c : Capture) (hd : Heading) :
    (s.recorded p c hd).station = s.station := by
  obtain ⟨_, _, _, _, _, -, form⟩ := s.recorded_form p c hd
  rw [form]

/-- The shot in hand has no part in the making of a record. -/
theorem State.recorded_setShot (s : State) (x : Option Shot) (p : Pointing) (c : Capture) (hd : Heading) :
    (s.setShot x).recorded p c hd = (s.recorded p c hd).setShot x := by
  have suspectJudged : (s.setShot x).suspectJudged p hd = (s.suspectJudged p hd).setShot x := by
    unfold State.suspectJudged
    rw [apply_ite (State.setShot · x)]
    rfl
  unfold State.recorded
  rw [suspectJudged]
  rfl

/-! ### The pointing after its record (R73 to R76) -/

/-- The dwell that a pointing holds once its record is made: it begins at the first record of a MEASURE (R74). -/
def Pointing.dwellAfter (p : Pointing) : Option Nat :=
  if p.phase = .measure ∧ p.followCount = 0 then some p.frozenCopy.dwell else p.dwell

/-- A record ends its pointing: not a TRACK, or with a dwell of 0 (R74, R76). -/
def Pointing.endsAtRecord (p : Pointing) : Prop := p.frozenCopy.kind ≠ .track ∨ p.dwellAfter = some 0

/-- A TRACK pointing that goes on in FOLLOW after its record (R74, R75). -/
def Pointing.followsOn (p : Pointing) (interval : Nat) : Pointing :=
  { p with
    attempts := 0, reservation := false, followCount := p.followCount + 1, dwell := p.dwellAfter, phase := .follow,
    track := some interval }

theorem State.recordMade_ends (s : State) (ends : p.endsAtRecord) :
    ∃ q, q.target = p.target ∧ q.kind = p.kind ∧ q.frozen = p.frozen
      ∧ s.recordMade p = (s.setPointing (some q)).endPointing .done := by
  by_cases track : p.frozenCopy.kind = .track
  · exact ⟨p.followsOn s.station.n.trackInterval, rfl, rfl, rfl,
      (if_neg (not_not.mpr track)).trans (if_pos (ends.resolve_left (not_not.mpr track)))⟩
  · exact ⟨{ p with attempts := 0, reservation := false }, rfl, rfl, rfl, if_pos track⟩

theorem State.recordMade_goesOn (s : State) (goes : ¬p.endsAtRecord) :
    s.recordMade p = s.setPointing (some (p.followsOn s.station.n.trackInterval)) := by
  obtain ⟨track, dwell⟩ := not_or.mp goes
  exact (if_neg track).trans (if_neg dwell)

/-! ### A complete capture (R126 to R128) -/

/-- The distance of a capture is off by more than dtol, where the check applies (R127). -/
def Capture.mismatches (c : Capture) (p : Pointing) : Prop :=
  (p.frozenCopy.d0 ≠ 0 ∧ (p.frozenCopy.kind ≠ .track ∨ p.followCount = 0))
    ∧ (max 0 (c.distance + p.frozenCopy.prism) - p.frozenCopy.d0 < -p.frozenCopy.dtol
      ∨ p.frozenCopy.dtol < max 0 (c.distance + p.frozenCopy.prism) - p.frozenCopy.d0)

/-- The direction of a capture with these raw values (R16, R128). -/
def State.headingOf (s : State) (rH rV : Int) : Heading :=
  forwardReduction s rH rV ((s.squ.last.map (·.at_)).getD { dx := 0, dy := 0 })

theorem State.completeCapture_eq (pointing : s.pen.pointing = some p) (c : Capture) (rH rV : Int) :
    (c.mismatches p → s.completeCapture c rH rV = s.shotFails .mismatch)
      ∧ (¬c.mismatches p → s.completeCapture c rH rV = s.makeRecord p c (s.headingOf rH rV)) := by
  have fails : (checkApplies p
        && !withinTol p.frozenCopy.dtol (correctedDistance p.frozenCopy c.distance - p.frozenCopy.d0)) = true ↔
      c.mismatches p := by
    rw [Bool.and_eq_true, Bool.not_eq_true', ← Bool.not_eq_true, withinTol_iff, checkApplies, decide_eq_true_iff,
      Capture.mismatches, correctedDistance, not_and_or, Int.not_le, Int.not_le]
  unfold State.completeCapture
  rw [pointing]
  exact ⟨fun yes => if_pos (fails.mpr yes), fun no => if_neg fun x => no (fails.mp x)⟩

/-- A capture that is complete reads nothing of the shot in hand, which goes whatever comes of it. -/
theorem State.completeCapture_setShot (s : State) (x : Option Shot) (c : Capture) (rH rV : Int) :
    (s.setShot x).completeCapture c rH rV = s.completeCapture c rH rV := by
  cases pointing : s.pen.pointing with
  | none =>
    simp only [State.completeCapture, State.setShot_pen, pointing]
    rfl
  | some p =>
    by_cases fails : c.mismatches p
    · rw [(State.completeCapture_eq (s := s.setShot x) pointing c rH rV).1 fails,
        (State.completeCapture_eq pointing c rH rV).1 fails, State.shotFails_eq (s := s.setShot x) pointing,
        State.shotFails_eq pointing]
      rfl
    · rw [(State.completeCapture_eq (s := s.setShot x) pointing c rH rV).2 fails,
        (State.completeCapture_eq pointing c rH rV).2 fails, State.makeRecord_eq, State.makeRecord_eq, State.recorded_setShot]
      rfl

/-- A capture whose values both histories give is complete at once (R126). -/
theorem State.rangeArrives_found {id age k : Nat} {distance x y : Int} {strength : Nat}
    (shot : s.pen.shot = some { id := id, stage := .awaitingRange k })
    (fH : interpolate .h s.scu.history.h (s.captureTime age) = .value x)
    (fV : interpolate .v s.scu.history.v (s.captureTime age) = .value y) :
    s.rangeArrives id age distance strength .ok =
      s.completeCapture
        { time := s.captureTime age, distance := distance, strength := strength, found := { h := some x, v := some y } } x y := by
  simp only [State.rangeArrives, shot, if_true, State.answer, State.capture, fH, fV, reduceCtorEq, or_self, if_false]
  rfl

/-- What a pointing that goes on in FOLLOW leaves at its record. -/
def State.following (s : State) (p : Pointing) (c : Capture) (hd : Heading) : State :=
  { s.recorded p c hd with
    pen := { s.pen with shot := none, pointing := some (p.followsOn s.station.n.trackInterval) } }

theorem State.following_eq (goes : ¬p.endsAtRecord) : ((s.recorded p c hd).setShot none).recordMade p = s.following p c hd := by
  have station : ((s.recorded p c hd).setShot none).station = s.station := s.recorded_station p c hd
  rw [State.recordMade_goesOn _ goes, station, State.setPointing, State.setShot_pen, State.recorded_pen]
  rfl

theorem State.InFlight.following (h : s.InFlight p) (c : Capture) (hd : Heading) :
    (s.following p c hd).wrapUp = s.following p c hd :=
  (h.recorded c hd).penOnly (q := p.followsOn s.station.n.trackInterval) (y := (s.recorded p c hd).transmit) rfl h.live

theorem State.Frozen.following (h : s.Frozen p) (cause : s.dvc.cause = .pause) (c : Capture) (hd : Heading) :
    (s.following p c hd).wrapUp = (s.following p c hd).pauseEnds := by
  have held : (s.following p c hd).Frozen (p.followsOn s.station.n.trackInterval) :=
    (h.recorded c hd).congr rfl rfl h.frozen rfl rfl rfl
  exact (held.pauseStop ((congrArg Dvc.cause (s.recorded_dvc p c hd)).trans cause) rfl).wrapUp

/-- What a CAPTURE_COMPLETE comes to: the shot's failure, or the record (R127, R128). -/
theorem exec_captureComplete {id : Nat} (shot : s.pen.shot = some { id := id, stage := .awaitingAngles c }) (rH rV : Int) :
    exec (.captureComplete rH rV) s = .next (s.completeCapture c (c.found.h.getD rH) (c.found.v.getD rV)).wrapUp := by
  refine congrArg Host.Outcome.next ?_
  simp only [State.captureCompletes, shot]

end

/-- Settles O52: the failure or the record, and the act of the pointing on it, in flight and frozen. -/
theorem capturesMakeRecords : Obligations.CapturesMakeRecords := by
  intro s p id c rH rV either shot d hd distance applies fails dHz dV tol off suspect s' r queue goes made dwell ends followed held
  have pointing : s.pen.pointing = some p := either.elim (·.pointing) (·.pointing)
  have next := exec_captureComplete shot rH rV
  have capture := State.completeCapture_eq pointing c (c.found.h.getD rH) (c.found.v.getD rV)
  have mismatch : fails → s.completeCapture c (c.found.h.getD rH) (c.found.v.getD rV) = _ := fun off =>
    (capture.1 off).trans (State.shotFails_eq pointing _)
  have record : ¬fails → s.completeCapture c (c.found.h.getD rH) (c.found.v.getD rV)
      = ((s.recorded p c hd).setShot none).recordMade p := fun within => (capture.2 within).trans (s.makeRecord_eq p c hd)
  refine ⟨fun off may => ?_, fun off ⟨unpended, frozen, cause⟩ => ?_, fun within last may => ?_,
    fun within last ⟨unpended, frozen, cause⟩ => ?_, fun within more flight => ?_, fun within more frozen cause => ?_,
    fun s₀ us age k x y => ?_⟩
  · have verdict : (if (p.phase = .follow ∧ p.dwell = some 0) ∧ p.frozen = false then .done else softened p .mismatch)
        = if p.phase = .follow ∧ p.dwell = some 0 then Verdict.done else .mismatch := by
      simp only [may.flight.live, and_true, softened_mismatch]
    rw [next, mismatch off, verdict, may.endsAs rfl rfl rfl]
  · have verdict : (if (p.phase = .follow ∧ p.dwell = some 0) ∧ p.frozen = false then .done else softened p .mismatch)
        = Verdict.mismatch := by
      simp only [frozen.frozen, reduceCtorEq, and_false, if_false, softened_mismatch]
    rw [next, mismatch off, verdict, frozen.endsAs cause unpended rfl rfl rfl none (by simp)]
  · obtain ⟨q, target, kind, live, finishes⟩ := State.recordMade_ends ((s.recorded p c hd).setShot none) last
    rw [next, record within, finishes, (may.recorded c hd).endsAs target kind live]
    rfl
  · obtain ⟨q, target, kind, live, finishes⟩ := State.recordMade_ends ((s.recorded p c hd).setShot none) last
    rw [next, record within, finishes, (frozen.recorded c hd).endsAs ((congrArg Dvc.cause (s.recorded_dvc p c hd)).trans cause)
      ((s.recorded_pendingDef p c hd).trans unpended) target kind live none (by simp)]
    rfl
  · rw [next, record within, State.following_eq more, flight.following c hd]
    rfl
  · rw [next, record within, State.following_eq more, frozen.following cause c hd]
    rfl
  · intro u t waits fH fV
    have found := State.rangeArrives_found (s := u) (distance := c.distance) (strength := c.strength) waits fH fV
    have angles := exec_captureComplete
      (s := u.setShot (some { id := id, stage := .awaitingAngles { c with time := t, found := { h := some x, v := some y } } }))
      rfl 0 0
    rw [State.completeCapture_setShot] at angles
    exact (congrArg (fun w : State => Host.Outcome.next w.wrapUp) found).trans angles.symm

end Sys2Proof.Machine
end
